-- ==== Sys2Proof/Word.lean ====
section
/-! DEFINITION. The plain words of the model: bytes, byte strings and sparse tables.
The spec numbers its registers and frames in bytes stored little-endian (R4). -/

namespace Sys2Proof

/-- One byte. -/
abbrev Byte := BitVec 8

/-- A string of bytes, lowest address first. -/
abbrev Bytes := List Byte

/-- A sparse table: a value for each listed key, every other key holding the default its reader names. -/
abbrev Tab (α : Type) := List (Nat × α)

end Sys2Proof
end

