-- ==== Sys2Proof/Types.lean ====
section
/-! DEFINITION. The operand types of the commands: who sends one and what it carries. -/

namespace Sys2Proof

/-- The two routes to the Catalogue (R41): the mailbox of the register BAR, or an open network session. -/
inductive Route where
  | mailbox
  | session (slot : Fin 8)
  deriving DecidableEq, Repr

/-- A link that trains under R192: one of the 32 head-link lanes, or one of the two pair-link lanes (R276). -/
inductive Link where
  | lane (l : Fin 32)
  | pair (i : Fin 2)
  deriving DecidableEq, Repr

/-- A ring of R90: accession ring 0-3 or egress ring 0-3. -/
inductive RingId where
  | accession (r : Fin 4)
  | egress (r : Fin 4)
  deriving DecidableEq, Repr

/-- The part of a 32-byte ring descriptor that the host writes, as the engine reads it from host memory (R91, R105). -/
structure Desc where
  addr   : BitVec 64
  length : BitVec 32
  flags  : Byte
  tag    : BitVec 32
  deriving DecidableEq, Repr

/-- Where a container comes from: an accession ring, a block transfer to NET_ACCESSION (R97), or the active peer (R280). -/
inductive ContainerSrc where
  | ring (r : Fin 4)
  | network
  deriving DecidableEq, Repr

/-- Where a datagram comes from: the port it arrived on, the sender's addresses, and whether it was sent to SHARED_IP (R304). -/
structure NetSrc where
  port   : Fin 2
  mac    : BitVec 48
  ip     : BitVec 32
  udp    : BitVec 16
  shared : Bool
  deriving DecidableEq, Repr

/-- The fields of a received ARP frame that R301 looks at. -/
structure ArpFrame where
  request   : Bool
  senderMac : BitVec 48
  senderIp  : BitVec 32
  targetIp  : BitVec 32
  deriving DecidableEq, Repr

/-- What a slice of a long operation met outside the engine's own state (R48): nothing, data of a device it reads, or a failure of that device. -/
inductive SliceObs where
  | nothing
  | uncorrectable
  | flashBad
  | convert (offset mean : Int) (stable : Bool)
  | ranksFail (mask : BitVec 8)
  deriving DecidableEq, Repr

/-- Where the nozzle path's SRAM protection met an uncorrectable error (R156): the line's buffer, the table that the line
reads, the threshold array, the spare table, or the line's data in the drop ring. -/
inductive EccPlace where
  | lineBuffer
  | table
  | threshold
  | spare
  | dropRing
  deriving DecidableEq, Repr

/-- What a configuration write leaves of the power state and PME_En (R345). -/
structure PowerWrite where
  d3hot : Bool
  pmeEn : Bool
  deriving DecidableEq, Repr

/-- What one writes besides Bus Master Enable and the power state (R343): a base address register, the device's payload and read
request sizes, MSI-X Enable and Function Mask. -/
inductive ConfigWrite where
  | bar (i : Fin 4) (value : BitVec 32)
  | sizes (payload : Fin 3) (readRequest : Fin 6)
  | msix (enable mask : Bool)
  deriving DecidableEq, Repr

/-- What that protection met in one line's work: errors corrected, and the uncorrectable error if there was one. -/
structure EccObs where
  corrected : Nat
  bad       : Option EccPlace
  deriving DecidableEq, Repr

/-- How a CCI transaction ended on its bus (R231). -/
inductive CciResult where
  | done (data : Bytes)
  | nack
  | busFault
  deriving DecidableEq, Repr

/-- The clock whose fault R412 detects. -/
inductive ClockFault where
  | xtal
  | pll
  | hlref
  | enref
  | peref
  deriving DecidableEq, Repr

/-- The user of a DRAM read that met an error (R377, R378). -/
inductive DramUser where
  | composition (g : Fin 8) (line : BitVec 32)
  | reserveBar
  | bulk
  | other
  deriving DecidableEq, Repr

/-- What the MIRROR message carries: the mirrored write of R41 (R280), or a step of device time, by its amount in 2^-48 ns, with
the epoch after it (R327). -/
inductive MirrorBody where
  | write (mailbox : Bool) (index : BitVec 16) (sub : Byte) (data : Bytes)
  | step (amount : Int) (epoch : Fin 16)
  deriving DecidableEq, Repr

/-- The SEGMENT message (R280). -/
inductive SegmentPart where
  | container (bytes : Bytes)
  | direct (id : BitVec 32) (offset : Nat) (bytes : Bytes) (last : Bool)
  deriving DecidableEq, Repr

/-- A bay's part of the peer's BAY_STATE: its lane's state and MOD_CAPS, the identity result with its record, and the last
STATUS (R279, R283). -/
structure BayState where
  lane    : Byte
  caps    : BitVec 32
  idState : Byte
  record  : Bytes
  temp    : BitVec 16
  supply  : BitVec 16
  band    : Byte
  trim    : BitVec 16
  inkCold : Bool
  deriving DecidableEq, Repr

/-- What an ALIGN's device time finds on a unit: channel 0's position, the line clock's high-water mark, next boundary and
LAST_TICK, and the accumulator and output position of each emulated encoder (R284). -/
structure AlignValues where
  position : Int
  tick     : BitVec 32
  hwm      : Int
  bInt     : Int
  bFrac    : BitVec 32
  acc0     : Int
  out0     : Int
  acc1     : Int
  out1     : Int
  deriving DecidableEq, Repr

/-- The ALIGN message (R284): it names t_a; once t_a has passed, the active sends it again with what it found. -/
structure AlignMsg where
  ta     : Nat
  values : Option AlignValues
  deriving DecidableEq, Repr

/-- One item of a resynchronisation (R293). The first names the mirror sequence that follows it; the last ends the image. -/
inductive ResyncItem where
  | start (seq : BitVec 32)
  | entry (index : BitVec 16) (sub : Byte) (data : Bytes)
  | mode (mode : Byte) (printing : Byte) (causes : BitVec 32)
  | segment (id : BitVec 32) (type : Byte) (bytes : Bytes)
  | captions (q : Fin 64) (base nextInst : BitVec 32) (tiles : List (BitVec 32 × Bytes))
  | table (g : Fin 8) (spare : Bool) (state : Fin 4) (source swapCount : BitVec 32) (entries : List (Fin 131072 × BitVec 64))
  | swap (g : Fin 8) (line : BitVec 32) (owner : Fin 2)
  | plan (armed : Bool) (id base switch : BitVec 32)
  | bay (b : Fin 512) (st : BayState)
  | finish
  deriving DecidableEq, Repr

/-- The fields of a PTP Announce that the default BMCA compares (R330). -/
structure Announce where
  priority1 : BitVec 8
  clockClass : BitVec 8
  accuracy  : BitVec 8
  variance  : BitVec 16
  priority2 : BitVec 8
  identity  : BitVec 64
  stepsRemoved : BitVec 16
  sender    : BitVec 64
  deriving DecidableEq, Repr

/-- What a phase of the self-test finds in one domain (R445-R447): its hallmark, the first failing word, all ones for none, and
the March element of the mismatch. -/
structure DomainResult where
  hallmark : BitVec 32
  address  : BitVec 32
  element  : Byte
  deriving DecidableEq, Repr

/-! Operands that belong together -/

/-- A line whose frame starts, and what reading it from its drop ring met (R156). -/
structure LineRead where
  line : BitVec 32
  ring : EccObs
  deriving DecidableEq, Repr

/-- An eye as measured, in the steps of R195. -/
structure Eye where
  width  : Fin 65
  height : Fin 129
  deriving DecidableEq, Repr

/-- Code groups received on a link: the disparity that stood before them, and whether a frame was open (R180). -/
structure CodeRun where
  link     : Link
  groups   : List (BitVec 10)
  inFrame  : Bool
  positive : Bool
  deriving DecidableEq, Repr

/-- A packet's virtual channel, and whether its header needed a correction (R219). -/
structure CsiHeader where
  vc        : Fin 4
  corrected : Bool
  deriving DecidableEq, Repr

/-- Why a packet is discarded: its header is uncorrectable, or nothing acts on it, corrected or not (R219). -/
inductive CsiDiscard where
  | uncorrectable
  | ignored (corrected : Bool)
  deriving DecidableEq, Repr

/-- An echo request: identifier and sequence number, then its data (R302). -/
structure EchoRequest where
  id   : BitVec 32
  data : Bytes
  deriving DecidableEq, Repr

/-- Who asks for a Delay_Resp, and with which sequenceId (R331). -/
structure DelayReq where
  requester : BitVec 80
  seq       : BitVec 16
  deriving DecidableEq, Repr

/-- The width a link has, and, of one that is down, whether it is in L2 (R345). -/
structure LinkWidth where
  width : Fin 9
  l2    : Bool
  deriving DecidableEq, Repr

/-- A checker's lane, and the errors it has seen since it last told (R199). -/
structure PrbsCheck where
  lane   : Fin 32
  errors : Nat
  deriving DecidableEq, Repr

end Sys2Proof
end

