-- ==== Sys2Proof/Syntax.lean ====
section
/-! DEFINITION. The commands of the block, one constructor per row of the opcode table.
Each carries dt, the core clocks of 1.2 GHz that pass between the command before it and this one
(DESIGN CHOICE, log entry 1), and the operands its rule names. -/

namespace Sys2Proof

/-- The commands. -/
inductive Instr where
  /-- READ (R41). A Catalogue READ service, from either route, returns an entry's value after the checks of R47. -/
  | read (dt : Nat) (route : Route) (index : BitVec 16) (sub : Byte) (data : Bytes)
  /-- WRITE (R41). A plain Catalogue WRITE to an entry that has no row of its own is checked under R47 and applied whole, with any mirroring and its response. -/
  | write (dt : Nat) (route : Route) (index : BitVec 16) (sub : Byte) (data : Bytes)
  /-- BLOCK_READ_START (R44). Opens a block read transfer of a DOMAIN entry and returns its total length and CRC-32C. -/
  | blockReadStart (dt : Nat) (route : Route) (index : BitVec 16) (sub : Byte) (data : Bytes)
  /-- BLOCK_WRITE_START (R44). Opens a block write transfer of a DOMAIN entry, or completes it at once when the length is 0. -/
  | blockWriteStart (dt : Nat) (route : Route) (index : BitVec 16) (sub : Byte) (data : Bytes)
  /-- BLOCK_WRITE_SEGMENT (R44). Appends a contiguous segment to an open write transfer and, at the last byte, checks the CRC and replaces the value. -/
  | blockWriteSegment (dt : Nat) (route : Route) (index : BitVec 16) (sub : Byte) (data : Bytes)
  /-- BLOCK_READ_SEGMENT (R44). Returns bytes at an offset of an open read transfer and ends the transfer after its last byte. -/
  | blockReadSegment (dt : Nat) (route : Route) (index : BitVec 16) (sub : Byte) (data : Bytes)
  /-- BLOCK_CANCEL (R45). Ends the open block transfer of the session or mailbox at once. -/
  | blockCancel (dt : Nat) (route : Route) (index : BitVec 16) (sub : Byte) (data : Bytes)
  /-- BLOCK_TRANSFER_TIMEOUT (R45). A transfer with no service for 1 s is cancelled. -/
  | blockTransferTimeout (dt : Nat) (route : Route)
  /-- ABORT (R50). The ABORT command moves a queued operation to ABORTED, or a running operation to ABORTING. -/
  | abort (dt : Nat) (route : Route) (slot : Fin 16) (data : Bytes)
  /-- RELEASE (R50). The RELEASE command frees the slot of a finished long operation. -/
  | release (dt : Nat) (route : Route) (slot : Fin 16) (data : Bytes)
  /-- LONGOP_SLICE (R48). Curator runs one slice of at most 500 µs of a running long operation, which may end it DONE, FAILED or ABORTED. -/
  | longopSlice (dt : Nat) (slot : Fin 16) (progress : Nat) (obs : SliceObs)
  /-- LONGOP_DEQUEUE (R49). A queued operation enters RUNNING once the resources it waits for are released. -/
  | longopDequeue (dt : Nat) (slot : Fin 16)
  /-- ENCODER_EDGE (R56). An accepted A/B edge of an encoder channel leaves the filter and updates the position, direction, speed and line clock. -/
  | encoderEdge (dt : Nat) (ch : Fin 2) (a : Bool) (b : Bool)
  /-- ENCODER_INDEX_EDGE (R57). A qualified Z edge latches INDEX_POSITION and is checked against the index reference. -/
  | encoderIndexEdge (dt : Nat) (ch : Fin 2)
  /-- XCHECK_WINDOW_END (R58). Channel 0 advances XCHECK_WINDOW counts; the slip deviation is computed and may raise COUNT_DEVIATION or set the SAFE latch. -/
  | xcheckWindowEnd (dt : Nat)
  /-- WEB_STILL (R62). No edge arrives within T_STILL, so the channel reports standstill and SPEED 0. -/
  | webStill (dt : Nat) (ch : Fin 2)
  /-- SYNTHESISED_TICK (R68). In INTERPOLATE, the due time of a boundary between edges passes and a master tick is issued at that time. -/
  | synthesisedTick (dt : Nat)
  /-- ORIGIN (R71). The ORIGIN command sets the next tick number and re-bases the high-water mark and boundary. -/
  | origin (dt : Nat) (route : Route) (data : Bytes)
  /-- COMPARE_PULSE_END (R80). PULSE_WIDTH expires and a compare output or CAMTRIG returns inactive. -/
  | comparePulseEnd (dt : Nat) (m : Fin 16)
  /-- PROBE_EDGE (R75). An accepted probe edge of the selected sense records its raw time. -/
  | probeEdge (dt : Nat) (p : Fin 4) (level : Bool)
  /-- PROBE_LATCH (R76). Once the encoder filter delay has passed, the probe position is found in the edge history, checked against the window and queued. -/
  | probeLatch (dt : Nat) (p : Fin 4)
  /-- EMU_STEP (R82). After MIN_EDGE, the emulated encoder steps its output position one count toward the owed position. -/
  | emuStep (dt : Nat) (e : Fin 2)
  /-- LINE_COMPLETE (R17). A line finishes bay packing into the drop ring, and tables, caption tiles and buffers that it held are released. -/
  | lineComplete (dt : Nat) (g : Fin 8) (line : BitVec 32) (obs : EccObs)
  /-- LINE_FRAME_START (R18). D(N − 1) passes and the frame of line N starts on a lane, with fire-at, bay mask, waveform sets and trims fixed and the overspeed and prediction checks applied. -/
  | lineFrameStart (dt : Nat) (lane : Fin 32) (line : LineRead)
  /-- DATA_LATE (R19). A line is not complete in time to leave by D(N), so BLANK is sent and the late work is discarded. -/
  | dataLate (dt : Nat) (g : Fin 8) (line : BitVec 32)
  /-- LANE_FRAME_SENT (R188). A frame's last symbol leaves; the IDLE and TIME follow, and the next frame is chosen under the lane order. -/
  | laneFrameSent (dt : Nat) (link : Link)
  /-- TIME_PERIODIC (R181). With no frame on the lane, a TIME ordered set is sent at least every 4.096 µs. -/
  | timePeriodic (dt : Nat) (link : Link)
  /-- TICK_OVERDUE (R164). No master tick by phi + 2p invalidates the predictor and cancels later lines on every lane. -/
  | tickOverdue (dt : Nat)
  /-- GATE_INPUT_ACCEPTED (R173). A gate input's new level is accepted after FILTER µs, which may withdraw or restore the gate and act in acting modes. -/
  | gateInputAccepted (dt : Nat) (n : Fin 8) (p : Bool) (c : Bool)
  /-- GATE_FAULT (R173). P equals C for more than 1 ms, so the gate enters FAULT. -/
  | gateFault (dt : Nat) (n : Fin 8)
  /-- FAULT_CLEAR (R173). The FAULT_CLEAR command returns the named faulted gates to HEALTHY or WITHDRAWN. -/
  | faultClear (dt : Nat) (route : Route) (data : Bytes)
  /-- STATUS_RECEIVED (R205). An upstream STATUS frame updates each bay's temperatures, supply, waveform band, width trim and INK_COLD state. -/
  | statusReceived (dt : Nat) (lane : Fin 32) (frame : Bytes)
  /-- CTRL_ACK_RECEIVED (R201). A CTRL_ACK answers an outstanding control write or WAVE_LOAD frame. -/
  | ctrlAckReceived (dt : Nat) (lane : Fin 32) (frame : Bytes)
  /-- CTRL_DATA_RECEIVED (R201). A CTRL_DATA answers an outstanding control read, such as MOD_CAPS or REG_DATA. -/
  | ctrlDataReceived (dt : Nat) (lane : Fin 32) (frame : Bytes)
  /-- CTRL_RETRY (R201). A control transaction unanswered for 1 ms is resent, and after three resends raises CTRL_TIMEOUT. -/
  | ctrlRetry (dt : Nat) (lane : Fin 32) (tag : BitVec 16)
  /-- ID_DATA_RECEIVED (R207). Head identity data arrives and the record is checked, accepted or failed under R209 and R210. -/
  | idDataReceived (dt : Nat) (lane : Fin 32) (frame : Bytes)
  /-- ID_READ_RETRY (R207). An ID_READ unanswered for 50 ms is retried, and after three retries the bay is recorded as giving no answer. -/
  | idReadRetry (dt : Nat) (lane : Fin 32) (tag : BitVec 16)
  /-- FAULT_RECEIVED (R206). A module FAULT frame raises MODULE_LATE or MODULE_FAULT. -/
  | faultReceived (dt : Nat) (lane : Fin 32) (frame : Bytes)
  /-- DELAY_RESP_RECEIVED (R190). A DELAY_RESP gives T2 and T3, and the engine computes the lane's DELAY and checks the 300 ns limit. -/
  | delayRespReceived (dt : Nat) (link : Link) (frame : Bytes)
  /-- TIME_SYNC_SEND (R190). Every TIME_SYNC_PERIOD, a TIME_SYNC is queued on a lane in RUN. -/
  | timeSyncSend (dt : Nat) (link : Link)
  /-- TIME_SYNC_UNANSWERED (R190). A third consecutive TIME_SYNC without DELAY_RESP takes the lane down with cause time. -/
  | timeSyncUnanswered (dt : Nat) (link : Link)
  /-- TRAIN_RECEIVED (R193). A TRAIN ordered set from the partner advances alignment, equalisation or verification, and may bring the lane into RUN. -/
  | trainReceived (dt : Nat) (link : Link) (localOk : Bool) (state : Byte) (value : Byte) (request : Byte)
  /-- LANE_DETECT (R192). The receiver has been out of electrical idle for 100 µs, and the lane moves from DETECT to ALIGN. -/
  | laneDetect (dt : Nat) (link : Link)
  /-- EQ_PRESET_STEP (R195). A 500 µs adapt or measure interval of equalisation ends, and the next preset is requested or the best is chosen. -/
  | eqPresetStep (dt : Nat) (link : Link) (eye : Eye)
  /-- VERIFY_PRBS_END (R192). The 10 ms PRBS31 of VERIFY ends, and TRAIN(RESULT) is sent. -/
  | verifyPrbsEnd (dt : Nat) (link : Link) (errors : Nat)
  /-- TRAIN_TIMEOUT (R192). A training state times out and returns to DETECT, or after three timeouts the lane enters FAILED with TRAIN_FAILED. -/
  | trainTimeout (dt : Nat) (link : Link)
  /-- AUTO_RETRAIN (R192). After 1 s in FAILED with AUTO_RETRAIN, the lane restarts DETECT. -/
  | autoRetrain (dt : Nat) (link : Link)
  /-- FOM_MEASURE (R195). Every 1 ms in RUN, the FOM is measured and may raise LINK_MARGINAL. -/
  | fomMeasure (dt : Nat) (lane : Fin 32) (eye : Eye)
  /-- CODE_ERROR_LIMIT (R197). 16 code errors within 1,024 symbols take the lane down. -/
  | codeErrorLimit (dt : Nat) (run : CodeRun)
  /-- COMMA_LOSS (R197). No K28.5 for 4,096 symbols takes the lane down. -/
  | commaLoss (dt : Nat) (link : Link)
  /-- BAD_FRAME_RUN (R197). Eight consecutive bad upstream frames take the lane down. -/
  | badFrameRun (dt : Nat) (link : Link)
  /-- UPSTREAM_SILENT (R197). No valid upstream frame for UPSTREAM_TIMEOUT takes the lane down. -/
  | upstreamSilent (dt : Nat) (lane : Fin 32)
  /-- STATUS_MISSING (R197). No STATUS for a bay for UPSTREAM_TIMEOUT, so the bay enters INK_COLD. -/
  | statusMissing (dt : Nat) (bay : Fin 512)
  /-- RETRAIN (R215). The RETRAIN command takes the lane down and starts a long operation that ends at RUN or FAILED. -/
  | retrain (dt : Nat) (route : Route) (lane : Fin 32) (data : Bytes)
  /-- WAVE_LOAD (R204). The WAVE_LOAD command starts a long operation that checks a waveform segment and sends it in WAVE_LOAD frames. -/
  | waveLoad (dt : Nat) (route : Route) (bay : Fin 512) (data : Bytes)
  /-- REG_DATA_READ (R215). A read of REG_DATA performs a CTRL_READ at REG_ADDRESS. -/
  | regDataRead (dt : Nat) (route : Route) (lane : Fin 32) (data : Bytes)
  /-- REG_DATA_WRITE (R215). A write of REG_DATA performs a CTRL_WRITE at REG_ADDRESS. -/
  | regDataWrite (dt : Nat) (route : Route) (lane : Fin 32) (data : Bytes)
  /-- ARM (R126). The ARM command checks a hanging plan in order, records its budgets and arms it at its aligned switch line. -/
  | arm (dt : Nat) (route : Route) (data : Bytes)
  /-- DISARM (R129). The DISARM command removes the armed plan while the margin still holds. -/
  | disarm (dt : Nat) (route : Route) (data : Bytes)
  /-- ENQUEUE (R121). The ENQUEUE command checks a caption batch and starts a long operation that copies its tiles into the queue. -/
  | enqueue (dt : Nat) (route : Route) (q : Fin 64) (data : Bytes)
  /-- RESTART (R123). The RESTART command empties a caption queue and sets its instance numbering. -/
  | restart (dt : Nat) (route : Route) (q : Fin 64) (data : Bytes)
  /-- LOAD (R138). The LOAD command starts a long operation that copies the active nozzle table into the spare and applies a segment. -/
  | load (dt : Nat) (route : Route) (g : Fin 8) (data : Bytes)
  /-- EDIT (R139). An EDIT write changes one entry of a READY spare nozzle table. -/
  | edit (dt : Nat) (route : Route) (g : Fin 8) (data : Bytes)
  /-- SWAP_LINE (R140). The SWAP_LINE command arms a swap of the spare table at web line S_w. -/
  | swapLine (dt : Nat) (route : Route) (g : Fin 8) (data : Bytes)
  /-- SWAP_CANCEL (R140). The SWAP_CANCEL command returns an armed spare to READY while the margin holds. -/
  | swapCancel (dt : Nat) (route : Route) (g : Fin 8) (data : Bytes)
  /-- THRESHOLD_LOAD (R147). The THRESHOLD_LOAD command copies a threshold array segment into the gallery. -/
  | thresholdLoad (dt : Nat) (route : Route) (g : Fin 8) (data : Bytes)
  /-- RING_TAIL_DOORBELL (R90). A write of RING_TAIL posts descriptors to an accession or egress ring. -/
  | ringTailDoorbell (dt : Nat) (ring : RingId) (value : BitVec 32)
  /-- RING_RESET (R90). The RESET bit of RING_CTRL sets RING_HEAD and RING_TAIL to 0 when the ring is disabled and idle. -/
  | ringReset (dt : Nat) (ring : RingId) (value : BitVec 32)
  /-- RING_RESUME (R90). The RESUME bit of RING_CTRL clears HALTED and resumes at RING_HEAD. -/
  | ringResume (dt : Nat) (ring : RingId) (value : BitVec 32)
  /-- REGISTER_WRITE (R347). A write to a register of the register BAR that has no row of its own updates its fields, and undefined or short writes are discarded. -/
  | registerWrite (dt : Nat) (offset : BitVec 24) (data : Bytes)
  /-- CONTAINER_START (R94). With an inflate unit free, the engine takes the next container of a ring or the network and runs the header, identity and allocation checks. -/
  | containerStart (dt : Nat) (src : ContainerSrc) (descs : List Desc) (bytes : Bytes)
  /-- CONTAINER_TRANSFER_DONE (R94). A container's body has been moved and inflated, and its length and CRC-32C are verified. -/
  | containerTransferDone (dt : Nat) (id : BitVec 32)
  /-- COMPLETION_TIMEOUT (R345). An engine read with no completion within COMPLETION_TIMEOUT is unsuccessful. -/
  | completionTimeout (dt : Nat) (ring : RingId)
  /-- PURGE (R107). The PURGE command starts a long operation that purges one segment, or every unreferenced one. -/
  | purge (dt : Nat) (route : Route) (data : Bytes)
  /-- OPEN_DIRECT (R98). The OPEN_DIRECT command runs steps 1–3 on a header and leaves a direct segment OPEN. -/
  | openDirect (dt : Nat) (route : Route) (data : Bytes)
  /-- COMMIT_DIRECT (R98). The COMMIT_DIRECT command starts a long operation that verifies and commits a direct segment. -/
  | commitDirect (dt : Nat) (route : Route) (data : Bytes)
  /-- RESERVE_BAR_WRITE (R98). A PCIe write to the Reserve BAR lands in an OPEN direct segment, or is discarded and counted. -/
  | reserveBarWrite (dt : Nat) (offset : BitVec 30) (data : Bytes)
  /-- RESERVE_BAR_READ (R344). A PCIe read of the Reserve BAR returns the Reserve, all-ones beyond CAPACITY, or a poisoned completion. -/
  | reserveBarRead (dt : Nat) (offset : BitVec 30) (len : BitVec 12)
  /-- BUNDLE (R103). The BUNDLE command starts a bundle job as a long operation. -/
  | bundle (dt : Nat) (route : Route) (data : Bytes)
  /-- BUNDLE_UNIT_START (R103). A deflate unit becomes free and takes a waiting bundle job. -/
  | bundleUnitStart (dt : Nat) (slot : Fin 16)
  /-- EGRESS_WRITE (R105). A waiting record is written into posted egress buffers, or is dropped when the backlog is full. -/
  | egressWrite (dt : Nat) (ring : Fin 4) (descs : List Desc)
  /-- CSI_FRAME_START (R221). A Frame Start short packet numbers the frame, matches its trigger, takes a slot or drops the frame, and may slip an exposure. -/
  | csiFrameStart (dt : Nat) (port : Fin 4) (header : CsiHeader) (number : BitVec 16)
  /-- CSI_LONG_PACKET (R219). A RAW long packet stores one line of a frame, or is ignored and counted. -/
  | csiLongPacket (dt : Nat) (port : Fin 4) (header : CsiHeader) (dataType : Byte) (pixels : List (BitVec 12)) (crcOk : Bool)
  /-- CSI_FRAME_END (R224). A Frame End marks the slot FULL, flags damage and starts a pending exposure write. -/
  | csiFrameEnd (dt : Nat) (port : Fin 4) (header : CsiHeader) (number : BitVec 16)
  /-- CAMERA_FRAME_TIMEOUT (R224). A frame without Frame End within FRAME_TIMEOUT is discarded and its slot freed. -/
  | cameraFrameTimeout (dt : Nat) (ctx : Fin 16)
  /-- PIPELINE_FRAME_START (R226). The free pipeline takes the FULL slot with the earliest Frame End and loads the context parameters. -/
  | pipelineFrameStart (dt : Nat)
  /-- PIPELINE_FRAME_DONE (R244). The pipeline finishes a frame, frees or holds its slot, and produces a condition report. -/
  | pipelineFrameDone (dt : Nat)
  /-- EXPOSURE_COMMIT (R230). The EXPOSURE_COMMIT command starts a new settings epoch and schedules its sensor writes. -/
  | exposureCommit (dt : Nat) (route : Route) (ctx : Fin 16) (data : Bytes)
  /-- CCI_TRANSACTION_DONE (R231). A CCI exposure write or raw transaction completes, or fails on NACK or a bus fault. -/
  | cciTransactionDone (dt : Nat) (port : Fin 4) (result : CciResult)
  /-- CCI_STRETCH_TIMEOUT (R231). A slave stretches the clock beyond 1 ms, and the transaction fails. -/
  | cciStretchTimeout (dt : Nat) (port : Fin 4)
  /-- CCI_REQUEST (R231). The CCI_REQUEST command starts a raw CCI transaction as a long operation. -/
  | cciRequest (dt : Nat) (route : Route) (port : Fin 4) (data : Bytes)
  /-- FREEZE (R225). The FREEZE command makes a hold pending on the next processed slot, or releases a held slot. -/
  | freeze (dt : Nat) (route : Route) (ctx : Fin 16) (data : Bytes)
  /-- LOOP_REPORT (R253). Curator takes a delivered condition report for the colour loop, classifies nozzles and computes gain steps. -/
  | loopReport (dt : Nat)
  /-- LOOP_UPDATE (R256). After its LOAD, a colour-loop update writes the changed entries into the spare and arms the swap. -/
  | loopUpdate (dt : Nat) (g : Fin 8)
  /-- SWEEP (R246). The SWEEP command starts a drop-gate sweep as a long operation in SERVICE. -/
  | sweep (dt : Nat) (route : Route) (data : Bytes)
  /-- SWEEP_SLOT (R247). Each 200 µs slot of a sweep sends one shot and BLANK frames to every masked gallery. -/
  | sweepSlot (dt : Nat)
  /-- DGATE_PULSE (R248). An accepted drop-gate edge is attributed to the earliest open shot, or is counted as stray. -/
  | dgatePulse (dt : Nat) (g : Fin 8)
  /-- SHOT_DECIDE (R248). At t_fire + T_LATE, a shot is decided, and a completed batch of 1,024 is applied. -/
  | shotDecide (dt : Nat) (g : Fin 8)
  /-- DGATE_STUCK (R249). DGATE held active for more than 1 ms ends that gallery's sweep with DROP_GATE_FAULT. -/
  | dgateStuck (dt : Nat) (g : Fin 8)
  /-- LAMP_REFRESH (R260). Each REFRESH_PERIOD, a chain's duties are computed for dose and throttle and the frames are shifted out. -/
  | lampRefresh (dt : Nat) (ch : Fin 4)
  /-- LAMP_LATCH (R269). After the shift, LAT is pulsed, and the status frames read back are checked for faults and temperatures. -/
  | lampLatch (dt : Nat) (ch : Fin 4) (status : List Bytes)
  /-- PEER_ACTIVE_CHANGE (R288). A filtered change of PEER_ACTIVE_N drives arbitration, contention, takeover or PEER_LOST. -/
  | peerActiveChange (dt : Nat) (asserted : Bool)
  /-- ARBITRATION_TIMEOUT (R278). Unit B becomes ACTIVE after ARBITRATION_WAIT with its peer inactive. -/
  | arbitrationTimeout (dt : Nat)
  /-- TAKEOVER_LANE_SEND (R289). At fire-at(n_T) + 1 µs, TAKEOVER is sent on each lane of the gallery. -/
  | takeoverLaneSend (dt : Nat) (lane : Fin 32)
  /-- HEARTBEAT_SEND (R279). Every 10 µs, a HEARTBEAT is sent on each pair-link lane in RUN. -/
  | heartbeatSend (dt : Nat) (lane : Fin 2)
  /-- HEARTBEAT_LOST (R279). Three consecutive heartbeats missed on all lanes raise HEARTBEAT_LOST. -/
  | heartbeatLost (dt : Nat)
  /-- HEARTBEAT_RECEIVED (R279). A peer HEARTBEAT updates PEER_ROLE and the peer's state. -/
  | heartbeatReceived (dt : Nat) (role : Byte) (reign : BitVec 16) (mode : Byte) (tick : BitVec 32) (confirmed : BitVec 32)
  /-- MIRROR_RECEIVED (R280). A standby applies a mirrored write in sequence and confirms it. -/
  | mirrorReceived (dt : Nat) (seq : BitVec 32) (body : MirrorBody)
  /-- SEGMENT_RECEIVED (R280). A standby takes a mirrored container or direct write and runs accession on its own copy. -/
  | segmentReceived (dt : Nat) (seq : BitVec 32) (part : SegmentPart)
  /-- CONFIRM_RECEIVED (R280). The standby's confirmation lets the active acknowledge a mirrored write or commit a segment. -/
  | confirmReceived (dt : Nat) (seq : BitVec 32) (result : BitVec 32)
  /-- MIRROR_TIMEOUT (R281). No confirmation within MIRROR_TIMEOUT: the active acknowledges alone and treats its peer as STALE. -/
  | mirrorTimeout (dt : Nat)
  /-- PAIR_LINK_DOWN_TIMEOUT (R281). The pair link has been down on every lane for MIRROR_TIMEOUT, so the standby becomes STALE. -/
  | pairLinkDownTimeout (dt : Nat)
  /-- REPORT_RECEIVED (R276). A condition report from the peer is delivered to the colour loop. -/
  | reportReceived (dt : Nat) (report : Bytes)
  /-- BAY_STATE_RECEIVED (R283). A standby takes the active's bay and lane state. -/
  | bayStateReceived (dt : Nat) (bay : Fin 512) (st : BayState)
  /-- DECISION_RECEIVED (R285). A standby applies the active's caption starvation decisions. -/
  | decisionReceived (dt : Nat) (q : Fin 64) (inst : BitVec 32) (starved : Bool)
  /-- ALIGN_RECEIVED (R284). A standby schedules the position alignment at device time t_a. -/
  | alignReceived (dt : Nat) (msg : AlignMsg)
  /-- ALIGN_SEND (R284). The active sends ALIGN every 1 s. -/
  | alignSend (dt : Nat)
  /-- ALIGN_POINT (R284). At t_a, both units take their positions, and the standby sets Δ and its line-clock state, or counts a mismatch. -/
  | alignPoint (dt : Nat)
  /-- DIGEST_RECEIVED (R285). A standby compares its line CRC with the active's digest and may become STALE. -/
  | digestReceived (dt : Nat) (g : Fin 8) (line : BitVec 32) (crc : BitVec 32)
  /-- RELINQUISH_RECEIVED (R287). A RELINQUISH from the peer records its cause and last lines. -/
  | relinquishReceived (dt : Nat) (cause : Byte) (lines : List (BitVec 32))
  /-- TAKEOVER_NOTICE_RECEIVED (R278). A pair-link TAKEOVER notice of a higher reign makes the unit give up control with cause 8. -/
  | takeoverNoticeReceived (dt : Nat) (reign : BitVec 16)
  /-- HANDOVER_RECEIVED (R291). The peer's HANDOVER fixes M_h and each gallery's last old line. -/
  | handoverReceived (dt : Nat) (mh : BitVec 32)
  /-- YIELDED_RECEIVED (R291). The new unit learns that the old unit has sent its YIELDs. -/
  | yieldedReceived (dt : Nat)
  /-- RESYNC_DATA_RECEIVED (R293). A resynchronising unit takes Catalogue, Reserve, queue and table images. -/
  | resyncDataReceived (dt : Nat) (item : ResyncItem)
  /-- HANDOVER (R291). The HANDOVER command starts a commanded handover as a long operation. -/
  | handover (dt : Nat) (route : Route) (data : Bytes)
  /-- HANDOVER_TAKEOVER_SEND (R291). At D(n_y) + 0.5 µs, the new unit sends TAKEOVER on each lane. -/
  | handoverTakeoverSend (dt : Nat) (lane : Fin 32)
  /-- RESYNC (R293). The RESYNC command starts resynchronisation from the active. -/
  | resync (dt : Nat) (route : Route) (data : Bytes)
  /-- DECLARE_DEGRADED (R294). The DECLARE_DEGRADED command stops shadowing and puts the standby in DEGRADED. -/
  | declareDegraded (dt : Nat) (route : Route) (data : Bytes)
  /-- NET_LINK (R298). An Ethernet port's link comes up or goes down, and a gratuitous ARP is sent on link up. -/
  | netLink (dt : Nat) (port : Fin 2) (link : Fin 5)
  /-- ETHERNET_FRAME_FILTERED (R300). A received frame or datagram that fails the MAC, VLAN, IPv4 or UDP checks is discarded and counted. -/
  | ethernetFrameFiltered (dt : Nat) (port : Fin 2) (frame : Bytes) (fcsOk : Bool)
  /-- ARP_RECEIVED (R301). An ARP frame is answered, fills the cache from an awaited reply, or raises ADDRESS_CONFLICT. -/
  | arpReceived (dt : Nat) (port : Fin 2) (arp : ArpFrame)
  /-- ARP_RETRY (R301). At 250 and 500 ms, an ARP request for an unresolved next hop is resent. -/
  | arpRetry (dt : Nat) (port : Fin 2) (ip : BitVec 32)
  /-- ARP_UNRESOLVED (R301). A next hop still unresolved after 1 s has its waiting datagrams discarded. -/
  | arpUnresolved (dt : Nat) (port : Fin 2) (ip : BitVec 32)
  /-- ARP_AGE_EXPIRY (R301). A cache entry ages out after ARP_AGE, or is re-requested 10 s before that when a publication uses it. -/
  | arpAgeExpiry (dt : Nat) (port : Fin 2) (ip : BitVec 32)
  /-- SHARED_IP_ARP (R304). The second and third gratuitous ARPs for SHARED_IP are sent 100 ms and 300 ms after entry to ACTIVE. -/
  | sharedIpArp (dt : Nat)
  /-- ICMP_ECHO (R302). An ICMP echo request is answered, within its rate limit. -/
  | icmpEcho (dt : Nat) (src : NetSrc) (echo : EchoRequest)
  /-- CHALLENGE (R308). A CHALLENGE is answered with a fresh nonce bound to the source. -/
  | challenge (dt : Nat) (src : NetSrc) (msg : Bytes)
  /-- OPEN (R309). An OPEN with a valid nonce and tag opens a session and is answered with OPEN_ACK. -/
  | openSession (dt : Nat) (src : NetSrc) (msg : Bytes)
  /-- REQUEST (R310). A tagged REQUEST is accepted in sequence, answered from the store, or rejected. -/
  | request (dt : Nat) (src : NetSrc) (msg : Bytes)
  /-- CLOSE (R309). A CLOSE ends the session and is answered with CLOSE_ACK. -/
  | closeRequest (dt : Nat) (src : NetSrc) (msg : Bytes)
  /-- IDENT_READ (R312). A sessionless IDENT_READ reads an identity entry. -/
  | identRead (dt : Nat) (src : NetSrc) (msg : Bytes)
  /-- SESSION_IDLE_TIMEOUT (R309). 30 s without an accepted message closes the session. -/
  | sessionIdleTimeout (dt : Nat) (slot : Fin 8)
  /-- NONCE_EXPIRY (R308). A nonce expires 5 s after issue. -/
  | nonceExpiry (dt : Nat) (port : Fin 2)
  /-- LOCKOUT_END (R315). A source's 10 s lockout ends and its failure count clears. -/
  | lockoutEnd (dt : Nat) (ip : BitVec 32)
  /-- AUTH_COUNT_EXPIRY (R315). 60 s after a source's last failure, its failure count clears. -/
  | authCountExpiry (dt : Nat) (ip : BitVec 32)
  /-- CLOSE_SESSION (R309). The CLOSE_SESSION command closes one session or all of them. -/
  | closeSession (dt : Nat) (route : Route) (data : Bytes)
  /-- KEY_WRITE (R313). A mailbox write of KEY stores or erases the key and generation and closes every session. -/
  | keyWrite (dt : Nat) (route : Route) (data : Bytes)
  /-- MDIO_REQUEST (R298). The MDIO_REQUEST command reads or writes a PHY register. -/
  | mdioRequest (dt : Nat) (route : Route) (port : Fin 2) (data : Bytes) (phy : BitVec 16)
  /-- PUBLICATION_SAMPLE (R317). 200 µs before a launch time, a publication's entries are sampled and its datagram is queued for launch. -/
  | publicationSample (dt : Nat) (p : Fin 16)
  /-- EVENT_PUSH_SEND (R318). With 44 records waiting, or EVENT_HOLD after the first, an event-push datagram is sent. -/
  | eventPushSend (dt : Nat)
  /-- FRAME_LAUNCH (R332). A held Ethernet frame's launch time arrives and the frame leaves. -/
  | frameLaunch (dt : Nat) (port : Fin 2) (queue : Fin 8)
  /-- LAUNCH_DROPPED (R333). A held frame not started by its launch time plus SLACK is dropped. -/
  | launchDropped (dt : Nat) (port : Fin 2) (queue : Fin 8)
  /-- PTP_SYNC_RECEIVED (R328). A Sync, with its Follow_Up where two-step, gives an offset that drives the servo, the first-lock step and LOCKED. -/
  | ptpSyncReceived (dt : Nat) (master : Int)
  /-- DEFERRED_STEP (R326). A pending first-lock step is taken as soon as the engine leaves PRINT and no sweep is queued or running. -/
  | deferredStep (dt : Nat)
  /-- PTP_DELAY_RESP_RECEIVED (R330). A PTP Delay_Resp updates the mean path delay. -/
  | ptpDelayRespReceived (dt : Nat) (received : Int)
  /-- PTP_DELAY_REQ_RECEIVED (R330). As master, the engine answers a Delay_Req with a Delay_Resp. -/
  | ptpDelayReqReceived (dt : Nat) (req : DelayReq)
  /-- PTP_ANNOUNCE_RECEIVED (R330). An Announce feeds the BMCA and the port state. -/
  | ptpAnnounceReceived (dt : Nat) (ann : Announce)
  /-- PTP_SYNC_SEND (R331). As grandmaster, a Sync is sent at each multiple of the Sync interval. -/
  | ptpSyncSend (dt : Nat)
  /-- PTP_DELAY_REQ_SEND (R330). As slave, a Delay_Req is sent at the delay-request interval. -/
  | ptpDelayReqSend (dt : Nat)
  /-- SYNC_TIMEOUT (R328). No Sync for three intervals, so RATE holds its last value. -/
  | syncTimeout (dt : Nat)
  /-- SET_TIME (R329). The SET_TIME command steps device time to a value or to the latest PTP time. -/
  | setTime (dt : Nat) (route : Route) (data : Bytes)
  /-- TIME_SNAPSHOT (R325). A SNAP write captures device time, tick and position on one core clock. -/
  | timeSnapshot (dt : Nat) (value : BitVec 32)
  /-- PROVENANCE_EXPORT (R338). With 128 records waiting, or EXPORT_HOLD after the first, an export record is sent on egress. -/
  | provenanceExport (dt : Nat) (ring : Fin 2)
  /-- PROVENANCE_REWIND (R338). The REWIND bit of PV_CTRL restarts export at the oldest record held. -/
  | provenanceRewind (dt : Nat) (ring : Fin 2) (value : BitVec 32)
  /-- PRINT_RECORD_WRITE (R339). 2 ms after a line's fire-at or deadline, its print record is written to ring 1. -/
  | printRecordWrite (dt : Nat) (g : Fin 8) (line : BitVec 32)
  /-- HOST_PORT_RESET (R346). PERST_N, a hot reset or a link-down resets the register BAR and discards containers in flight. -/
  | hostPortReset (dt : Nat) (cause : Fin 3)
  /-- HOST_LINK (R367). The PCIe link trains or goes down. -/
  | hostLink (dt : Nat) (speed : Fin 5) (width : LinkWidth)
  /-- MB_DOORBELL (R349). A doorbell write copies the mailbox request and executes it, or sets OVERRUN while busy. -/
  | mbDoorbell (dt : Nat) (value : BitVec 32)
  /-- MB_STATUS_READ (R348). A read of MB_STATUS returns the status and clears OVERRUN. -/
  | mbStatusRead (dt : Nat)
  /-- IC_CLAIM (R353). A CLAIM pushes a deliverable source onto the target's stack, or records a fault. -/
  | icClaim (dt : Nat) (t : Fin 4) (value : BitVec 32)
  /-- IC_COMPLETE (R354). A COMPLETE pops the top source and may re-pend a level source, or records a fault. -/
  | icComplete (dt : Nat) (t : Fin 4) (value : BitVec 32)
  /-- IC_PEND_CLEAR (R359). A write of 1 to IC_PEND clears edge pending bits without the stack. -/
  | icPendClear (dt : Nat) (i : Fin 8) (value : BitVec 32)
  /-- IC_VANISHED_READ (R359). A read of IC_VANISHED returns and clears the count. -/
  | icVanishedRead (dt : Nat) (t : Fin 4)
  /-- IC_FAULT_CLEAR (R359). A write of 1 to VALID or OVERRUN of IC_FAULT clears it. -/
  | icFaultClear (dt : Nat) (value : BitVec 32)
  /-- IC_MODE_WRITE (R357). A write of IC_CFG.MODE switches between BRINGUP and NORMAL on the next core clock. -/
  | icModeWrite (dt : Nat) (value : BitVec 32)
  /-- COALESCE_TIMEOUT (R358). T after a coalescing window opens, the source's pending bit sets. -/
  | coalesceTimeout (dt : Nat) (src : Fin 256)
  /-- CRC_DATA (R363). A write of CRC_DATA feeds its bytes into a SOFT channel. -/
  | crcData (dt : Nat) (ch : Fin 16) (data : Bytes)
  /-- CRC_INIT (R362). The INIT bit of CRC_CFG loads CRC_VAL with the algorithm's initial value. -/
  | crcInit (dt : Nat) (ch : Fin 16) (value : BitVec 32)
  /-- CRC_CFG_WRITE (R364). A write of CRC_CFG sets algorithm and mode, binding a STREAM channel to a ring or setting CONFLICT. -/
  | crcCfgWrite (dt : Nat) (ch : Fin 16) (value : BitVec 32)
  /-- CRC_STAT_READ (R362). A read of CRC_STAT returns and clears the channel's counts. -/
  | crcStatRead (dt : Nat) (ch : Fin 16)
  /-- DRAM_READ_ERROR (R377). A DRAM read that the code corrects is written back and counted; an uncorrectable one is issued again. -/
  | dramReadError (dt : Nat) (chan : Fin 2) (rank : Fin 4) (offset : Nat) (device : Option (Fin 20)) (user : DramUser)
  /-- DRAM_REREAD (R378). The second read of a codeword decodes, or is uncorrectable, and then the segment is lost and the rank is retired. -/
  | dramReread (dt : Nat) (chan : Fin 2) (decodes : Bool)
  /-- DRAM_ALERT (R381). ALERT_n reports a command/address parity or persistent write CRC error, and the rank is retired. -/
  | dramAlert (dt : Nat) (chan : Fin 2) (rank : Fin 4) (writeCrc : Bool)
  /-- MIGRATION_START (R381). Within 1 ms of a retirement, a migration to the unused spare starts as a long operation. -/
  | migrationStart (dt : Nat) (chan : Fin 2)
  /-- RANK_MIGRATED (R383). The copy pointer passes the last codeword, the spare takes the rank's place and RANK_EXCLUDE is written. -/
  | rankMigrated (dt : Nat) (chan : Fin 2)
  /-- DRAM_TEMP_POLL (R375). Every 1 ms, MR4 reports are read and may raise a channel's band. -/
  | dramTempPoll (dt : Nat) (chan : Fin 2) (reports : List (Option Int))
  /-- DRAM_BAND_FALL (R375). After 1 s of reports below its band, a channel falls by one band. -/
  | dramBandFall (dt : Nat) (chan : Fin 2)
  /-- DRAM_REFRESH (R375). Each tREFI, a same-bank refresh is issued. -/
  | dramRefresh (dt : Nat) (chan : Fin 2)
  /-- ZQ_CALIBRATION (R371). Every 128 ms, ZQ calibration runs. -/
  | zqCalibration (dt : Nat) (chan : Fin 2)
  /-- DQS_TRACKING (R371). Every 10 ms, DQS interval oscillator tracking runs. -/
  | dqsTracking (dt : Nat) (chan : Fin 2)
  /-- ACTIVATION_TABLE_CLEAR (R380). Every 32 ms, each bank's activation table is cleared. -/
  | activationTableClear (dt : Nat) (chan : Fin 2)
  /-- HAMMER_REFRESH (R380). A row's activation count reaches HAMMER_THRESHOLD, and its neighbours are refreshed. -/
  | hammerRefresh (dt : Nat) (chan : Fin 2) (bank : Nat) (row : Nat)
  /-- PATROL_SCRUB (R379). Patrol scrub reads and corrects the next codeword in its SCRUB_PERIOD pass. -/
  | patrolScrub (dt : Nat) (chan : Fin 2) (corrected : Option (Fin 20))
  /-- TRAIN (R371). The TRAIN command retrains every rank in service as a long operation. -/
  | train (dt : Nat) (route : Route) (data : Bytes)
  /-- SCRUB (R379). The SCRUB command starts a Reserve scrub of the named channels. -/
  | scrub (dt : Nat) (route : Route) (data : Bytes)
  /-- MIGRATE (R382). The MIGRATE command retires a rank and migrates it to the spare. -/
  | migrate (dt : Nat) (route : Route) (data : Bytes)
  /-- CLEAR_EXCLUDE (R383). The CLEAR_EXCLUDE command removes ranks from the exclusion record for the next reset. -/
  | clearExclude (dt : Nat) (route : Route) (data : Bytes)
  /-- DIE_SENSOR_SAMPLE (R390). Every 1 ms, die sensors are converted, threshold states move, and f_die and throttling are set. -/
  | dieSensorSample (dt : Nat) (readings : List (Option Int))
  /-- DIE_SENSOR_SILENT (R389). A die sensor with no conversion for 10 ms is FAILED. -/
  | dieSensorSilent (dt : Nat) (d : Fin 12)
  /-- SENSOR_STALE (R388). A DRAM, head or ink sensor whose readings stop takes UNKNOWN. -/
  | sensorStale (dt : Nat) (id : BitVec 16)
  /-- CAL_ANALOGUE (R396). The CAL_ANALOGUE command calibrates the converter against VREF_CAL. -/
  | calAnalogue (dt : Nat) (route : Route) (data : Bytes)
  /-- CAL_PHOTO (R398). The CAL_PHOTO command fits a context's colour matrix to certified patch densities. -/
  | calPhoto (dt : Nat) (route : Route) (data : Bytes)
  /-- CAL_PHOTO_TIMEOUT (R398). 10 s without a usable report fails the photometric calibration. -/
  | calPhotoTimeout (dt : Nat)
  /-- COMMIT (R402). COMMIT written 1 starts the parameter-set commit to the Archive. -/
  | commit (dt : Nat) (route : Route) (data : Bytes)
  /-- COMMIT_CLEAR (R402). COMMIT written 2 writes an empty parameter set. -/
  | commitClear (dt : Nat) (route : Route) (data : Bytes)
  /-- PFAIL_ASSERT (R404). PFAIL_N asserted refuses Archive writes and cuts a parameter-set record. -/
  | pfailAssert (dt : Nat)
  /-- PFAIL_RELEASE (R404). PFAIL_N released without reset re-enables Archive writes. -/
  | pfailRelease (dt : Nat)
  /-- PORST (R413). PORST_N low resets everything and samples the straps at its release. -/
  | porst (dt : Nat) (straps : Fin 16)
  /-- RESET_PIN (R413). RESET_N low resets the engine into BOOT with the PLLs kept locked. -/
  | resetPin (dt : Nat)
  /-- RESET (R413). The RESET command is accepted, and the reset follows 1 ms after its response. -/
  | resetCmd (dt : Nat) (route : Route) (data : Bytes)
  /-- RESET_TAKE_EFFECT (R413). 1 ms after the RESET response, or at the end of a self-test, the engine resets into BOOT. -/
  | resetTakeEffect (dt : Nat)
  /-- WATCHDOG_EXPIRY (R435). The 50 ms Curator watchdog expires, which is fatal. -/
  | watchdogExpiry (dt : Nat)
  /-- LOCKSTEP_MISMATCH (R435). The supervisor cores disagree, which is fatal. -/
  | lockstepMismatch (dt : Nat)
  /-- FATAL_WARM_RESET (R435). 1 ms after a fatal fault, the engine performs a warm reset. -/
  | fatalWarmReset (dt : Nat)
  /-- SUPPLY_FAULT (R408). A rail outside its window for more than 10 µs sets the SAFE latch. -/
  | supplyFault (dt : Nat) (rail : Fin 10) (mv : Nat)
  /-- CLOCK_FAULT (R412). XTAL or HLREFCLK loss, a frequency error or PLL unlock sets the SAFE latch. -/
  | clockFault (dt : Nat) (which : ClockFault)
  /-- RECOVERY_IMAGE_RECEIVED (R420). A recovery image received on DBG_RXD is checked and run or rejected. -/
  | recoveryImageReceived (dt : Nat) (image : Bytes) (crc : BitVec 32)
  /-- BOOT_COMPLETE (R424). BOOT ends: IDLE, arbitration, CURATOR_READY, Ethernet start, restored latch causes and held events. -/
  | bootComplete (dt : Nat) (trained : List Bool)
  /-- MODE_REQUEST_IDLE (R427). MODE_REQUEST 1 stops printing and releases plans into IDLE. -/
  | modeRequestIdle (dt : Nat) (route : Route) (data : Bytes)
  /-- MODE_REQUEST_SERVICE (R427). MODE_REQUEST 2 enters SERVICE after condition A. -/
  | modeRequestService (dt : Nat) (route : Route) (data : Bytes)
  /-- MODE_REQUEST_READY (R427). MODE_REQUEST 3 enters READY after conditions A and B, or stops printing. -/
  | modeRequestReady (dt : Nat) (route : Route) (data : Bytes)
  /-- MODE_REQUEST_PRINT (R427). MODE_REQUEST 4 enters PRINT for PRINT_GALLERIES after the gate check and condition C. -/
  | modeRequestPrint (dt : Nat) (route : Route) (data : Bytes)
  /-- PRINT_GALLERIES_WRITE (R427). A write of PRINT_GALLERIES in PRINT adds or stops galleries. -/
  | printGalleriesWrite (dt : Nat) (route : Route) (data : Bytes)
  /-- HEAD_POWER_OFF (R429). After the last line left to fire has passed, HEAD_POWER 0 is written to the modules. -/
  | headPowerOff (dt : Nat)
  /-- SAFE_REQUEST (R431). The SAFE_REQUEST command sets the SAFE latch with cause HOST. -/
  | safeRequest (dt : Nat) (route : Route) (data : Bytes)
  /-- SAFE_CLEAR (R433). The SAFE_CLEAR command clears the latch when no cause is held. -/
  | safeClear (dt : Nat) (route : Route) (data : Bytes)
  /-- FW_UPDATE (R436). The FW_UPDATE command installs FW_IMAGE into the idle flash region as a trial. -/
  | fwUpdate (dt : Nat) (route : Route) (data : Bytes)
  /-- FW_CONFIRM (R437). The FW_CONFIRM command confirms the running trial image. -/
  | fwConfirm (dt : Nat) (route : Route) (data : Bytes)
  /-- SHUTDOWN (R438). The SHUTDOWN command flushes exports and Archive work and idles the links. -/
  | shutdown (dt : Nat) (route : Route) (data : Bytes)
  /-- SELFTEST (R442). The SELFTEST command is checked and answered, and a self-test run is scheduled. -/
  | selftest (dt : Nat) (route : Route) (data : Bytes)
  /-- SELFTEST_ENTER (R443). Within 1 ms of the response, the engine enters TEST and stops its routes. -/
  | selftestEnter (dt : Nat)
  /-- SELFTEST_PHASE_END (R444). A self-test phase ends; the next phase starts, or the results are held and the engine resets. -/
  | selftestPhaseEnd (dt : Nat) (results : List DomainResult)
  /-- EXTEST (R453). The EXTEST instruction drives and samples the boundary register while PORST_N is low. -/
  | extest (dt : Nat)
  /-- IDCODE (R452). The IDCODE instruction selects the 0x1851_2D37 identification register. -/
  | idcode (dt : Nat)
  /-- SAMPLE_PRELOAD (R452). The SAMPLE/PRELOAD instruction samples and preloads the boundary register. -/
  | samplePreload (dt : Nat) (shiftIn : Bytes)
  /-- HIGHZ (R453). The HIGHZ instruction floats the outputs while PORST_N is low. -/
  | highz (dt : Nat)
  /-- CLAMP (R453). The CLAMP instruction holds the outputs with BYPASS selected while PORST_N is low. -/
  | clamp (dt : Nat)
  /-- EXTEST_PULSE (R453). The IEEE 1149.6 EXTEST_PULSE instruction tests AC-coupled pairs while PORST_N is low. -/
  | extestPulse (dt : Nat)
  /-- EXTEST_TRAIN (R453). The IEEE 1149.6 EXTEST_TRAIN instruction tests AC-coupled pairs while PORST_N is low. -/
  | extestTrain (dt : Nat)
  /-- BYPASS (R452). BYPASS, or any unlisted opcode, selects the bypass register. -/
  | bypass (dt : Nat) (opcode : Byte)
  /-- TAP_RESET (R453). TRST_N low, or the rising edge of PORST_N, holds or places the TAP in Test-Logic-Reset. -/
  | tapReset (dt : Nat) (porstRise : Bool)
  /-- PCIE_COMPLETION_UNSUCCESSFUL (R93). An engine descriptor or data read receives an unsuccessful PCIe completion, which halts the ring and completes the chain with 0xAB04_000A. -/
  | pcieCompletionUnsuccessful (dt : Nat) (ring : RingId)
  /-- CONFIG_WRITE (R345). A PCIe configuration write sets Bus Master Enable, the power state or PME_En, stopping or resuming ring progress and arming PE_WAKE_N. -/
  | configWrite (dt : Nat) (bme : Option Bool) (power : Option PowerWrite) (other : Option ConfigWrite)
  /-- SUPPLY_RESTORED (R408). A rail returns inside its monitor window, so SAFE cause SUPPLY is no longer held and SAFE_CLEAR can succeed. -/
  | supplyRestored (dt : Nat) (rail : Fin 10) (mv : Nat)
  /-- CLOCK_RESTORED (R412). A lost or out-of-limit clock returns within limits and the PLLs relock, so SAFE cause CLOCK is no longer held. -/
  | clockRestored (dt : Nat) (which : ClockFault)
  /-- PRBS_LOCK (R199). A lane checker in TEST sees 64 error-free bits, sets PRBS_LOCK and then counts errors against its own generator. -/
  | prbsLock (dt : Nat) (check : PrbsCheck)
  /-- PAIR_LINK_TIME_SYNC_RECEIVED (R284). A standby receives the active's TIME and TIME_SYNC over the pair link, answers with DELAY_RESP and steps once at first lock, then steers rate only. -/
  | pairLinkTimeSyncReceived (dt : Nat) (t1 : Nat) (delay : Option Nat) (epoch : Fin 16)
  /-- TAKEOVER_TICK_TIMEOUT (R289). No master tick arrives within 1 ms of t_d, so n_T becomes the last line computed and TAKEOVER is sent at once. -/
  | takeoverTickTimeout (dt : Nat)
  /-- PTP_ANNOUNCE_SEND (R330). As master, the engine sends an Announce every LOG_ANNOUNCE interval. -/
  | ptpAnnounceSend (dt : Nat)
  /-- ANNOUNCE_RECEIPT_TIMEOUT (R330). Announces from the master stop for the receipt timeout of the default BMCA, and the port state changes. -/
  | announceReceiptTimeout (dt : Nat)
  /-- HOST_HEARTBEAT_TICK (R347). Every 1 ms, Curator increments the HEARTBEAT register of the register BAR. -/
  | hostHeartbeatTick (dt : Nat)
  /-- CSI_PACKET_DISCARDED (R219). A short packet other than Frame Start or Frame End, or a packet whose header has an uncorrectable error, is discarded and counted. -/
  | csiPacketDiscarded (dt : Nat) (port : Fin 4) (why : CsiDiscard)
  /-- MALFORMED_MESSAGE (R306). A Catalogue-protocol datagram with wrong MAGIC, VERSION or KIND, a wrong direction, non-zero reserved bytes or a bad length is dropped silently and counted in MALFORMED. -/
  | malformedMessage (dt : Nat) (src : NetSrc) (msg : Bytes)
  deriving DecidableEq, Repr

end Sys2Proof
end

