-- ==== Sys2Proof/Config.lean ====
section
/-! DEFINITION. What an implementation or a part fixes, and the free values: constants without a body, so that nothing
can be proved of the value they stand for. -/

namespace Sys2Proof.Config

/-- The fused SERIAL, 16 characters (R40). -/
opaque serial : BitVec 128
/-- The fused UNIQUE_ID (R40). -/
opaque uniqueId : BitVec 128
/-- The fused MAC_BASE, in transmission order (R40). -/
opaque macBase : BitVec 48
/-- The fused CORE_SETPOINT in mV (R410). -/
opaque coreSetpoint : BitVec 16
/-- The fused SECURITY_FLOOR (R417). -/
opaque securityFloor : BitVec 32
/-- The fused KEY_HASH (R417). -/
opaque keyHash : BitVec 256
/-- Whether an Ed25519 signature verifies: public key, message, signature (R417, RFC 8032). -/
opaque ed25519 : Bytes → Bytes → Bytes → Bool
/-- The CRC field of the factory record, which self-test domain 12 expects (R445, R447). -/
opaque archiveHallmark : BitVec 32
/-- The factory ADC gain and offset of the Archive (R396, R406). -/
opaque factoryGain : BitVec 32
opaque factoryOffset : BitVec 32
/-- What a READ of the vendor-diagnostics range returns: index, subindex and the n-th read (R39 leaves it undefined). -/
opaque vendorRead : Nat → Nat → Nat → BitVec 32
/-- Draw n of the engine's random source, 128 bits (R308, R309). -/
opaque random : Nat → BitVec 128
/-- A free value: draw n of values the spec leaves open (log entry 5). -/
opaque freeValue : Nat → BitVec 64
/-- Free bytes: draw n, byte i (log entry 5). -/
opaque freeByte : Nat → Nat → BitVec 8
/-- Where the Reserve allocator prefers to place an allocation: draw n (R100 fixes no placement, log entry 7). -/
opaque placement : Nat → Nat
/-- The stream a deflate unit writes for a byte string at a level, as far as R103 leaves it open (RFC 1951 fixes the decoder
only): deflated keeps it only where it is such a stream (log entry 12). -/
opaque deflate : Nat → Bytes → Bytes
/-- Rows of a bank that the DRAM's own traffic has activated, oldest first, since its activation table last changed: draw n (R370 maps no
rows, log entry 77). -/
opaque activations : Nat → List Nat
/-- The boundary register's cells as the pins present them: draw n (R453). -/
opaque boundary : Nat → Bytes

end Sys2Proof.Config
end

