-- ==== Sys2Proof/Machine/Bits.lean ====
section
/-! DEFINITION. Bit fields, byte order, fixed-point rounding, sparse tables, check codes and digests. No state. -/

namespace Sys2Proof.Machine

/-! Sparse tables -/

/-- The value a table holds for key i, or the default d. -/
def tget {α : Type} (d : α) (t : Tab α) (i : Nat) : α :=
  match t with
  | [] => d
  | (j, a) :: rest => if i = j then a else tget d rest i

/-- The table with key i set to a, kept in ascending key order. -/
def tset {α : Type} (t : Tab α) (i : Nat) (a : α) : Tab α :=
  match t with
  | [] => [(i, a)]
  | (j, b) :: rest =>
    if i = j then (i, a) :: rest
    else if i < j then (i, a) :: (j, b) :: rest
    else (j, b) :: tset rest i a

/-- The table with key i removed, so that it reads as the default again. -/
def terase {α : Type} (t : Tab α) (i : Nat) : Tab α := t.filter (fun p => p.1 != i)

/-- Whether the table lists key i. -/
def thas {α : Type} (t : Tab α) (i : Nat) : Bool := t.any (fun p => p.1 == i)

/-- The table with f applied to the value of key i. -/
def tmod {α : Type} (d : α) (t : Tab α) (i : Nat) (f : α → α) : Tab α := tset t i (f (tget d t i))

/-! Bits and bytes -/

/-- Bit i of x. -/
def bitOf (x i : Nat) : Bool := x.testBit i

/-- Bits [hi:lo] of x. -/
def field (x hi lo : Nat) : Nat := (x / 2 ^ lo) % 2 ^ (hi + 1 - lo)

/-- 1 for true, 0 for false. -/
def b2n (b : Bool) : Nat := if b then 1 else 0

/-- x with bit i set to b. -/
def setBit (x i : Nat) (b : Bool) : Nat :=
  if x.testBit i == b then x else if b then x + 2 ^ i else x - 2 ^ i

/-- The low n bytes of v, little-endian (R4). -/
def le : Nat → Nat → Bytes
  | 0, _ => []
  | n + 1, v => BitVec.ofNat 8 v :: le n (v / 256)

/-- The number a little-endian byte string spells (R4). -/
def ofLe : Bytes → Nat
  | [] => 0
  | b :: bs => b.toNat + 256 * ofLe bs

/-- The low n bytes of v, most significant first. -/
def be (n v : Nat) : Bytes := (le n v).reverse

/-- The number a big-endian byte string spells. -/
def ofBe (bs : Bytes) : Nat := ofLe bs.reverse

/-- n bytes of bs from offset o, little-endian. -/
def leAt (bs : Bytes) (o n : Nat) : Nat := ofLe ((bs.drop o).take n)

/-- n bytes of bs from offset o. -/
def sliceB (bs : Bytes) (o n : Nat) : Bytes := (bs.drop o).take n

/-- Byte o of bs, 0 beyond its end. -/
def byteAt (bs : Bytes) (o : Nat) : Nat := (bs.getD o 0).toNat

/-- n zero bytes. -/
def zeros (n : Nat) : Bytes := List.replicate n 0

/-- bs cut or padded with zeros to n bytes. -/
def fit (n : Nat) (bs : Bytes) : Bytes := bs.take n ++ zeros (n - bs.length)

/-- Whether every byte is zero. -/
def allZero (bs : Bytes) : Bool := bs.all (fun b => b == 0)

/-- The signed value of an n-bit two's complement word (R5). -/
def sgn (n x : Nat) : Int :=
  let y := x % 2 ^ n
  if 2 * y < 2 ^ n then (y : Int) else (y : Int) - (2 ^ n : Nat)

/-- The n-bit two's complement word of a signed value, wrapping. -/
def usg (n : Nat) (x : Int) : Nat := (x % ((2 ^ n : Nat) : Int)).toNat

/-- A position wrapped to its signed 48 bits (R60). -/
def wrap48 (x : Int) : Int := sgn 48 (usg 48 x)

/-- The difference of two positions, modulo 2^48 and signed (R60). -/
def posDiff (a b : Int) : Int := wrap48 (a - b)

/-- Number of ones among the low n bits of x. -/
def popcount (n x : Nat) : Nat := ((List.range n).filter (fun i => x.testBit i)).length

/-- The ones among the low n bits of x, ascending. -/
def onesOf (n x : Nat) : List Nat := (List.range n).filter (fun i => x.testBit i)

/-! Fixed point -/

/-- x confined to lo..hi. -/
def clampI (lo hi x : Int) : Int := if x < lo then lo else if hi < x then hi else x

/-- x confined to at most hi. -/
def clampN (hi x : Nat) : Nat := if hi < x then hi else x

/-- x / d rounded to nearest, ties to even (R6), for d > 0. -/
def rneDiv (x d : Int) : Int :=
  let q := x / d
  let r := x % d
  if 2 * r < d then q else if d < 2 * r then q + 1 else if q % 2 = 0 then q else q + 1

/-- x / 2^n rounded to nearest, ties to even (R6). -/
def rne (x : Int) (n : Nat) : Int := rneDiv x ((2 ^ n : Nat) : Int)

/-- Division that truncates toward zero, as the pseudocode's does (scope chapter); 0 by 0. -/
def tdiv (x d : Int) : Int := Int.tdiv x d

/-- The counter with n added, wrapping at w bits. -/
def wrapAdd (w x n : Nat) : Nat := (x + n) % 2 ^ w

/-- The counter with n added, stopping at the largest w-bit value. -/
def satAdd (w x n : Nat) : Nat := clampN (2 ^ w - 1) (x + n)

/-- (a - b) mod 2^32 read as I32: a serial-number difference. -/
def serial32 (a b : Nat) : Int := sgn 32 (usg 32 ((a : Int) - b))

/-! Check codes (R362) -/

/-- The four algorithms of R362. -/
inductive CrcAlgo where
  | crc32c
  | crc32
  | crc16
  | crc8
  deriving DecidableEq, Repr

namespace CrcAlgo

/-- The algorithm of an ALGO code (R362). -/
def ofCode : Nat → CrcAlgo
  | 0 => .crc32c
  | 1 => .crc32
  | 2 => .crc16
  | _ => .crc8

/-- Its width in bits. -/
def width : CrcAlgo → Nat
  | .crc32c => 32
  | .crc32 => 32
  | .crc16 => 16
  | .crc8 => 8

/-- Its polynomial, in the bit order the register shifts in: reversed where the algorithm is reflected. -/
def poly : CrcAlgo → Nat
  | .crc32c => 0x82F63B78
  | .crc32 => 0xEDB88320
  | .crc16 => 0x1021
  | .crc8 => 0x2F

/-- Whether it is reflected. -/
def reflected : CrcAlgo → Bool
  | .crc32c => true
  | .crc32 => true
  | .crc16 => false
  | .crc8 => false

/-- Its initial register value. -/
def initial (a : CrcAlgo) : Nat := 2 ^ a.width - 1

/-- Its final XOR. -/
def finalXor : CrcAlgo → Nat
  | .crc32c => 0xFFFFFFFF
  | .crc32 => 0xFFFFFFFF
  | .crc16 => 0
  | .crc8 => 0xFF

end CrcAlgo

/-- One bit step of a reflected register. -/
def crcShiftR (poly x : Nat) : Nat := if x % 2 = 1 then (x / 2) ^^^ poly else x / 2

/-- One bit step of a register that shifts left in w bits. -/
def crcShiftL (w poly x : Nat) : Nat :=
  if x.testBit (w - 1) then ((2 * x) % 2 ^ w) ^^^ poly else (2 * x) % 2 ^ w

/-- f applied n times. -/
def times {α : Type} (f : α → α) : Nat → α → α
  | 0, x => x
  | n + 1, x => times f n (f x)

/-- One byte fed into the running register. -/
def crcByte (a : CrcAlgo) (x : Nat) (b : Byte) : Nat :=
  if a.reflected then times (crcShiftR a.poly) 8 (x ^^^ b.toNat)
  else times (crcShiftL a.width a.poly) 8 (x ^^^ (b.toNat * 2 ^ (a.width - 8)))

/-- Bytes fed into the running register, in order. -/
def crcFeed (a : CrcAlgo) (x : Nat) (bs : Bytes) : Nat := bs.foldl (crcByte a) x

/-- The check value of a byte string. -/
def crcOf (a : CrcAlgo) (bs : Bytes) : Nat := (crcFeed a a.initial bs) ^^^ a.finalXor

/-- CRC-32C of a byte string. -/
def crc32c (bs : Bytes) : Nat := crcOf .crc32c bs

/-! SHA-256 (FIPS 180-4) and HMAC (RFC 2104), as R307 and R417 use them -/

/-- The round constants, eight 32-bit words to a row, the first in the row's highest bits. -/
def shaRows : List Nat := [
  0x428a2f9871374491b5c0fbcfe9b5dba53956c25b59f111f1923f82a4ab1c5ed5,
  0xd807aa9812835b01243185be550c7dc372be5d7480deb1fe9bdc06a7c19bf174,
  0xe49b69c1efbe47860fc19dc6240ca1cc2de92c6f4a7484aa5cb0a9dc76f988da,
  0x983e5152a831c66db00327c8bf597fc7c6e00bf3d5a7914706ca635114292967,
  0x27b70a852e1b21384d2c6dfc53380d13650a7354766a0abb81c2c92e92722c85,
  0xa2bfe8a1a81a664bc24b8b70c76c51a3d192e819d6990624f40e3585106aa070,
  0x19a4c1161e376c082748774c34b0bcb5391c0cb34ed8aa4a5b9cca4f682e6ff3,
  0x748f82ee78a5636f84c878148cc7020890befffaa4506cebbef9a3f7c67178f2]

/-- The 64 round constants in order. -/
def shaK : List (BitVec 32) := shaRows.flatMap (fun r => (List.range 8).map (fun i => BitVec.ofNat 32 (r / 2 ^ (224 - 32 * i))))

/-- The eight working words. -/
structure ShaWords where
  a : BitVec 32 := 0x6a09e667
  b : BitVec 32 := 0xbb67ae85
  c : BitVec 32 := 0x3c6ef372
  d : BitVec 32 := 0xa54ff53a
  e : BitVec 32 := 0x510e527f
  f : BitVec 32 := 0x9b05688c
  g : BitVec 32 := 0x1f83d9ab
  h : BitVec 32 := 0x5be0cd19
  deriving DecidableEq, Repr

/-- One round. -/
def shaRound (v : ShaWords) (kw : BitVec 32) : ShaWords :=
  let s1 := v.e.rotateRight 6 ^^^ v.e.rotateRight 11 ^^^ v.e.rotateRight 25
  let ch := (v.e &&& v.f) ^^^ (~~~v.e &&& v.g)
  let t1 := v.h + s1 + ch + kw
  let s0 := v.a.rotateRight 2 ^^^ v.a.rotateRight 13 ^^^ v.a.rotateRight 22
  let mj := (v.a &&& v.b) ^^^ (v.a &&& v.c) ^^^ (v.b &&& v.c)
  ⟨t1 + (s0 + mj), v.a, v.b, v.c, v.d + t1, v.e, v.f, v.g⟩

/-- The message schedule, newest word first, extended by n words. -/
def shaExtend : Nat → List (BitVec 32) → List (BitVec 32)
  | 0, w => w
  | n + 1, w =>
    let x15 := w.getD 14 0
    let x2 := w.getD 1 0
    let s0 := x15.rotateRight 7 ^^^ x15.rotateRight 18 ^^^ (x15 >>> 3)
    let s1 := x2.rotateRight 17 ^^^ x2.rotateRight 19 ^^^ (x2 >>> 10)
    shaExtend n ((w.getD 15 0 + s0 + w.getD 6 0 + s1) :: w)

/-- The big-endian words of a block. -/
def shaBlockWords : Nat → Bytes → List (BitVec 32)
  | 0, _ => []
  | n + 1, bs => BitVec.ofNat 32 (ofBe (bs.take 4)) :: shaBlockWords n (bs.drop 4)

/-- One 64-byte block. -/
def shaBlock (v : ShaWords) (bs : Bytes) : ShaWords :=
  let w := (shaExtend 48 (shaBlockWords 16 bs).reverse).reverse
  let r := (List.zipWith (fun k x => k + x) shaK w).foldl shaRound v
  ⟨v.a + r.a, v.b + r.b, v.c + r.c, v.d + r.d, v.e + r.e, v.f + r.f, v.g + r.g, v.h + r.h⟩

/-- n blocks in order. -/
def shaBlocks : Nat → ShaWords → Bytes → ShaWords
  | 0, v, _ => v
  | n + 1, v, bs => shaBlocks n (shaBlock v (bs.take 64)) (bs.drop 64)

/-- SHA-256 of a byte string, 32 bytes. -/
def sha256 (bs : Bytes) : Bytes :=
  let padLen := (119 - bs.length % 64) % 64
  let m := bs ++ [0x80] ++ zeros padLen ++ be 8 (8 * bs.length)
  let v := shaBlocks (m.length / 64) ({} : ShaWords) m
  [v.a, v.b, v.c, v.d, v.e, v.f, v.g, v.h].flatMap (fun w => be 4 w.toNat)

/-- HMAC-SHA-256 of a message under a key of at most 64 bytes. -/
def hmac (key msg : Bytes) : Bytes :=
  let k := fit 64 key
  let ipad := k.map (fun b => b ^^^ 0x36)
  let opad := k.map (fun b => b ^^^ 0x5c)
  sha256 (opad ++ sha256 (ipad ++ msg))

/-! Lists -/

/-- The first element that meets p, and the list without it. -/
def takeFirst {α : Type} (p : α → Bool) : List α → Option (α × List α)
  | [] => none
  | x :: xs => if p x then some (x, xs) else (takeFirst p xs).map (fun r => (r.1, x :: r.2))

/-- The state after f has run over each element in order. -/
def forEach {α σ : Type} (xs : List α) (f : α → σ → σ) (s : σ) : σ := xs.foldl (fun acc x => f x acc) s

/-- The largest of a list, 0 when empty. -/
def maxN (xs : List Nat) : Nat := xs.foldl max 0

/-- The sum of a list. -/
def sumN (xs : List Nat) : Nat := xs.foldl (· + ·) 0

end Sys2Proof.Machine
end

