-- ==== Sys2Proof/Machine/Catalogue.lean ====
section
/-! DEFINITION. The object dictionary as the spec's entry tables give it: for every entry its subindex, name, type,
access class, modes, range, default, persistence and mirroring. -/

namespace Sys2Proof.Machine

/-- The entry types of R30. Widths are in bytes; a DOMAIN carries its least and greatest length. -/
inductive Ty where
  | bool
  | u (n : Nat)
  | i (n : Nat)
  | time96
  | pos48
  | octets (n : Nat)
  | text (n : Nat)
  | domain (lo hi : Nat)
  deriving DecidableEq, Repr

/-- The access classes of R30. -/
inductive Acc where
  | ro
  | rw
  | wo
  | rwm
  | cmd
  deriving DecidableEq, Repr

/-- The stated range of an entry (R32). -/
inductive Rng where
  | all
  | within (lo hi : Int)
  | zeroOr (lo hi : Int)
  | orFF (hi : Int)
  | oneOf (vs : List Int)
  deriving DecidableEq, Repr

/-- One entry. `modes` has bit m set for mode code m where the access is limited to modes (0: no limit);
`dflt` holds the default of object 0, 1, ..., the last one standing for the rest. -/
structure Row where
  sub      : Nat
  name     : String
  ty       : Ty
  acc      : Acc
  modes    : Nat
  rng      : Rng
  dflt     : List Nat
  persist  : Bool
  mirrored : Bool
  deriving DecidableEq, Repr

/-- The entries of one kind of object: object k stands at index base + stride * k, for k below count (R29). -/
structure Group where
  base   : Nat
  stride : Nat
  count  : Nat
  rows   : List Row
  deriving DecidableEq, Repr

/-- Bytes a value of the type takes; 0 for a DOMAIN. -/
def Ty.len : Ty → Nat
  | .bool => 1
  | .u n => n
  | .i n => n
  | .time96 => 12
  | .pos48 => 6
  | .octets n => n
  | .text n => n
  | .domain _ _ => 0

/-- Whether entries of the type are reached by block transfer only (R44). -/
def Ty.isDomain : Ty → Bool
  | .domain _ _ => true
  | _ => false

/-- The entries of Identity entries, index 0x1000 (R40). -/
def identityRows : List Row := [
  ⟨0x00, "HIGHEST_SUB", .u 1, .ro, 0, .all, [11], false, false⟩,
  ⟨0x01, "VENDOR", .text 16, .ro, 0, .all, [153387657812126822872772159665853325652], false, false⟩,
  ⟨0x02, "PART", .text 16, .ro, 0, .all, [3616730491149566529], false, false⟩,
  ⟨0x03, "REVISION", .text 4, .ro, 0, .all, [12354], false, false⟩,
  ⟨0x04, "REVISION_CODE", .u 2, .ro, 0, .all, [176], false, false⟩,
  ⟨0x05, "PCI_IDS", .u 4, .ro, 0, .all, [2232557419], false, false⟩,
  ⟨0x06, "SERIAL", .text 16, .ro, 0, .all, [0], false, false⟩,
  ⟨0x07, "UNIQUE_ID", .octets 16, .ro, 0, .all, [0], false, false⟩,
  ⟨0x08, "MAC_BASE", .octets 6, .ro, 0, .all, [0], false, false⟩,
  ⟨0x09, "MAC_COUNT", .u 1, .ro, 0, .all, [4], false, false⟩,
  ⟨0x0A, "CURATOR_VERSION", .u 4, .ro, 0, .all, [0], false, false⟩,
  ⟨0x0B, "CURATOR_IMAGE", .u 1, .ro, 0, .all, [0], false, false⟩
]

/-- The entries of Long-operation entries (R50). -/
def longopsRows : List Row := [
  ⟨0x00, "HIGHEST_SUB", .u 1, .ro, 0, .all, [2], false, false⟩,
  ⟨0x01, "SLOTS_BUSY", .u 1, .ro, 0, .all, [0], false, false⟩,
  ⟨0x02, "NEXT_SEQUENCE", .u 4, .ro, 0, .all, [1], false, false⟩
]

/-- The entries of Long-operation entries (R50). -/
def longopSlotRows : List Row := [
  ⟨0x00, "HIGHEST_SUB", .u 1, .ro, 0, .all, [11], false, false⟩,
  ⟨0x01, "HANDLE", .u 4, .ro, 0, .all, [0], false, false⟩,
  ⟨0x02, "KIND_INDEX", .u 2, .ro, 0, .all, [0], false, false⟩,
  ⟨0x03, "KIND_SUB", .u 1, .ro, 0, .all, [0], false, false⟩,
  ⟨0x04, "STATE", .u 1, .ro, 0, .all, [0], false, false⟩,
  ⟨0x05, "PROGRESS", .u 2, .ro, 0, .all, [0], false, false⟩,
  ⟨0x06, "RESULT", .u 4, .ro, 0, .all, [0], false, false⟩,
  ⟨0x07, "RESOURCES", .u 4, .ro, 0, .all, [0], false, false⟩,
  ⟨0x08, "STARTED", .time96, .ro, 0, .all, [0], false, false⟩,
  ⟨0x09, "ENDED", .time96, .ro, 0, .all, [0], false, false⟩,
  ⟨0x0A, "ABORT", .u 4, .cmd, 0, .all, [0], false, false⟩,
  ⟨0x0B, "RELEASE", .u 4, .cmd, 0, .all, [0], false, false⟩
]

/-- The entries of Encoder channel configuration, index 0x2000 + 0x10*c (R59). -/
def encCfgRows : List Row := [
  ⟨0x00, "HIGHEST_SUB", .u 1, .ro, 0, .all, [6], false, false⟩,
  ⟨0x01, "ENABLE", .bool, .rwm, 6, .all, [1], true, true⟩,
  ⟨0x02, "FILTER", .u 1, .rwm, 6, .within 0 255, [12], true, true⟩,
  ⟨0x03, "POLARITY", .bool, .rwm, 6, .all, [0], true, true⟩,
  ⟨0x04, "Z_PERIOD", .u 4, .rw, 0, .zeroOr 4 2147483647, [0], true, true⟩,
  ⟨0x05, "Z_TOL", .u 1, .rw, 0, .within 0 255, [1], true, true⟩,
  ⟨0x06, "Z_GATE", .u 1, .rw, 0, .within 0 1, [0], true, true⟩
]

/-- The entries of Encoder channel status, index 0x2001 + 0x10*c (R63). -/
def encStatRows : List Row := [
  ⟨0x00, "HIGHEST_SUB", .u 1, .ro, 0, .all, [7], false, false⟩,
  ⟨0x01, "POSITION", .pos48, .ro, 0, .all, [0], false, false⟩,
  ⟨0x02, "SPEED", .i 4, .ro, 0, .all, [0], false, false⟩,
  ⟨0x03, "FLAGS", .u 1, .ro, 0, .all, [0], false, false⟩,
  ⟨0x04, "EDGE_PERIOD", .u 4, .ro, 0, .all, [0], false, false⟩,
  ⟨0x05, "ILLEGAL_COUNT", .u 4, .ro, 0, .all, [0], false, false⟩,
  ⟨0x06, "INDEX_POSITION", .pos48, .ro, 0, .all, [0], false, false⟩,
  ⟨0x07, "INDEX_ERRORS", .u 4, .ro, 0, .all, [0], false, false⟩
]

/-- The entries of Line clock configuration, index 0x2100 (R72). -/
def lineClockCfgRows : List Row := [
  ⟨0x00, "HIGHEST_SUB", .u 1, .ro, 0, .all, [12], false, false⟩,
  ⟨0x01, "MODE", .u 1, .rwm, 6, .within 0 1, [0], true, true⟩,
  ⟨0x02, "COUNTS_PER_LINE", .u 8, .rwm, 6, .within 0x1000000 0xFFFFFFFFFFFF, [4294967296], true, true⟩,
  ⟨0x03, "HYSTERESIS", .u 1, .rw, 0, .within 0 255, [2], true, true⟩,
  ⟨0x04, "REVERSE_MAX", .u 4, .rw, 0, .within 1 16777215, [1000], true, true⟩,
  ⟨0x05, "T_STILL", .u 2, .rw, 0, .within 1 1000, [50], true, true⟩,
  ⟨0x06, "REVERSE_ACTION", .u 1, .rw, 0, .within 0 1, [0], true, true⟩,
  ⟨0x07, "XCHECK_RATIO", .u 8, .rw, 0, .within 0x10000 0x10000000000, [4294967296], true, true⟩,
  ⟨0x08, "XCHECK_WINDOW", .u 4, .rw, 0, .zeroOr 1000 2147483647, [0], true, true⟩,
  ⟨0x09, "XCHECK_TOL", .u 2, .rw, 0, .within 1 10000, [50], true, true⟩,
  ⟨0x0A, "XCHECK_ACTION", .u 1, .rw, 0, .within 0 1, [0], true, true⟩,
  ⟨0x0B, "SPEED_WARN_FRACTION", .u 2, .rw, 0, .within 5000 10000, [9500], true, true⟩,
  ⟨0x0C, "ORIGIN", .u 4, .cmd, 6, .all, [0], false, true⟩
]

/-- The entries of Line clock status, index 0x2101 (R73). -/
def lineClockStatRows : List Row := [
  ⟨0x00, "HIGHEST_SUB", .u 1, .ro, 0, .all, [10], false, false⟩,
  ⟨0x01, "STATE", .u 1, .ro, 0, .all, [0], false, false⟩,
  ⟨0x02, "LAST_TICK", .u 4, .ro, 0, .all, [0], false, false⟩,
  ⟨0x03, "LAST_TICK_TIME", .time96, .ro, 0, .all, [0], false, false⟩,
  ⟨0x04, "HIGH_WATER", .pos48, .ro, 0, .all, [0], false, false⟩,
  ⟨0x05, "NEXT_BOUNDARY", .pos48, .ro, 0, .all, [0], false, false⟩,
  ⟨0x06, "NEXT_BOUNDARY_FRAC", .u 4, .ro, 0, .all, [0], false, false⟩,
  ⟨0x07, "LINE_PERIOD", .u 4, .ro, 0, .all, [0], false, false⟩,
  ⟨0x08, "DEVIATION", .i 4, .ro, 0, .all, [0], false, false⟩,
  ⟨0x09, "REVERSE_COUNT", .u 4, .ro, 0, .all, [0], false, false⟩,
  ⟨0x0A, "SPEED_WARN", .bool, .ro, 0, .all, [0], false, false⟩
]

/-- The entries of Probe entries, index 0x2040 + p (R77). -/
def probeRows : List Row := [
  ⟨0x00, "HIGHEST_SUB", .u 1, .ro, 0, .all, [11], false, false⟩,
  ⟨0x01, "ENABLE", .bool, .rw, 0, .all, [0], true, true⟩,
  ⟨0x02, "EDGE", .u 1, .rw, 0, .within 1 3, [1], true, true⟩,
  ⟨0x03, "FILTER", .u 1, .rw, 0, .within 0 255, [12], true, true⟩,
  ⟨0x04, "WINDOW_LO", .pos48, .rw, 0, .all, [0], true, true⟩,
  ⟨0x05, "WINDOW_HI", .pos48, .rw, 0, .all, [0], true, true⟩,
  ⟨0x06, "COUNT", .u 4, .ro, 0, .all, [0], false, false⟩,
  ⟨0x07, "REJECTED", .u 4, .ro, 0, .all, [0], false, false⟩,
  ⟨0x08, "OVERFLOWS", .u 4, .ro, 0, .all, [0], false, false⟩,
  ⟨0x09, "LAST_POSITION", .pos48, .ro, 0, .all, [0], false, false⟩,
  ⟨0x0A, "LAST_TIME", .time96, .ro, 0, .all, [0], false, false⟩,
  ⟨0x0B, "LAST_EDGE", .u 1, .ro, 0, .all, [0], false, false⟩
]

/-- The entries of Compare unit entries, index 0x2080 + u (R81). -/
def cmpUnitRows : List Row := [
  ⟨0x00, "HIGHEST_SUB", .u 1, .ro, 0, .all, [9], false, false⟩,
  ⟨0x01, "ARM", .u 1, .rw, 0, .within 0 2, [0], false, true⟩,
  ⟨0x02, "TARGET", .pos48, .rw, 0, .all, [0], false, true⟩,
  ⟨0x03, "INCREMENT", .u 4, .rw, 0, .zeroOr 1 2147483647, [0], false, true⟩,
  ⟨0x04, "FIRE_IF_PASSED", .bool, .rw, 0, .all, [0], true, true⟩,
  ⟨0x05, "OUTPUTS", .u 2, .rw, 0, .all, [0], true, true⟩,
  ⟨0x06, "PULSE_WIDTH", .u 4, .rw, 0, .within 10 1000000, [1000], true, true⟩,
  ⟨0x07, "FIRED_COUNT", .u 4, .ro, 0, .all, [0], false, false⟩,
  ⟨0x08, "LAST_FIRE_TIME", .time96, .ro, 0, .all, [0], false, false⟩,
  ⟨0x09, "STATUS", .u 1, .ro, 0, .all, [0], false, false⟩
]

/-- The entries of Compare output entries, index 0x20A0 + m (R81). -/
def cmpOutRows : List Row := [
  ⟨0x00, "HIGHEST_SUB", .u 1, .ro, 0, .all, [2], false, false⟩,
  ⟨0x01, "SOURCE", .u 1, .rw, 0, .within 0 3, [0], true, true⟩,
  ⟨0x02, "POLARITY", .bool, .rw, 0, .all, [0], true, true⟩
]

/-- The entries of Emulated encoder entries, index 0x20C0 + e (R84). -/
def emuRows : List Row := [
  ⟨0x00, "HIGHEST_SUB", .u 1, .ro, 0, .all, [7], false, false⟩,
  ⟨0x01, "ENABLE", .bool, .rw, 0, .all, [0], true, true⟩,
  ⟨0x02, "RATIO", .u 8, .rw, 0, .within 1 0x1000000000, [4294967296], true, true⟩,
  ⟨0x03, "MIN_EDGE", .u 2, .rw, 0, .within 40 10000, [40], true, true⟩,
  ⟨0x04, "Z_PERIOD", .u 4, .rw, 0, .zeroOr 4 2147483647, [0], true, true⟩,
  ⟨0x05, "LAG_LIMIT", .u 4, .rw, 0, .within 1 16777215, [1024], true, true⟩,
  ⟨0x06, "OUT_POSITION", .pos48, .ro, 0, .all, [0], false, false⟩,
  ⟨0x07, "LAG", .i 4, .ro, 0, .all, [0], false, false⟩
]

/-- The entries of Reserve entries, index 0x6000 (R107). -/
def reserveRows : List Row := [
  ⟨0x00, "HIGHEST_SUB", .u 1, .ro, 0, .all, [15], false, false⟩,
  ⟨0x01, "CAPACITY", .u 8, .ro, 0, .all, [0], false, false⟩,
  ⟨0x02, "HEAP_FREE", .u 8, .ro, 0, .all, [0], false, false⟩,
  ⟨0x03, "SEGMENTS", .u 4, .ro, 0, .all, [0], false, false⟩,
  ⟨0x04, "LOW_WATER", .u 1, .rw, 0, .within 1 50, [10], true, true⟩,
  ⟨0x05, "WINDOW_BASE", .u 8, .rw, 0, .all, [0], false, false⟩,
  ⟨0x06, "QUERY_ID", .u 4, .rw, 0, .all, [0], false, false⟩,
  ⟨0x07, "QUERY_RESULT", .octets 16, .ro, 0, .all, [0], false, false⟩,
  ⟨0x08, "PURGE", .u 4, .cmd, 0, .all, [0], false, true⟩,
  ⟨0x09, "OPEN_DIRECT", .octets 32, .cmd, 0, .all, [0], false, true⟩,
  ⟨0x0A, "DIRECT_OFFSET", .u 8, .ro, 0, .all, [0], false, false⟩,
  ⟨0x0B, "COMMIT_DIRECT", .u 4, .cmd, 0, .all, [0], false, false⟩,
  ⟨0x0C, "NET_ACCESSION", .domain 0 67108864, .wo, 0, .all, [0], false, false⟩,
  ⟨0x0D, "NET_RESULT", .u 4, .ro, 0, .all, [0], false, false⟩,
  ⟨0x0E, "DISCARDED_WRITES", .u 4, .ro, 0, .all, [0], false, false⟩,
  ⟨0x0F, "ACCESSION_FAILURES", .u 4, .ro, 0, .all, [0], false, false⟩
]

/-- The entries of Compression engine entries, index 0x6800 (R108). -/
def compressionRows : List Row := [
  ⟨0x00, "HIGHEST_SUB", .u 1, .ro, 0, .all, [7], false, false⟩,
  ⟨0x01, "INFLATE_BUSY", .u 1, .ro, 0, .all, [0], false, false⟩,
  ⟨0x02, "INFLATED_BYTES", .u 8, .ro, 0, .all, [0], false, false⟩,
  ⟨0x03, "DEFLATE_LEVEL", .u 1, .rw, 0, .within 1 9, [6], true, true⟩,
  ⟨0x04, "BUNDLE", .octets 24, .cmd, 0, .all, [0], false, false⟩,
  ⟨0x05, "OUTPUT_FULL_COUNT", .u 4, .ro, 0, .all, [0], false, false⟩,
  ⟨0x06, "LEVEL_CAP", .u 1, .ro, 0, .all, [9], false, false⟩,
  ⟨0x07, "EGRESS_RING", .u 4, .rw, 0, .all, [197121], true, true⟩
]

/-- The entries of Gallery composition, index 0x3010 + 0x100*g (R132). -/
def galCompRows : List Row := [
  ⟨0x00, "HIGHEST_SUB", .u 1, .ro, 0, .all, [4], false, false⟩,
  ⟨0x01, "UPSAMPLE", .u 1, .rwm, 6, .within 0 1, [0], true, true⟩,
  ⟨0x02, "CACHE_USED", .u 4, .ro, 0, .all, [0], false, false⟩,
  ⟨0x03, "LINES_COMPOSED", .u 4, .ro, 0, .all, [0], false, false⟩,
  ⟨0x04, "CAPTION_LATE_COUNT", .u 4, .ro, 0, .all, [0], false, false⟩
]

/-- The entries of Hanging plans, index 0x6100 (R132). -/
def plansRows : List Row := [
  ⟨0x00, "HIGHEST_SUB", .u 1, .ro, 0, .all, [12], false, false⟩,
  ⟨0x01, "ARM", .octets 16, .cmd, 24, .all, [0], false, true⟩,
  ⟨0x02, "DISARM", .u 4, .cmd, 0, .all, [0], false, true⟩,
  ⟨0x03, "STATE", .u 1, .ro, 0, .all, [0], false, false⟩,
  ⟨0x04, "ACTIVE_PLAN", .u 4, .ro, 0, .all, [0], false, false⟩,
  ⟨0x05, "ACTIVE_SWITCH", .u 4, .ro, 0, .all, [0], false, false⟩,
  ⟨0x06, "ACTIVE_BASE", .u 4, .ro, 0, .all, [0], false, false⟩,
  ⟨0x07, "ARMED_PLAN", .u 4, .ro, 0, .all, [0], false, false⟩,
  ⟨0x08, "ARMED_SWITCH", .u 4, .ro, 0, .all, [0], false, false⟩,
  ⟨0x09, "ARMED_BASE", .u 4, .ro, 0, .all, [0], false, false⟩,
  ⟨0x0A, "PLAN_DEMAND", .u 4, .ro, 0, .all, [0], false, false⟩,
  ⟨0x0B, "COMPOSE_CYCLES", .u 2, .ro, 0, .all, [0], false, false⟩,
  ⟨0x0C, "DEMAND_STRICT", .bool, .rw, 0, .all, [1], true, true⟩
]

/-- The entries of Caption region, index 0x6200 (R132). -/
def captionRegionRows : List Row := [
  ⟨0x00, "HIGHEST_SUB", .u 1, .ro, 0, .all, [2], false, false⟩,
  ⟨0x01, "REGION_SIZE", .u 2, .rwm, 2, .within 0 4096, [64], true, true⟩,
  ⟨0x02, "REGION_UNALLOCATED", .u 4, .ro, 0, .all, [65536], false, false⟩
]

/-- The entries of Caption queue q = 0–63, index 0x6210 + q (R132). -/
def capQueueRows : List Row := [
  ⟨0x00, "HIGHEST_SUB", .u 1, .ro, 0, .all, [12], false, false⟩,
  ⟨0x01, "QUEUE_BYTES", .u 4, .rwm, 2, .all, [0], true, true⟩,
  ⟨0x02, "TILE_WIDTH", .u 2, .rwm, 2, .within 8 8192, [64], true, true⟩,
  ⟨0x03, "TILE_HEIGHT", .u 2, .rwm, 2, .within 8 8192, [64], true, true⟩,
  ⟨0x04, "CAPACITY", .u 4, .ro, 0, .all, [0], false, false⟩,
  ⟨0x05, "BASE_INSTANCE", .u 4, .ro, 0, .all, [0], false, false⟩,
  ⟨0x06, "NEXT_INSTANCE", .u 4, .ro, 0, .all, [0], false, false⟩,
  ⟨0x07, "HELD", .u 4, .ro, 0, .all, [0], false, false⟩,
  ⟨0x08, "ENQUEUE", .u 4, .cmd, 0, .all, [0], false, true⟩,
  ⟨0x09, "RESTART", .u 4, .cmd, 0, .all, [0], false, true⟩,
  ⟨0x0A, "LOW_TILES", .u 4, .rw, 0, .all, [0], true, true⟩,
  ⟨0x0B, "STARVED_COUNT", .u 4, .ro, 0, .all, [0], false, false⟩,
  ⟨0x0C, "LAST_STARVED", .u 4, .ro, 0, .all, [0], false, false⟩
]

/-- The entries of Changeover, index 0x6300 (R132). -/
def changeoverRows : List Row := [
  ⟨0x00, "HIGHEST_SUB", .u 1, .ro, 0, .all, [4], false, false⟩,
  ⟨0x01, "GALLERIES_SWITCHED", .u 1, .ro, 0, .all, [0], false, false⟩,
  ⟨0x02, "COMPLETE_TICK", .u 4, .ro, 0, .all, [0], false, false⟩,
  ⟨0x03, "SWITCH_COUNT", .u 4, .ro, 0, .all, [0], false, false⟩,
  ⟨0x04, "LAST_SWITCH_TIME", .time96, .ro, 0, .all, [0], false, false⟩
]

/-- The entries of Nozzle path, index 0x3020 + 0x100*g (R157). -/
def nozzlePathRows : List Row := [
  ⟨0x00, "HIGHEST_SUB", .u 1, .ro, 0, .all, [13], false, false⟩,
  ⟨0x01, "BITS_PER_NOZZLE", .u 1, .rwm, 6, .within 1 3, [2], true, true⟩,
  ⟨0x02, "TONE_CURVE", .domain 512 512, .rw, 0, .all, [0], true, true⟩,
  ⟨0x03, "WEAK_BOOST", .u 2, .rw, 0, .within 0x4000 0xFFFF, [19661], true, true⟩,
  ⟨0x04, "WEAK_CEILING", .u 2, .rw, 0, .within 0x4000 0xFFFF, [24576], true, true⟩,
  ⟨0x05, "PHASE_X", .u 1, .rw, 0, .within 0 255, [0], true, true⟩,
  ⟨0x06, "PHASE_Y", .u 1, .rw, 0, .within 0 255, [0], true, true⟩,
  ⟨0x07, "THRESHOLD_LOAD", .u 4, .cmd, 6, .all, [0], false, false⟩,
  ⟨0x08, "THRESHOLD_ID", .u 4, .ro, 0, .all, [0], false, false⟩,
  ⟨0x09, "THRESHOLD_BITS", .u 1, .ro, 0, .all, [0], false, false⟩,
  ⟨0x0A, "STITCH_MASK", .domain 128 128, .rw, 0, .all, [0], true, true⟩,
  ⟨0x0B, "LEVEL_CLAMPED_COUNT", .u 4, .ro, 0, .all, [0], false, false⟩,
  ⟨0x0C, "ECC_CORRECTED", .u 4, .ro, 0, .all, [0], false, false⟩,
  ⟨0x0D, "ECC_UNCORRECTABLE", .u 4, .ro, 0, .all, [0], false, false⟩
]

/-- The entries of Nozzle tables, index 0x3021 + 0x100*g (R157). -/
def nozzleTablesRows : List Row := [
  ⟨0x00, "HIGHEST_SUB", .u 1, .ro, 0, .all, [15], false, false⟩,
  ⟨0x01, "LOAD", .u 4, .cmd, 0, .all, [0], false, true⟩,
  ⟨0x02, "SPARE_STATE", .u 1, .ro, 0, .all, [0], false, false⟩,
  ⟨0x03, "EDIT", .octets 12, .wo, 0, .all, [0], false, true⟩,
  ⟨0x04, "SWAP_LINE", .u 4, .cmd, 0, .all, [0], false, true⟩,
  ⟨0x05, "SWAP_CANCEL", .u 4, .cmd, 0, .all, [0], false, true⟩,
  ⟨0x06, "ACTIVE_SOURCE", .u 4, .ro, 0, .all, [0], false, false⟩,
  ⟨0x07, "LAST_SWAP_LINE", .u 4, .ro, 0, .all, [0], false, false⟩,
  ⟨0x08, "SWAP_COUNT", .u 4, .ro, 0, .all, [0], false, false⟩,
  ⟨0x09, "OWNER", .u 1, .ro, 0, .all, [0], false, false⟩,
  ⟨0x0A, "FAULTED", .bool, .ro, 0, .all, [0], false, false⟩,
  ⟨0x0B, "READ_SELECT", .u 4, .rw, 0, .within 0 131071, [0], false, false⟩,
  ⟨0x0C, "READ_ACTIVE", .octets 8, .ro, 0, .all, [0], false, false⟩,
  ⟨0x0D, "READ_SPARE", .octets 8, .ro, 0, .all, [0], false, false⟩,
  ⟨0x0E, "MISSING_COUNT", .u 4, .ro, 0, .all, [0], false, false⟩,
  ⟨0x0F, "WEAK_COUNT", .u 4, .ro, 0, .all, [0], false, false⟩
]

/-- The entries of Fire-at predictor, index 0x2110 (R176). -/
def predictorRows : List Row := [
  ⟨0x00, "HIGHEST_SUB", .u 1, .ro, 0, .all, [4], false, false⟩,
  ⟨0x01, "PHASE_SHIFT", .u 1, .rw, 0, .within 0 8, [3], true, true⟩,
  ⟨0x02, "PREDICTOR_VALID", .bool, .ro, 0, .all, [0], false, false⟩,
  ⟨0x03, "TICK_OVERDUE_COUNT", .u 4, .ro, 0, .all, [0], false, false⟩,
  ⟨0x04, "CANCEL_COUNT", .u 4, .ro, 0, .all, [0], false, false⟩
]

/-- The entries of Gallery firing, index 0x3030 + 0x100*g (R176). -/
def galFiringRows : List Row := [
  ⟨0x00, "HIGHEST_SUB", .u 1, .ro, 0, .all, [13], false, false⟩,
  ⟨0x01, "BAR_OFFSET", .u 4, .rwm, 6, .within 0 1048575, [0], true, true⟩,
  ⟨0x02, "LEAD", .u 1, .rwm, 6, .within 4 32, [8], true, true⟩,
  ⟨0x03, "PAIRED", .bool, .rwm, 6, .all, [0], true, true⟩,
  ⟨0x04, "REG_TRIM", .i 1, .rw, 0, .within (-63) 63, [0], true, true⟩,
  ⟨0x05, "BAND_EDGE_1", .i 2, .rw, 0, .within (-400) 1500, [350], true, true⟩,
  ⟨0x06, "BAND_EDGE_2", .i 2, .rw, 0, .within (-400) 1500, [400], true, true⟩,
  ⟨0x07, "BAND_EDGE_3", .i 2, .rw, 0, .within (-400) 1500, [450], true, true⟩,
  ⟨0x08, "WAVE_MAP", .octets 28, .rw, 0, .all, [1585879215690030898434701835127475450796504906395770162338563490048], true, true⟩,
  ⟨0x09, "DATA_LATE_COUNT", .u 4, .ro, 0, .all, [0], false, false⟩,
  ⟨0x0A, "OVERSPEED_COUNT", .u 4, .ro, 0, .all, [0], false, false⟩,
  ⟨0x0B, "UNPREDICTED_COUNT", .u 4, .ro, 0, .all, [0], false, false⟩,
  ⟨0x0C, "GATE_BLANK_COUNT", .u 4, .ro, 0, .all, [0], false, false⟩,
  ⟨0x0D, "LAST_FIRE_AT", .time96, .ro, 0, .all, [0], false, false⟩
]

/-- The entries of Gallery registration, index 0x3031 + 0x100*g (R176). -/
def galRegRows : List Row := [
  ⟨0x00, "HIGHEST_SUB", .u 1, .ro, 0, .all, [10], false, false⟩,
  ⟨0x01, "REG_MODE", .u 1, .rw, 0, .within 0 2, [0], true, true⟩,
  ⟨0x02, "REG_PROBE", .u 1, .rw, 0, .within 0 3, [0], true, true⟩,
  ⟨0x03, "REG_REFERENCE", .bool, .rw, 0, .all, [0], true, true⟩,
  ⟨0x04, "REG_GAP", .i 4, .rw, 0, .within 0 2147483647, [0], true, true⟩,
  ⟨0x05, "REG_WINDOW", .u 2, .rw, 0, .within 1 65535, [64], true, true⟩,
  ⟨0x06, "REG_GAIN", .u 2, .rw, 0, .within 1 256, [64], true, true⟩,
  ⟨0x07, "REG_SLEW", .u 1, .rw, 0, .within 1 63, [4], true, true⟩,
  ⟨0x08, "REG_ERROR", .i 4, .ro, 0, .all, [0], false, false⟩,
  ⟨0x09, "REG_MARKS", .u 4, .ro, 0, .all, [0], false, false⟩,
  ⟨0x0A, "REG_UNMATCHED", .u 4, .ro, 0, .all, [0], false, false⟩
]

/-- The entries of Bay firing, index 0x4000 + b, subindices 0x01–0x10 (R176, R216). -/
def bayRows : List Row := [
  ⟨0x00, "HIGHEST_SUB",             .u 1,             .ro,   0, .all, [30], false, false⟩,
  ⟨0x01, "POPULATED", .bool, .rwm, 6, .all, [0], true, true⟩,
  ⟨0x02, "COLUMN_START", .u 4, .rwm, 6, .within 0 262143, [0], true, true⟩,
  ⟨0x03, "ROW", .u 1, .rwm, 6, .within 0 3, [0], true, true⟩,
  ⟨0x04, "ALONG_OFFSET", .u 2, .rwm, 6, .within 0 2047, [0], true, true⟩,
  ⟨0x05, "K_T", .i 2, .rw, 0, .all, [0], false, false⟩,
  ⟨0x06, "K_V", .i 2, .rw, 0, .all, [0], false, false⟩,
  ⟨0x07, "T_REF", .i 2, .rw, 0, .all, [0], false, false⟩,
  ⟨0x08, "V_REF", .u 2, .rw, 0, .all, [0], false, false⟩,
  ⟨0x09, "INK_COLD_LIMIT", .i 2, .rw, 0, .within (-400) 1500, [200], true, true⟩,
  ⟨0x0A, "TEMP", .i 2, .ro, 0, .all, [0], false, false⟩,
  ⟨0x0B, "SUPPLY", .u 2, .ro, 0, .all, [0], false, false⟩,
  ⟨0x0C, "BAND", .u 1, .ro, 0, .all, [0], false, false⟩,
  ⟨0x0D, "TRIM", .u 2, .ro, 0, .all, [32768], false, false⟩,
  ⟨0x0E, "FLAGS", .u 1, .ro, 0, .all, [1], false, false⟩,
  ⟨0x0F, "MAX_RATE", .u 4, .ro, 0, .all, [0], false, false⟩,
  ⟨0x10, "OVERSPEED_BLANKS", .u 4, .ro, 0, .all, [0], false, false⟩,
  ⟨0x11, "ID_STATE", .u 1, .ro, 0, .all, [0], false, false⟩,
  ⟨0x12, "ID_FAULT", .u 1, .ro, 0, .all, [0], false, false⟩,
  ⟨0x13, "ID_OVERRIDE", .bool, .rwm, 6, .all, [0], true, true⟩,
  ⟨0x14, "OVERRIDE_NOZZLES", .u 2, .rwm, 6, .oneOf [1024, 1280, 1536, 2048], [2048], true, true⟩,
  ⟨0x15, "OVERRIDE_MAX_RATE", .u 4, .rwm, 6, .within 1000 160000, [20000], true, true⟩,
  ⟨0x16, "HEAD_TYPE", .u 2, .ro, 0, .all, [0], false, false⟩,
  ⟨0x17, "NOZZLES", .u 2, .ro, 0, .all, [0], false, false⟩,
  ⟨0x18, "RANK", .u 1, .ro, 0, .all, [0], false, false⟩,
  ⟨0x19, "HEAD_SERIAL", .text 16, .ro, 0, .all, [0], false, false⟩,
  ⟨0x1A, "ID_RECORD", .domain 0 256, .ro, 0, .all, [0], false, false⟩,
  ⟨0x1B, "ID_EXTENSION", .domain 0 16384, .ro, 0, .all, [0], false, false⟩,
  ⟨0x1C, "WAVE_LOAD", .u 4, .cmd, 4, .all, [0], false, false⟩,
  ⟨0x1D, "WAVES_LOADED", .bool, .ro, 0, .all, [0], false, false⟩,
  ⟨0x1E, "INK_TEMP", .i 2, .ro, 0, .all, [0], false, false⟩
]

/-- The entries of Gate n, index 0x2200 + n; gate group, index 0x2210 (R176). -/
def gateRows : List Row := [
  ⟨0x00, "HIGHEST_SUB", .u 1, .ro, 0, .all, [9], false, false⟩,
  ⟨0x01, "FUNCTION", .u 1, .rwm, 6, .within 1 8, [1, 2, 3, 4, 5, 6, 7, 8], true, true⟩,
  ⟨0x02, "ENABLE", .bool, .rwm, 6, .all, [1], true, true⟩,
  ⟨0x03, "HEALTHY", .u 1, .rwm, 6, .within 0 1, [0], true, true⟩,
  ⟨0x04, "FILTER", .u 2, .rwm, 6, .within 1 1000, [10], true, true⟩,
  ⟨0x05, "LATCHING", .bool, .rwm, 6, .all, [1, 0, 1, 1, 1, 0, 1, 1], true, true⟩,
  ⟨0x06, "MODES", .u 1, .rwm, 6, .within 0 7, [7, 7, 7, 7, 6, 7, 7, 7], true, true⟩,
  ⟨0x07, "STATE", .u 1, .ro, 0, .all, [0], false, false⟩,
  ⟨0x08, "WITHDRAW_COUNT", .u 4, .ro, 0, .all, [0], false, false⟩,
  ⟨0x09, "LAST_CHANGE", .time96, .ro, 0, .all, [0], false, false⟩
]

/-- The entries of Gate n, index 0x2200 + n; gate group, index 0x2210 (R176). -/
def gateGroupRows : List Row := [
  ⟨0x00, "HIGHEST_SUB", .u 1, .ro, 0, .all, [3], false, false⟩,
  ⟨0x01, "GATES_DOWN", .u 1, .ro, 0, .all, [0], false, false⟩,
  ⟨0x02, "FAULT_CLEAR", .u 1, .cmd, 0, .all, [0], false, false⟩,
  ⟨0x03, "SAFE_N_STATE", .bool, .ro, 0, .all, [1], false, false⟩
]

/-- The entries of Lane entries, index 0x5000 + l (R215). -/
def laneRows : List Row := [
  ⟨0x00, "HIGHEST_SUB", .u 1, .ro, 0, .all, [22], false, false⟩,
  ⟨0x01, "ENABLE", .bool, .rwm, 6, .all, [1], true, true⟩,
  ⟨0x02, "RATE", .u 1, .rwm, 6, .within 0 2, [0], true, true⟩,
  ⟨0x03, "STATE", .u 1, .ro, 0, .all, [0], false, false⟩,
  ⟨0x04, "FOM", .u 1, .ro, 0, .all, [0], false, false⟩,
  ⟨0x05, "FOM_MODULE", .u 1, .ro, 0, .all, [0], false, false⟩,
  ⟨0x06, "TX_PRESET", .u 1, .ro, 0, .all, [4], false, false⟩,
  ⟨0x07, "DELAY", .u 4, .ro, 0, .all, [0], false, false⟩,
  ⟨0x08, "ASYM", .i 2, .rw, 0, .within (-1000) 1000, [0], true, true⟩,
  ⟨0x09, "LINK_TIME_VALID", .bool, .ro, 0, .all, [0], false, false⟩,
  ⟨0x0A, "RETRAIN", .u 1, .cmd, 0, .within 1 1, [0], false, false⟩,
  ⟨0x0B, "AUTO_RETRAIN", .bool, .rw, 0, .all, [1], true, true⟩,
  ⟨0x0C, "UPSTREAM_TIMEOUT", .u 2, .rw, 0, .within 4 1000, [10], true, true⟩,
  ⟨0x0D, "TIME_SYNC_PERIOD", .u 2, .rw, 0, .within 1 1000, [10], true, true⟩,
  ⟨0x0E, "DOWN_COUNT", .u 4, .ro, 0, .all, [0], false, false⟩,
  ⟨0x0F, "LAST_DOWN_CAUSE", .u 1, .ro, 0, .all, [0], false, false⟩,
  ⟨0x10, "BAD_FRAMES", .u 4, .ro, 0, .all, [0], false, false⟩,
  ⟨0x11, "FRAMES_LOST", .u 4, .ro, 0, .all, [0], false, false⟩,
  ⟨0x12, "MODULE_LATE_COUNT", .u 4, .ro, 0, .all, [0], false, false⟩,
  ⟨0x13, "TEST_MODE", .u 1, .rwm, 6, .within 0 6, [0], false, false⟩,
  ⟨0x14, "INJECT", .u 4, .rw, 0, .all, [0], false, false⟩,
  ⟨0x15, "PRBS_ERRORS", .u 8, .ro, 0, .all, [0], false, false⟩,
  ⟨0x16, "PRBS_BITS", .u 8, .ro, 0, .all, [0], false, false⟩
]

/-- The entries of Module entries, index 0x5800 + l (R215). -/
def moduleRows : List Row := [
  ⟨0x00, "HIGHEST_SUB", .u 1, .ro, 0, .all, [5], false, false⟩,
  ⟨0x01, "MOD_ID", .u 4, .ro, 0, .all, [0], false, false⟩,
  ⟨0x02, "MOD_CAPS", .u 4, .ro, 0, .all, [0], false, false⟩,
  ⟨0x03, "MOD_VERSION", .u 4, .ro, 0, .all, [0], false, false⟩,
  ⟨0x04, "REG_ADDRESS", .u 2, .rw, 0, .within 0x100 0xFFFC, [256], false, false⟩,
  ⟨0x05, "REG_DATA", .u 4, .rw, 0, .all, [0], false, false⟩
]

/-- The entries of Camera context c = 0–15, index 0x7000 + c (R232). -/
def cameraRows : List Row := [
  ⟨0x00, "HIGHEST_SUB", .u 1, .ro, 0, .all, [32], false, false⟩,
  ⟨0x01, "ENABLE", .bool, .rwm, 2, .all, [0], true, false⟩,
  ⟨0x02, "PORT", .u 1, .rwm, 6, .within 0 3, [0, 0, 0, 0, 1, 1, 1, 1, 2, 2, 2, 2, 3, 3, 3, 3], true, false⟩,
  ⟨0x03, "VC", .u 1, .rwm, 6, .within 0 3, [0, 1, 2, 3, 0, 1, 2, 3, 0, 1, 2, 3, 0, 1, 2, 3], true, false⟩,
  ⟨0x04, "DATA_TYPE", .u 1, .rwm, 6, .oneOf [0x2A, 0x2B, 0x2C], [44], true, false⟩,
  ⟨0x05, "WIDTH", .u 2, .rwm, 2, .within 64 8192, [2048], true, false⟩,
  ⟨0x06, "HEIGHT", .u 2, .rwm, 2, .within 64 8192, [1536], true, false⟩,
  ⟨0x07, "BAYER", .u 1, .rw, 0, .within 0 3, [0], true, false⟩,
  ⟨0x08, "TRIGGER_UNIT", .u 1, .rw, 0, .orFF 15, [255], true, false⟩,
  ⟨0x09, "LATENCY", .u 1, .rw, 0, .within 0 3, [0], true, false⟩,
  ⟨0x0A, "CCI_ADDRESS", .u 1, .rw, 0, .within 0x08 0x77, [16], true, false⟩,
  ⟨0x0B, "FN_MODE", .u 1, .rw, 0, .within 0 1, [0], true, false⟩,
  ⟨0x0C, "BLACK", .octets 8, .rw, 0, .all, [0], true, false⟩,
  ⟨0x0D, "WB_GAIN", .octets 8, .rw, 0, .all, [4611756388245323776], true, false⟩,
  ⟨0x0E, "SHADING", .domain 2312 2312, .rw, 0, .all, [0], true, false⟩,
  ⟨0x0F, "SHADING_ON", .bool, .rw, 0, .all, [0], true, false⟩,
  ⟨0x10, "DEFECTS", .domain 0 4096, .rw, 0, .all, [0], true, false⟩,
  ⟨0x11, "MATRIX", .octets 24, .rw, 0, .all, [1393796574908163946421540255766436917547008], true, false⟩,
  ⟨0x12, "PIPE_VERSION", .u 4, .ro, 0, .all, [0], false, false⟩,
  ⟨0x13, "EXPOSURE", .domain 0 128, .rw, 0, .all, [0], false, false⟩,
  ⟨0x14, "EXPOSURE_COMMIT", .u 1, .cmd, 0, .within 1 1, [0], false, false⟩,
  ⟨0x15, "EPOCH", .u 4, .ro, 0, .all, [0], false, false⟩,
  ⟨0x16, "F_APPLY", .u 4, .ro, 0, .all, [0], false, false⟩,
  ⟨0x17, "EPOCH_STATE", .u 1, .ro, 0, .all, [0], false, false⟩,
  ⟨0x18, "FRAME_NUMBER", .u 4, .ro, 0, .all, [0], false, false⟩,
  ⟨0x19, "SLOT_STATE", .u 1, .ro, 0, .all, [0], false, false⟩,
  ⟨0x1A, "SLOT_OFFSET", .u 8, .ro, 0, .all, [0], false, false⟩,
  ⟨0x1B, "FREEZE", .u 1, .cmd, 0, .within 0 1, [0], false, false⟩,
  ⟨0x1C, "FRAMES_PROCESSED", .u 4, .ro, 0, .all, [0], false, false⟩,
  ⟨0x1D, "FRAMES_DROPPED", .u 4, .ro, 0, .all, [0], false, false⟩,
  ⟨0x1E, "FRAMES_DAMAGED", .u 4, .ro, 0, .all, [0], false, false⟩,
  ⟨0x1F, "FRAME_GAPS", .u 4, .ro, 0, .all, [0], false, false⟩,
  ⟨0x20, "TRIGGER_UNMATCHED", .u 4, .ro, 0, .all, [0], false, false⟩
]

/-- The entries of Image pipeline, index 0x7100 (R232). -/
def pipelineRows : List Row := [
  ⟨0x00, "HIGHEST_SUB", .u 1, .ro, 0, .all, [6], false, false⟩,
  ⟨0x01, "PIPE_LOAD", .u 4, .ro, 0, .all, [0], false, false⟩,
  ⟨0x02, "WAITING", .u 1, .ro, 0, .all, [0], false, false⟩,
  ⟨0x03, "ACTIVE", .u 1, .ro, 0, .all, [255], false, false⟩,
  ⟨0x04, "FRAMES_TOTAL", .u 4, .ro, 0, .all, [0], false, false⟩,
  ⟨0x05, "TRIGGER_WINDOW", .u 4, .rw, 0, .within 1 10000000, [100000], true, false⟩,
  ⟨0x06, "FRAME_TIMEOUT", .u 2, .rw, 0, .within 1 10000, [200], true, false⟩
]

/-- The entries of Port p = 0–3, index 0x7110 + p (R232). -/
def camPortRows : List Row := [
  ⟨0x00, "HIGHEST_SUB", .u 1, .ro, 0, .all, [12], false, false⟩,
  ⟨0x01, "ENABLE", .bool, .rwm, 6, .all, [0], true, false⟩,
  ⟨0x02, "LANES", .u 1, .rwm, 6, .oneOf [1, 2, 4], [4], true, false⟩,
  ⟨0x03, "LANE_RATE", .u 2, .rwm, 6, .within 80 2500, [2500], true, false⟩,
  ⟨0x04, "CCI_SPEED", .u 1, .rw, 0, .within 0 2, [1], true, false⟩,
  ⟨0x05, "CCI_REQUEST", .octets 24, .cmd, 0, .all, [0], false, false⟩,
  ⟨0x06, "CCI_RESULT", .octets 20, .ro, 0, .all, [0], false, false⟩,
  ⟨0x07, "STATE", .u 1, .ro, 0, .all, [0], false, false⟩,
  ⟨0x08, "ECC_CORRECTED", .u 4, .ro, 0, .all, [0], false, false⟩,
  ⟨0x09, "HEADER_ERRORS", .u 4, .ro, 0, .all, [0], false, false⟩,
  ⟨0x0A, "CRC_ERRORS", .u 4, .ro, 0, .all, [0], false, false⟩,
  ⟨0x0B, "PACKETS_IGNORED", .u 4, .ro, 0, .all, [0], false, false⟩,
  ⟨0x0C, "CCI_FAILURES", .u 4, .ro, 0, .all, [0], false, false⟩
]

/-- The entries of Ladder, index 0x3040 + 0x100*g (R237). -/
def ladderRows : List Row := [
  ⟨0x00, "HIGHEST_SUB", .u 1, .ro, 0, .all, [7], false, false⟩,
  ⟨0x01, "LADDER_ON", .bool, .rw, 0, .all, [0], true, true⟩,
  ⟨0x02, "LADDER_ROWS", .u 1, .rw, 0, .within 2 64, [8], true, true⟩,
  ⟨0x03, "LADDER_ROW_LINES", .u 1, .rw, 0, .within 1 64, [4], true, true⟩,
  ⟨0x04, "LADDER_LEVEL", .u 1, .rw, 0, .within 0 7, [0], true, true⟩,
  ⟨0x05, "LADDER_EVERY", .u 2, .rw, 0, .within 1 65535, [1], true, true⟩,
  ⟨0x06, "LADDER_LINE", .u 4, .rw, 0, .within 0 1048575, [0], true, true⟩,
  ⟨0x07, "LADDERS_PRINTED", .u 4, .ro, 0, .all, [0], false, false⟩
]

/-- The entries of Condition reports, index 0x7200 (R245). -/
def reportsRows : List Row := [
  ⟨0x00, "HIGHEST_SUB", .u 1, .ro, 0, .all, [2], false, false⟩,
  ⟨0x01, "REPORTS_TOTAL", .u 4, .ro, 0, .all, [0], false, false⟩,
  ⟨0x02, "LAST_CONTEXT", .u 1, .ro, 0, .all, [255], false, false⟩
]

/-- The entries of Context regions c = 0–15, index 0x7210 + c (R245). -/
def ctxRegionRows : List Row := [
  ⟨0x00, "HIGHEST_SUB", .u 1, .ro, 0, .all, [4], false, false⟩,
  ⟨0x01, "REGIONS", .domain 0 256, .rw, 0, .all, [0], true, false⟩,
  ⟨0x02, "CAM_OFFSET", .i 4, .rw, 0, .all, [0], true, false⟩,
  ⟨0x03, "REPORT_EGRESS", .bool, .rw, 0, .all, [0], true, false⟩,
  ⟨0x04, "LAST_REPORT", .domain 0 65760, .ro, 0, .all, [0], false, false⟩
]

/-- The entries of Drop gate, index 0x7C00 (R251). -/
def dropGateRows : List Row := [
  ⟨0x00, "HIGHEST_SUB", .u 1, .ro, 0, .all, [8], false, false⟩,
  ⟨0x01, "SWEEP", .u 1, .cmd, 4, .all, [0], false, false⟩,
  ⟨0x02, "T_MIN", .u 2, .rw, 0, .within 0 20000, [200], true, true⟩,
  ⟨0x03, "T_MAX", .u 2, .rw, 0, .all, [1200], true, true⟩,
  ⟨0x04, "T_LATE", .u 2, .rw, 0, .all, [1800], true, true⟩,
  ⟨0x05, "DG_LEVEL", .u 1, .rw, 0, .within 0 7, [0], true, true⟩,
  ⟨0x06, "DG_POLARITY", .u 1, .rw, 0, .within 0 1, [0], true, true⟩,
  ⟨0x07, "DG_FILTER", .u 1, .rw, 0, .within 0 255, [24], true, true⟩,
  ⟨0x08, "APPLY", .bool, .rw, 0, .all, [1], true, true⟩
]

/-- The entries of Drop-gate result of gallery g, index 0x7C10 + g (R251). -/
def dgResultRows : List Row := [
  ⟨0x00, "HIGHEST_SUB", .u 1, .ro, 0, .all, [7], false, false⟩,
  ⟨0x01, "SWEEP_STATE", .u 1, .ro, 0, .all, [0], false, false⟩,
  ⟨0x02, "GOOD_COUNT", .u 4, .ro, 0, .all, [0], false, false⟩,
  ⟨0x03, "WEAK_COUNT", .u 4, .ro, 0, .all, [0], false, false⟩,
  ⟨0x04, "MISSING_COUNT", .u 4, .ro, 0, .all, [0], false, false⟩,
  ⟨0x05, "UNTESTED_COUNT", .u 4, .ro, 0, .all, [0], false, false⟩,
  ⟨0x06, "STRAY", .u 4, .ro, 0, .all, [0], false, false⟩,
  ⟨0x07, "RESULTS", .domain 0 131072, .ro, 0, .all, [0], false, false⟩
]

/-- The entries of Colour loop, index 0x7800 (R257). -/
def loopRows : List Row := [
  ⟨0x00, "HIGHEST_SUB", .u 1, .ro, 0, .all, [12], false, false⟩,
  ⟨0x01, "LOOP_K", .u 2, .rw, 0, .within 1 512, [128], true, true⟩,
  ⟨0x02, "LOOP_SLEW", .u 2, .rw, 0, .within 1 983, [983], true, true⟩,
  ⟨0x03, "MISSING_RATIO", .u 2, .rw, 0, .within 0 10000, [3000], true, true⟩,
  ⟨0x04, "WEAK_RATIO", .u 2, .rw, 0, .all, [8000], true, true⟩,
  ⟨0x05, "RECOVER_RATIO", .u 2, .rw, 0, .all, [9000], true, true⟩,
  ⟨0x06, "MISS_COUNT", .u 1, .rw, 0, .within 1 255, [3], true, true⟩,
  ⟨0x07, "WEAK_COUNT", .u 1, .rw, 0, .within 1 255, [3], true, true⟩,
  ⟨0x08, "RECOVER_COUNT", .u 1, .rw, 0, .within 1 255, [5], true, true⟩,
  ⟨0x09, "GAIN_MIN", .u 2, .rw, 0, .all, [8192], true, true⟩,
  ⟨0x0A, "GAIN_MAX", .u 2, .rw, 0, .all, [32768], true, true⟩,
  ⟨0x0B, "LOOP_MARGIN", .u 2, .rw, 0, .within 16 65535, [64], true, true⟩,
  ⟨0x0C, "MIN_NOZZLES", .u 2, .rw, 0, .within 16 16384, [64], true, true⟩
]

/-- The entries of Colour loop of gallery g, index 0x7810 + g (R257). -/
def galLoopRows : List Row := [
  ⟨0x00, "HIGHEST_SUB", .u 1, .ro, 0, .all, [6], false, false⟩,
  ⟨0x01, "LOOP_ENABLE", .bool, .rw, 0, .all, [0], true, true⟩,
  ⟨0x02, "UPDATES", .u 4, .ro, 0, .all, [0], false, false⟩,
  ⟨0x03, "REPORTS_USED", .u 4, .ro, 0, .all, [0], false, false⟩,
  ⟨0x04, "REPORTS_STALE", .u 4, .ro, 0, .all, [0], false, false⟩,
  ⟨0x05, "STATE_CHANGES", .u 4, .ro, 0, .all, [0], false, false⟩,
  ⟨0x06, "LAST_UPDATE_LINE", .u 4, .ro, 0, .all, [0], false, false⟩
]

/-- The entries of Lamp chain ch = 0–3, index 0x8000 + ch (R271). -/
def lampChainRows : List Row := [
  ⟨0x00, "HIGHEST_SUB", .u 1, .ro, 0, .all, [11], false, false⟩,
  ⟨0x01, "ENABLE", .bool, .rwm, 6, .all, [0], true, true⟩,
  ⟨0x02, "TYPE", .u 1, .rwm, 6, .within 1 2, [1], true, true⟩,
  ⟨0x03, "DRIVERS", .u 1, .rwm, 6, .within 1 32, [1], true, true⟩,
  ⟨0x04, "CK_RATE", .u 2, .rwm, 6, .within 1000 25000, [25000], true, true⟩,
  ⟨0x05, "I_FS", .u 2, .rwm, 6, .within 1 20000, [2000], true, true⟩,
  ⟨0x06, "GLOBAL", .u 1, .rwm, 6, .within 0 127, [127], true, true⟩,
  ⟨0x07, "I_LEG_FS", .u 2, .rwm, 6, .within 1 20000, [1000], true, true⟩,
  ⟨0x08, "STATE", .u 1, .ro, 0, .all, [0], false, false⟩,
  ⟨0x09, "REFRESH_PERIOD", .u 2, .ro, 0, .all, [0], false, false⟩,
  ⟨0x0A, "BAD_READBACKS", .u 4, .ro, 0, .all, [0], false, false⟩,
  ⟨0x0B, "UNDER_TOL", .u 1, .rw, 0, .within 1 50, [5], true, true⟩
]

/-- The entries of Lamp n = 0–2,047, index 0x8100 + n (R271). -/
def lampRows : List Row := [
  ⟨0x00, "HIGHEST_SUB", .u 1, .ro, 0, .all, [16], false, false⟩,
  ⟨0x01, "ENABLE", .bool, .rwm, 6, .all, [0], true, true⟩,
  ⟨0x02, "ROLE", .u 1, .rwm, 6, .within 0 8, [8], true, true⟩,
  ⟨0x03, "BIN_IRR", .u 2, .rw, 0, .within 1 65535, [1000], true, true⟩,
  ⟨0x04, "TEMP_COEF", .i 2, .rw, 0, .within (-5000) 5000, [0], true, true⟩,
  ⟨0x05, "SETPOINT", .u 2, .rw, 0, .within 0 4095, [2048], true, true⟩,
  ⟨0x06, "CORR", .u 1, .rw, 0, .within 0 255, [255], true, true⟩,
  ⟨0x07, "WINDOW", .u 4, .rw, 0, .within 1 16777215, [1000], true, true⟩,
  ⟨0x08, "DOSE", .u 2, .rw, 0, .all, [0], true, true⟩,
  ⟨0x09, "STANDSTILL", .u 2, .rw, 0, .all, [0], true, true⟩,
  ⟨0x0A, "SERVICE_DUTY", .u 2, .rw, 0, .all, [0], false, false⟩,
  ⟨0x0B, "TEMP", .i 2, .ro, 0, .all, [0], false, false⟩,
  ⟨0x0C, "I_MEAS", .u 2, .ro, 0, .all, [0], false, false⟩,
  ⟨0x0D, "DUTY", .u 2, .ro, 0, .all, [0], false, false⟩,
  ⟨0x0E, "FLAGS", .u 1, .ro, 0, .all, [0], false, false⟩,
  ⟨0x0F, "DOSE_NOW", .u 2, .ro, 0, .all, [0], false, false⟩,
  ⟨0x10, "UNDER_COUNT", .u 4, .ro, 0, .all, [0], false, false⟩
]

/-- The entries of Pair, index 0x1200 (R296). -/
def pairRows : List Row := [
  ⟨0x00, "HIGHEST_SUB", .u 1, .ro, 0, .all, [18], false, false⟩,
  ⟨0x01, "PAIR_MODE", .bool, .rwm, 2, .all, [0], true, false⟩,
  ⟨0x02, "ROLE_STRAP", .u 1, .ro, 0, .all, [0], false, false⟩,
  ⟨0x03, "ROLE", .u 1, .ro, 0, .all, [0], false, false⟩,
  ⟨0x04, "REIGN", .u 2, .ro, 0, .all, [1], false, false⟩,
  ⟨0x05, "PEER_ROLE", .u 1, .ro, 0, .all, [255], false, false⟩,
  ⟨0x06, "LINK_STATE", .u 1, .ro, 0, .all, [0], false, false⟩,
  ⟨0x07, "LANES_DOWN_LIMIT", .u 1, .rw, 0, .within 1 32, [2], true, false⟩,
  ⟨0x08, "MIRROR_TIMEOUT", .u 2, .rw, 0, .within 1 10000, [100], true, false⟩,
  ⟨0x09, "ARBITRATION_WAIT", .u 2, .rw, 0, .within 100 60000, [2000], true, false⟩,
  ⟨0x0A, "HANDOVER", .u 1, .cmd, 0, .within 1 1, [0], false, false⟩,
  ⟨0x0B, "RESYNC", .u 1, .cmd, 0, .within 1 1, [0], false, false⟩,
  ⟨0x0C, "DECLARE_DEGRADED", .u 1, .cmd, 0, .within 1 1, [0], false, false⟩,
  ⟨0x0D, "TAKEOVERS", .u 4, .ro, 0, .all, [0], false, false⟩,
  ⟨0x0E, "LAST_GAP", .u 2, .ro, 0, .all, [0], false, false⟩,
  ⟨0x0F, "GAP_LINES", .u 4, .ro, 0, .all, [0], false, false⟩,
  ⟨0x10, "LAST_GIVE_UP", .u 1, .ro, 0, .all, [0], false, false⟩,
  ⟨0x11, "DIGEST_MISMATCHES", .u 4, .ro, 0, .all, [0], false, false⟩,
  ⟨0x12, "TIME_OFFSET", .i 4, .ro, 0, .all, [0], false, false⟩
]

/-- The entries of Port i = 0–1 configuration, index 0x1A00 + 0x10*i (R320). -/
def netCfgRows : List Row := [
  ⟨0x00, "HIGHEST_SUB", .u 1, .ro, 0, .all, [8], false, false⟩,
  ⟨0x01, "MODE", .u 1, .rwm, 6, .within 0 3, [2, 0], true, true⟩,
  ⟨0x02, "IP_CONFIG", .octets 12, .rw, 0, .all, [72057589956454592, 0], true, true⟩,
  ⟨0x03, "VLAN", .u 2, .rw, 0, .all, [0], true, true⟩,
  ⟨0x04, "DSCP", .u 1, .rw, 0, .within 0 63, [0], true, true⟩,
  ⟨0x05, "ARP_AGE", .u 2, .rw, 0, .within 30 3600, [300], true, true⟩,
  ⟨0x06, "PHY_ADDRESS", .u 1, .rw, 0, .within 0 31, [0, 1], true, true⟩,
  ⟨0x07, "MDIO_REQUEST", .octets 4, .cmd, 0, .all, [0], false, false⟩,
  ⟨0x08, "MDIO_RESULT", .u 2, .ro, 0, .all, [0], false, false⟩
]

/-- The entries of Port i status, index 0x1A01 + 0x10*i (R320). -/
def netStatRows : List Row := [
  ⟨0x00, "HIGHEST_SUB", .u 1, .ro, 0, .all, [10], false, false⟩,
  ⟨0x01, "LINK", .u 1, .ro, 0, .all, [0], false, false⟩,
  ⟨0x02, "RX_FRAMES", .u 8, .ro, 0, .all, [0], false, false⟩,
  ⟨0x03, "TX_FRAMES", .u 8, .ro, 0, .all, [0], false, false⟩,
  ⟨0x04, "FCS_ERRORS", .u 4, .ro, 0, .all, [0], false, false⟩,
  ⟨0x05, "OVERSIZE", .u 4, .ro, 0, .all, [0], false, false⟩,
  ⟨0x06, "FILTERED", .u 4, .ro, 0, .all, [0], false, false⟩,
  ⟨0x07, "MALFORMED", .u 4, .ro, 0, .all, [0], false, false⟩,
  ⟨0x08, "ICMP_ANSWERED", .u 4, .ro, 0, .all, [0], false, false⟩,
  ⟨0x09, "ARP_UNRESOLVED", .u 4, .ro, 0, .all, [0], false, false⟩,
  ⟨0x0A, "QUEUE_DROPS", .u 4, .ro, 0, .all, [0], false, false⟩
]

/-- The entries of Shared address, index 0x1A20 (R320). -/
def sharedIpRows : List Row := [
  ⟨0x00, "HIGHEST_SUB", .u 1, .ro, 0, .all, [2], false, false⟩,
  ⟨0x01, "SHARED_PORT", .u 1, .rw, 0, .orFF 1, [255], true, true⟩,
  ⟨0x02, "SHARED_IP", .octets 4, .rw, 0, .all, [0], true, true⟩
]

/-- The entries of Sessions and key, index 0x1400 (R320). -/
def sessionsKeyRows : List Row := [
  ⟨0x00, "HIGHEST_SUB", .u 1, .ro, 0, .all, [9], false, false⟩,
  ⟨0x01, "KEY", .octets 32, .wo, 0, .all, [0], true, true⟩,
  ⟨0x02, "KEY_SET", .bool, .ro, 0, .all, [0], false, false⟩,
  ⟨0x03, "KEY_GENERATION", .u 4, .ro, 0, .all, [0], false, false⟩,
  ⟨0x04, "SESSIONS_OPEN", .u 1, .ro, 0, .all, [0], false, false⟩,
  ⟨0x05, "AUTH_FAILURES", .u 4, .ro, 0, .all, [0], false, false⟩,
  ⟨0x06, "LOCKOUTS", .u 4, .ro, 0, .all, [0], false, false⟩,
  ⟨0x07, "RATE_DROPS", .u 4, .ro, 0, .all, [0], false, false⟩,
  ⟨0x08, "CLOSE_SESSION", .u 4, .cmd, 0, .all, [0], false, false⟩,
  ⟨0x09, "SOURCES_TRACKED", .u 2, .ro, 0, .all, [0], false, false⟩
]

/-- The entries of Session slot s = 0–7, index 0x1410 + s (R320). -/
def sessionRows : List Row := [
  ⟨0x00, "HIGHEST_SUB", .u 1, .ro, 0, .all, [7], false, false⟩,
  ⟨0x01, "STATE", .u 1, .ro, 0, .all, [0], false, false⟩,
  ⟨0x02, "SESSION_ID", .u 4, .ro, 0, .all, [0], false, false⟩,
  ⟨0x03, "PEER", .octets 6, .ro, 0, .all, [0], false, false⟩,
  ⟨0x04, "VIA", .u 1, .ro, 0, .all, [0], false, false⟩,
  ⟨0x05, "LAST_SEQ", .u 4, .ro, 0, .all, [0], false, false⟩,
  ⟨0x06, "OPENED", .time96, .ro, 0, .all, [0], false, false⟩,
  ⟨0x07, "IDLE", .u 4, .ro, 0, .all, [0], false, false⟩
]

/-- The entries of Event push, index 0x1600 (R320). -/
def eventPushRows : List Row := [
  ⟨0x00, "HIGHEST_SUB", .u 1, .ro, 0, .all, [6], false, false⟩,
  ⟨0x01, "EVENT_ENABLE", .bool, .rw, 0, .all, [0], true, true⟩,
  ⟨0x02, "EVENT_DEST", .octets 8, .rw, 0, .all, [0], true, true⟩,
  ⟨0x03, "EVENT_AREAS", .u 4, .rw, 0, .all, [524286], true, true⟩,
  ⟨0x04, "EVENT_HOLD", .u 4, .rw, 0, .within 100 100000, [1000], true, true⟩,
  ⟨0x05, "EVENT_QUEUE", .u 1, .rw, 0, .within 1 7, [1], true, true⟩,
  ⟨0x06, "EVENT_DROPPED", .u 4, .ro, 0, .all, [0], false, false⟩
]

/-- The entries of Publication p = 0–15, index 0x1610 + p (R320). -/
def publicationRows : List Row := [
  ⟨0x00, "HIGHEST_SUB", .u 1, .ro, 0, .all, [9], false, false⟩,
  ⟨0x01, "ENABLE", .bool, .rw, 0, .all, [0], true, true⟩,
  ⟨0x02, "DEST", .octets 8, .rw, 0, .all, [0], true, true⟩,
  ⟨0x03, "PERIOD", .u 4, .rw, 0, .within 100 10000000, [10000], true, true⟩,
  ⟨0x04, "PHASE", .u 4, .rw, 0, .all, [0], true, true⟩,
  ⟨0x05, "QUEUE", .u 1, .rw, 0, .within 1 7, [2], true, true⟩,
  ⟨0x06, "ENTRIES", .domain 4 128, .rw, 0, .all, [0], true, true⟩,
  ⟨0x07, "ACTIVE_ONLY", .bool, .rw, 0, .all, [1], true, true⟩,
  ⟨0x08, "SENT", .u 4, .ro, 0, .all, [0], false, false⟩,
  ⟨0x09, "MISSED", .u 4, .ro, 0, .all, [0], false, false⟩
]

/-- The entries of Device time, index 0x1B00 (R341). -/
def deviceTimeRows : List Row := [
  ⟨0x00, "HIGHEST_SUB", .u 1, .ro, 0, .all, [8], false, false⟩,
  ⟨0x01, "TIME_NOW", .time96, .ro, 0, .all, [0], false, false⟩,
  ⟨0x02, "RATE", .i 8, .ro, 0, .all, [0], false, false⟩,
  ⟨0x03, "TIME_EPOCH", .u 1, .ro, 0, .all, [0], false, false⟩,
  ⟨0x04, "TRACED", .bool, .ro, 0, .all, [0], false, false⟩,
  ⟨0x05, "STEP_PENDING", .bool, .ro, 0, .all, [0], false, false⟩,
  ⟨0x06, "SET_TIME", .time96, .cmd, 0, .all, [0], false, false⟩,
  ⟨0x07, "LAST_STEP", .i 8, .ro, 0, .all, [0], false, false⟩,
  ⟨0x08, "DIVERGED", .bool, .ro, 0, .all, [0], false, false⟩
]

/-- The entries of PTP configuration, index 0x1B10 (R341). -/
def ptpCfgRows : List Row := [
  ⟨0x00, "HIGHEST_SUB", .u 1, .ro, 0, .all, [16], false, false⟩,
  ⟨0x01, "PTP_ENABLE", .bool, .rw, 0, .all, [1], true, true⟩,
  ⟨0x02, "PTP_PORT", .u 1, .rwm, 6, .within 0 1, [0], true, true⟩,
  ⟨0x03, "TRANSPORT", .u 1, .rwm, 6, .within 0 1, [1], true, true⟩,
  ⟨0x04, "DOMAIN", .u 1, .rw, 0, .within 0 127, [0], true, true⟩,
  ⟨0x05, "GM_CAPABLE", .bool, .rw, 0, .all, [0], true, true⟩,
  ⟨0x06, "TWO_STEP", .bool, .rw, 0, .all, [0], true, true⟩,
  ⟨0x07, "PRIORITY1", .u 1, .rw, 0, .within 0 255, [128], true, true⟩,
  ⟨0x08, "PRIORITY2", .u 1, .rw, 0, .within 0 255, [128], true, true⟩,
  ⟨0x09, "LOG_SYNC", .i 1, .rw, 0, .within (-7) 1, [253], true, true⟩,
  ⟨0x0A, "LOG_ANNOUNCE", .i 1, .rw, 0, .within 0 3, [1], true, true⟩,
  ⟨0x0B, "LOG_DELAY_REQ", .i 1, .rw, 0, .within (-7) 5, [0], true, true⟩,
  ⟨0x0C, "UTC_OFFSET", .i 2, .rw, 0, .within 0 255, [37], true, true⟩,
  ⟨0x0D, "ASYMMETRY", .i 4, .rw, 0, .within (-100000) 100000, [0], true, true⟩,
  ⟨0x0E, "PTP_PCP", .u 1, .rw, 0, .within 0 7, [7], true, true⟩,
  ⟨0x0F, "KP", .u 2, .rw, 0, .within 1 1024, [180], true, true⟩,
  ⟨0x10, "KI", .u 2, .rw, 0, .within 1 1024, [20], true, true⟩
]

/-- The entries of PTP status, index 0x1B11 (R341). -/
def ptpStatRows : List Row := [
  ⟨0x00, "HIGHEST_SUB", .u 1, .ro, 0, .all, [7], false, false⟩,
  ⟨0x01, "PORT_STATE", .u 1, .ro, 0, .all, [1], false, false⟩,
  ⟨0x02, "LOCKED", .bool, .ro, 0, .all, [0], false, false⟩,
  ⟨0x03, "OFFSET", .i 8, .ro, 0, .all, [0], false, false⟩,
  ⟨0x04, "PATH_DELAY", .i 8, .ro, 0, .all, [0], false, false⟩,
  ⟨0x05, "GM_IDENTITY", .octets 8, .ro, 0, .all, [0], false, false⟩,
  ⟨0x06, "SYNC_RECEIVED", .u 4, .ro, 0, .all, [0], false, false⟩,
  ⟨0x07, "SYNC_SENT", .u 4, .ro, 0, .all, [0], false, false⟩
]

/-- The entries of Launch queues of port i = 0–1, index 0x1B20 + i (R341). -/
def launchRows : List Row := [
  ⟨0x00, "HIGHEST_SUB", .u 1, .ro, 0, .all, [16], false, false⟩,
  ⟨0x01, "SLACK", .u 2, .rw, 0, .within 1 10000, [10], true, true⟩,
  ⟨0x02, "SLACK", .u 2, .rw, 0, .within 1 10000, [10], true, true⟩,
  ⟨0x03, "SLACK", .u 2, .rw, 0, .within 1 10000, [10], true, true⟩,
  ⟨0x04, "SLACK", .u 2, .rw, 0, .within 1 10000, [10], true, true⟩,
  ⟨0x05, "SLACK", .u 2, .rw, 0, .within 1 10000, [10], true, true⟩,
  ⟨0x06, "SLACK", .u 2, .rw, 0, .within 1 10000, [10], true, true⟩,
  ⟨0x07, "SLACK", .u 2, .rw, 0, .within 1 10000, [10], true, true⟩,
  ⟨0x08, "SLACK", .u 2, .rw, 0, .within 1 10000, [10], true, true⟩,
  ⟨0x09, "LAUNCH_DROPS", .u 4, .ro, 0, .all, [0], false, false⟩,
  ⟨0x0A, "LAUNCH_DROPS", .u 4, .ro, 0, .all, [0], false, false⟩,
  ⟨0x0B, "LAUNCH_DROPS", .u 4, .ro, 0, .all, [0], false, false⟩,
  ⟨0x0C, "LAUNCH_DROPS", .u 4, .ro, 0, .all, [0], false, false⟩,
  ⟨0x0D, "LAUNCH_DROPS", .u 4, .ro, 0, .all, [0], false, false⟩,
  ⟨0x0E, "LAUNCH_DROPS", .u 4, .ro, 0, .all, [0], false, false⟩,
  ⟨0x0F, "LAUNCH_DROPS", .u 4, .ro, 0, .all, [0], false, false⟩,
  ⟨0x10, "LAUNCH_DROPS", .u 4, .ro, 0, .all, [0], false, false⟩
]

/-- The entries of Provenance log, index 0x1500 (R341). -/
def provenanceRows : List Row := [
  ⟨0x00, "HIGHEST_SUB", .u 1, .ro, 0, .all, [7], false, false⟩,
  ⟨0x01, "EVENT_RING_SIZE", .u 2, .rwm, 2, .within 1 256, [32], true, true⟩,
  ⟨0x02, "PRINT_RING_SIZE", .u 2, .rwm, 2, .within 0 255, [32], true, true⟩,
  ⟨0x03, "PRINT_RECORDS", .u 1, .rw, 0, .all, [0], true, true⟩,
  ⟨0x04, "STREAM", .u 1, .rw, 0, .within 0 3, [0], true, true⟩,
  ⟨0x05, "EXPORT_HOLD", .u 4, .rw, 0, .within 100 1000000, [1000], true, true⟩,
  ⟨0x06, "RECORDS_WRITTEN", .u 8, .ro, 0, .all, [0], false, false⟩,
  ⟨0x07, "RECORDS_OVERWRITTEN", .u 8, .ro, 0, .all, [0], false, false⟩
]

/-- The entries of Host port, index 0xA000 (R366). -/
def hostPortRows : List Row := [
  ⟨0x00, "HIGHEST_SUB", .u 1, .ro, 0, .all, [10], false, false⟩,
  ⟨0x01, "SUBSYSTEM_ID", .u 2, .rwm, 2, .all, [0], true, true⟩,
  ⟨0x02, "TARGET_SPEED", .u 1, .rw, 0, .within 1 4, [4], true, true⟩,
  ⟨0x03, "LINK_SPEED", .u 1, .ro, 0, .all, [0], false, false⟩,
  ⟨0x04, "LINK_WIDTH", .u 1, .ro, 0, .all, [0], false, false⟩,
  ⟨0x05, "COMPLETION_TIMEOUT", .u 2, .rw, 0, .within 1 1000, [50], true, true⟩,
  ⟨0x06, "HOST_RESETS", .u 4, .ro, 0, .all, [0], false, false⟩,
  ⟨0x07, "AER_CORRECTABLE", .u 4, .ro, 0, .all, [0], false, false⟩,
  ⟨0x08, "AER_UNCORRECTABLE", .u 4, .ro, 0, .all, [0], false, false⟩,
  ⟨0x09, "POISONED_READS", .u 4, .ro, 0, .all, [0], false, false⟩,
  ⟨0x0A, "MAILBOX_OVERRUNS", .u 4, .ro, 0, .all, [0], false, false⟩
]

/-- The entries of CRC defaults, channel n = 0–15, index 0x9800 + n (R366). -/
def crcDefaultRows : List Row := [
  ⟨0x00, "HIGHEST_SUB", .u 1, .ro, 0, .all, [2], false, false⟩,
  ⟨0x01, "CFG_DEFAULT", .u 4, .rw, 0, .all, [0], true, true⟩,
  ⟨0x02, "ALIVE_DEFAULT", .u 4, .rw, 0, .all, [0], true, true⟩
]

/-- The entries of DRAM configuration, index 0x9000 (R386). -/
def dramCfgRows : List Row := [
  ⟨0x00, "HIGHEST_SUB", .u 1, .ro, 0, .all, [15], false, false⟩,
  ⟨0x01, "SPEED", .u 2, .rwm, 2, .oneOf [4800, 5600, 6400], [6400], true, true⟩,
  ⟨0x02, "SPARE", .u 1, .rwm, 2, .within 0 3, [0], true, true⟩,
  ⟨0x03, "HAMMER_THRESHOLD", .u 2, .rw, 0, .within 128 16384, [1024], true, true⟩,
  ⟨0x04, "HAMMER_RADIUS", .u 1, .rw, 0, .within 1 2, [1], true, true⟩,
  ⟨0x05, "SCRUB_PERIOD", .u 2, .rw, 0, .within 1 168, [24], true, true⟩,
  ⟨0x06, "CE_LIMIT", .u 4, .rw, 0, .within 1 4294967295, [1000], true, true⟩,
  ⟨0x07, "RANK_EXCLUDE", .u 1, .ro, 0, .all, [0], false, false⟩,
  ⟨0x08, "CLEAR_EXCLUDE", .u 1, .cmd, 2, .within 1 255, [0], false, false⟩,
  ⟨0x09, "TRAIN", .u 1, .cmd, 2, .within 1 1, [0], false, false⟩,
  ⟨0x0A, "SCRUB", .u 1, .cmd, 0, .within 1 3, [0], false, false⟩,
  ⟨0x0B, "MIGRATE", .u 1, .cmd, 0, .within 0 7, [0], false, false⟩,
  ⟨0x0C, "RANKS_FITTED", .u 1, .rwm, 2, .within 1 4, [1], true, true⟩,
  ⟨0x0D, "DEVICE_WIDTH", .u 1, .rwm, 2, .oneOf [4, 8], [8], true, true⟩,
  ⟨0x0E, "DENSITY", .u 1, .rwm, 2, .oneOf [8, 16, 24, 32], [16], true, true⟩,
  ⟨0x0F, "MODULE", .u 1, .rwm, 2, .within 0 1, [0], true, true⟩
]

/-- The entries of Channel c status, index 0x9010 + c (R386). -/
def dramChanRows : List Row := [
  ⟨0x00, "HIGHEST_SUB", .u 1, .ro, 0, .all, [10], false, false⟩,
  ⟨0x01, "RANK_BYTES", .u 8, .ro, 0, .all, [0], false, false⟩,
  ⟨0x02, "TEMP", .i 2, .ro, 0, .all, [0], false, false⟩,
  ⟨0x03, "BAND", .u 1, .ro, 0, .all, [0], false, false⟩,
  ⟨0x04, "CE_COUNT", .u 8, .ro, 0, .all, [0], false, false⟩,
  ⟨0x05, "UE_COUNT", .u 4, .ro, 0, .all, [0], false, false⟩,
  ⟨0x06, "HAMMER_REFRESHES", .u 4, .ro, 0, .all, [0], false, false⟩,
  ⟨0x07, "SCRUB_PASSES", .u 4, .ro, 0, .all, [0], false, false⟩,
  ⟨0x08, "RT_BYTES", .u 8, .ro, 0, .all, [0], false, false⟩,
  ⟨0x09, "BULK_BYTES", .u 8, .ro, 0, .all, [0], false, false⟩,
  ⟨0x0A, "BULK_SHARE", .u 2, .ro, 0, .all, [0], false, false⟩
]

/-- The entries of Rank status, index 0x9020 + 4c + r (R386). -/
def dramRankRows : List Row := [
  ⟨0x00, "HIGHEST_SUB", .u 1, .ro, 0, .all, [7], false, false⟩,
  ⟨0x01, "STATE", .u 1, .ro, 0, .all, [0], false, false⟩,
  ⟨0x02, "CE_COUNT", .u 4, .ro, 0, .all, [0], false, false⟩,
  ⟨0x03, "WORST_DEVICE", .u 1, .ro, 0, .all, [255], false, false⟩,
  ⟨0x04, "UE_COUNT", .u 4, .ro, 0, .all, [0], false, false⟩,
  ⟨0x05, "LAST_ERROR", .u 8, .ro, 0, .all, [0], false, false⟩,
  ⟨0x06, "RESERVE_BASE", .u 8, .ro, 0, .all, [0], false, false⟩,
  ⟨0x07, "COPY_POINTER", .u 8, .ro, 0, .all, [0], false, false⟩
]

/-- The entries of Thermal, index 0x1900 (R406). -/
def thermalRows : List Row := [
  ⟨0x00, "HIGHEST_SUB", .u 1, .ro, 0, .all, [7], false, false⟩,
  ⟨0x01, "SENSOR_SELECT", .u 2, .rw, 0, .all, [0], false, false⟩,
  ⟨0x02, "SENSOR_READING", .octets 8, .ro, 0, .all, [0], false, false⟩,
  ⟨0x03, "DIE_HOTTEST", .i 2, .ro, 0, .all, [0], false, false⟩,
  ⟨0x04, "F_DIE", .u 4, .ro, 0, .all, [65536], false, false⟩,
  ⟨0x05, "THROTTLED", .bool, .ro, 0, .all, [0], false, false⟩,
  ⟨0x06, "SENSORS_WARN", .u 2, .ro, 0, .all, [0], false, false⟩,
  ⟨0x07, "SENSORS_TRIP", .u 2, .ro, 0, .all, [0], false, false⟩
]

/-- The entries of Thermal, index 0x1900 (R406). -/
def thermalDieRows : List Row := [
  ⟨0x00, "HIGHEST_SUB", .u 1, .ro, 0, .all, [12], false, false⟩,
  ⟨0x01, "DIE_TEMP", .i 2, .ro, 0, .all, [0], false, false⟩,
  ⟨0x02, "DIE_TEMP", .i 2, .ro, 0, .all, [0], false, false⟩,
  ⟨0x03, "DIE_TEMP", .i 2, .ro, 0, .all, [0], false, false⟩,
  ⟨0x04, "DIE_TEMP", .i 2, .ro, 0, .all, [0], false, false⟩,
  ⟨0x05, "DIE_TEMP", .i 2, .ro, 0, .all, [0], false, false⟩,
  ⟨0x06, "DIE_TEMP", .i 2, .ro, 0, .all, [0], false, false⟩,
  ⟨0x07, "DIE_TEMP", .i 2, .ro, 0, .all, [0], false, false⟩,
  ⟨0x08, "DIE_TEMP", .i 2, .ro, 0, .all, [0], false, false⟩,
  ⟨0x09, "DIE_TEMP", .i 2, .ro, 0, .all, [0], false, false⟩,
  ⟨0x0A, "DIE_TEMP", .i 2, .ro, 0, .all, [0], false, false⟩,
  ⟨0x0B, "DIE_TEMP", .i 2, .ro, 0, .all, [0], false, false⟩,
  ⟨0x0C, "DIE_TEMP", .i 2, .ro, 0, .all, [0], false, false⟩
]

/-- The entries of Thresholds of class k, index 0x1910 + k (R406). -/
def thresholdsRows : List Row := [
  ⟨0x00, "HIGHEST_SUB", .u 1, .ro, 0, .all, [5], false, false⟩,
  ⟨0x01, "LOW_TRIP", .i 2, .rw, 0, .within (-400) 1500, [65336, 0, 100, 100, 65336], true, true⟩,
  ⟨0x02, "LOW_WARN", .i 2, .rw, 0, .within (-400) 1500, [65436, 50, 200, 200, 0], true, true⟩,
  ⟨0x03, "HIGH_WARN", .i 2, .rw, 0, .within (-400) 1500, [1000, 900, 550, 550, 700], true, true⟩,
  ⟨0x04, "HIGH_TRIP", .i 2, .rw, 0, .within (-400) 1500, [1100, 1000, 650, 650, 850], true, true⟩,
  ⟨0x05, "HYSTERESIS", .u 1, .rw, 0, .within 0 100, [30, 20, 10, 10, 20], true, true⟩
]

/-- The entries of Calibration, index 0x1840 and 0x1850 (R406). -/
def calAnalogueRows : List Row := [
  ⟨0x00, "HIGHEST_SUB", .u 1, .ro, 0, .all, [6], false, false⟩,
  ⟨0x01, "VREF_ACTUAL", .u 4, .rw, 0, .within 1249375 1250625, [1250000], true, true⟩,
  ⟨0x02, "CAL_ANALOGUE", .u 1, .cmd, 4, .within 1 1, [0], false, false⟩,
  ⟨0x03, "ADC_GAIN", .u 4, .ro, 0, .all, [0], false, false⟩,
  ⟨0x04, "ADC_OFFSET", .i 4, .ro, 0, .all, [0], false, false⟩,
  ⟨0x05, "CAL_TIME", .time96, .ro, 0, .all, [0], false, false⟩,
  ⟨0x06, "CAL_STATE", .u 1, .ro, 0, .all, [0], false, false⟩
]

/-- The entries of Calibration, index 0x1840 and 0x1850 (R406). -/
def supplyRows : List Row := [
  ⟨0x00, "HIGHEST_SUB", .u 1, .ro, 0, .all, [10], false, false⟩,
  ⟨0x01, "SUPPLY", .u 2, .ro, 0, .all, [0], false, false⟩,
  ⟨0x02, "SUPPLY", .u 2, .ro, 0, .all, [0], false, false⟩,
  ⟨0x03, "SUPPLY", .u 2, .ro, 0, .all, [0], false, false⟩,
  ⟨0x04, "SUPPLY", .u 2, .ro, 0, .all, [0], false, false⟩,
  ⟨0x05, "SUPPLY", .u 2, .ro, 0, .all, [0], false, false⟩,
  ⟨0x06, "SUPPLY", .u 2, .ro, 0, .all, [0], false, false⟩,
  ⟨0x07, "SUPPLY", .u 2, .ro, 0, .all, [0], false, false⟩,
  ⟨0x08, "SUPPLY", .u 2, .ro, 0, .all, [0], false, false⟩,
  ⟨0x09, "SUPPLY", .u 2, .ro, 0, .all, [0], false, false⟩,
  ⟨0x0A, "SUPPLY", .u 2, .ro, 0, .all, [0], false, false⟩
]

/-- The entries of Calibration, index 0x1840 and 0x1850 (R406). -/
def calPhotoRows : List Row := [
  ⟨0x00, "HIGHEST_SUB", .u 1, .ro, 0, .all, [7], false, false⟩,
  ⟨0x01, "TARGET", .octets 48, .rw, 0, .all, [0], true, true⟩,
  ⟨0x02, "TARGET_PATCHES", .u 1, .rw, 0, .within 2 8, [4], true, true⟩,
  ⟨0x03, "CAL_FRAMES", .u 1, .rw, 0, .within 1 64, [16], true, true⟩,
  ⟨0x04, "CAL_TOLERANCE", .u 2, .rw, 0, .within 1 500, [30], true, true⟩,
  ⟨0x05, "CAL_PHOTO", .u 1, .cmd, 4, .within 0 15, [0], false, false⟩,
  ⟨0x06, "LAST_RESIDUAL", .u 2, .ro, 0, .all, [0], false, false⟩,
  ⟨0x07, "LAST_CAL_CONTEXT", .u 1, .ro, 0, .all, [255], false, false⟩
]

/-- The entries of Archive, index 0x1700 (R406). -/
def archiveRows : List Row := [
  ⟨0x00, "HIGHEST_SUB", .u 1, .ro, 0, .all, [8], false, false⟩,
  ⟨0x01, "COMMIT", .u 1, .cmd, 0, .within 1 2, [0], false, true⟩,
  ⟨0x02, "PARAM_SEQUENCE", .u 4, .ro, 0, .all, [0], false, false⟩,
  ⟨0x03, "PARAM_SLOT", .u 1, .ro, 0, .all, [255], false, false⟩,
  ⟨0x04, "LOAD_SKIPPED", .u 4, .ro, 0, .all, [0], false, false⟩,
  ⟨0x05, "LAST_COMMIT", .time96, .ro, 0, .all, [0], false, false⟩,
  ⟨0x06, "SLOT_STATUS", .octets 12, .ro, 0, .all, [0], false, false⟩,
  ⟨0x07, "PFAIL_STATE", .bool, .ro, 0, .all, [0], false, false⟩,
  ⟨0x08, "WORDS_WRITTEN", .u 8, .ro, 0, .all, [0], false, false⟩
]

/-- The entries of Mode and SAFE latch, index 0x1100 (R439). -/
def modeRows : List Row := [
  ⟨0x00, "HIGHEST_SUB", .u 1, .ro, 0, .all, [18], false, false⟩,
  ⟨0x01, "MODE", .u 1, .ro, 0, .all, [1], false, false⟩,
  ⟨0x02, "MODE_REQUEST", .u 1, .cmd, 0, .within 1 4, [0], false, true⟩,
  ⟨0x03, "GALLERY_SET", .u 1, .rwm, 6, .all, [0], true, true⟩,
  ⟨0x04, "PRINT_GALLERIES", .u 1, .rw, 0, .all, [0], false, true⟩,
  ⟨0x05, "GALLERY_MODES", .u 4, .ro, 0, .all, [0], false, false⟩,
  ⟨0x06, "SAFE_LATCH", .bool, .ro, 0, .all, [0], false, false⟩,
  ⟨0x07, "SAFE_CAUSES", .u 4, .ro, 0, .all, [0], false, false⟩,
  ⟨0x08, "SAFE_TIME", .time96, .ro, 0, .all, [0], false, false⟩,
  ⟨0x09, "SAFE_CLEAR", .u 1, .cmd, 0, .within 1 1, [0], false, true⟩,
  ⟨0x0A, "SAFE_REQUEST", .u 1, .cmd, 0, .within 1 1, [0], false, true⟩,
  ⟨0x0B, "RESET", .u 1, .cmd, 0, .within 1 1, [0], false, false⟩,
  ⟨0x0C, "RESET_CAUSE", .u 1, .ro, 0, .all, [0], false, false⟩,
  ⟨0x0D, "SHUTDOWN", .u 1, .cmd, 2, .within 1 1, [0], false, false⟩,
  ⟨0x0E, "SHUTDOWN_READY", .bool, .ro, 0, .all, [0], false, false⟩,
  ⟨0x0F, "CORE_SETPOINT", .u 2, .ro, 0, .all, [0], false, false⟩,
  ⟨0x10, "BOOT_TIME", .u 4, .ro, 0, .all, [0], false, false⟩,
  ⟨0x11, "STRAPS", .u 1, .ro, 0, .all, [0], false, false⟩,
  ⟨0x12, "MODE_CHANGES", .u 4, .ro, 0, .all, [0], false, false⟩
]

/-- The entries of Firmware, index 0x1120 (R439). -/
def firmwareRows : List Row := [
  ⟨0x00, "HIGHEST_SUB", .u 1, .ro, 0, .all, [11], false, false⟩,
  ⟨0x01, "FW_IMAGE", .domain 257 6291712, .wo, 0, .all, [0], false, false⟩,
  ⟨0x02, "FW_UPDATE", .u 1, .cmd, 0, .within 1 1, [0], false, false⟩,
  ⟨0x03, "FW_CONFIRM", .u 1, .cmd, 0, .within 1 1, [0], false, false⟩,
  ⟨0x04, "PREFERRED", .u 1, .ro, 0, .all, [0], false, false⟩,
  ⟨0x05, "TRIAL", .bool, .ro, 0, .all, [0], false, false⟩,
  ⟨0x06, "ATTEMPTS", .u 1, .ro, 0, .all, [0], false, false⟩,
  ⟨0x07, "IMAGE_A_VERSION", .u 4, .ro, 0, .all, [0], false, false⟩,
  ⟨0x08, "IMAGE_B_VERSION", .u 4, .ro, 0, .all, [0], false, false⟩,
  ⟨0x09, "SECURITY_FLOOR", .u 4, .ro, 0, .all, [0], false, false⟩,
  ⟨0x0A, "BOOT_REPORT", .octets 4, .ro, 0, .all, [0], false, false⟩,
  ⟨0x0B, "KEY_HASH", .octets 32, .ro, 0, .all, [0], false, false⟩
]

/-- The entries of Self-test, index 0x1800 (R451). -/
def selftestRows : List Row := [
  ⟨0x00, "HIGHEST_SUB", .u 1, .ro, 0, .all, [7], false, false⟩,
  ⟨0x01, "SELFTEST", .u 2, .cmd, 2, .within 1 0x1FFF, [0], false, false⟩,
  ⟨0x02, "RUN_STATUS", .u 1, .ro, 0, .all, [0], false, false⟩,
  ⟨0x03, "DOMAINS_RUN", .u 2, .ro, 0, .all, [0], false, false⟩,
  ⟨0x04, "DOMAINS_FAILED", .u 2, .ro, 0, .all, [0], false, false⟩,
  ⟨0x05, "RUN_DURATION", .u 4, .ro, 0, .all, [0], false, false⟩,
  ⟨0x06, "RUN_COUNT", .u 4, .ro, 0, .all, [0], false, false⟩,
  ⟨0x07, "STOP_CAUSE", .u 1, .ro, 0, .all, [0], false, false⟩
]

/-- The entries of Self-test domain d = 0–12, index 0x1810 + d (R451). -/
def stDomainRows : List Row := [
  ⟨0x00, "HIGHEST_SUB", .u 1, .ro, 0, .all, [7], false, false⟩,
  ⟨0x01, "STATUS", .u 1, .ro, 0, .all, [0], false, false⟩,
  ⟨0x02, "HALLMARK", .u 4, .ro, 0, .all, [0], false, false⟩,
  ⟨0x03, "EXPECTED", .u 4, .ro, 0, .all, [0], false, false⟩,
  ⟨0x04, "LOGIC_PASS", .bool, .ro, 0, .all, [0], false, false⟩,
  ⟨0x05, "MEMORY_PASS", .bool, .ro, 0, .all, [0], false, false⟩,
  ⟨0x06, "FAIL_ADDRESS", .u 4, .ro, 0, .all, [4294967295], false, false⟩,
  ⟨0x07, "FAIL_ELEMENT", .u 1, .ro, 0, .all, [0], false, false⟩
]

/-- Part 0 of the index map. -/
def groups0 : List Group := [
  ⟨0x1000, 0x1, 1, identityRows⟩,
  ⟨0x1100, 0x1, 1, modeRows⟩,
  ⟨0x1120, 0x1, 1, firmwareRows⟩,
  ⟨0x1200, 0x1, 1, pairRows⟩,
  ⟨0x1300, 0x1, 1, longopsRows⟩,
  ⟨0x1310, 0x1, 16, longopSlotRows⟩,
  ⟨0x1400, 0x1, 1, sessionsKeyRows⟩,
  ⟨0x1410, 0x1, 8, sessionRows⟩,
  ⟨0x1500, 0x1, 1, provenanceRows⟩,
  ⟨0x1600, 0x1, 1, eventPushRows⟩,
  ⟨0x1610, 0x1, 16, publicationRows⟩,
  ⟨0x1700, 0x1, 1, archiveRows⟩,
  ⟨0x1800, 0x1, 1, selftestRows⟩,
  ⟨0x1810, 0x1, 13, stDomainRows⟩,
  ⟨0x1840, 0x1, 1, calAnalogueRows⟩,
  ⟨0x1841, 0x1, 1, supplyRows⟩,
  ⟨0x1850, 0x1, 1, calPhotoRows⟩,
  ⟨0x1900, 0x1, 1, thermalRows⟩]

/-- Part 1 of the index map. -/
def groups1 : List Group := [
  ⟨0x1901, 0x1, 1, thermalDieRows⟩,
  ⟨0x1910, 0x1, 5, thresholdsRows⟩,
  ⟨0x1A00, 0x10, 2, netCfgRows⟩,
  ⟨0x1A01, 0x10, 2, netStatRows⟩,
  ⟨0x1A20, 0x1, 1, sharedIpRows⟩,
  ⟨0x1B00, 0x1, 1, deviceTimeRows⟩,
  ⟨0x1B10, 0x1, 1, ptpCfgRows⟩,
  ⟨0x1B11, 0x1, 1, ptpStatRows⟩,
  ⟨0x1B20, 0x1, 2, launchRows⟩,
  ⟨0x2000, 0x10, 2, encCfgRows⟩,
  ⟨0x2001, 0x10, 2, encStatRows⟩,
  ⟨0x2040, 0x1, 4, probeRows⟩,
  ⟨0x2080, 0x1, 16, cmpUnitRows⟩,
  ⟨0x20A0, 0x1, 8, cmpOutRows⟩,
  ⟨0x20C0, 0x1, 2, emuRows⟩,
  ⟨0x2100, 0x1, 1, lineClockCfgRows⟩,
  ⟨0x2101, 0x1, 1, lineClockStatRows⟩,
  ⟨0x2110, 0x1, 1, predictorRows⟩]

/-- Part 2 of the index map. -/
def groups2 : List Group := [
  ⟨0x2200, 0x1, 8, gateRows⟩,
  ⟨0x2210, 0x1, 1, gateGroupRows⟩,
  ⟨0x3010, 0x100, 8, galCompRows⟩,
  ⟨0x3020, 0x100, 8, nozzlePathRows⟩,
  ⟨0x3021, 0x100, 8, nozzleTablesRows⟩,
  ⟨0x3030, 0x100, 8, galFiringRows⟩,
  ⟨0x3031, 0x100, 8, galRegRows⟩,
  ⟨0x3040, 0x100, 8, ladderRows⟩,
  ⟨0x4000, 0x1, 512, bayRows⟩,
  ⟨0x5000, 0x1, 32, laneRows⟩,
  ⟨0x5800, 0x1, 32, moduleRows⟩,
  ⟨0x6000, 0x1, 1, reserveRows⟩,
  ⟨0x6100, 0x1, 1, plansRows⟩,
  ⟨0x6200, 0x1, 1, captionRegionRows⟩,
  ⟨0x6210, 0x1, 64, capQueueRows⟩,
  ⟨0x6300, 0x1, 1, changeoverRows⟩,
  ⟨0x6800, 0x1, 1, compressionRows⟩,
  ⟨0x7000, 0x1, 16, cameraRows⟩]

/-- Part 3 of the index map. -/
def groups3 : List Group := [
  ⟨0x7100, 0x1, 1, pipelineRows⟩,
  ⟨0x7110, 0x1, 4, camPortRows⟩,
  ⟨0x7200, 0x1, 1, reportsRows⟩,
  ⟨0x7210, 0x1, 16, ctxRegionRows⟩,
  ⟨0x7800, 0x1, 1, loopRows⟩,
  ⟨0x7810, 0x1, 8, galLoopRows⟩,
  ⟨0x7C00, 0x1, 1, dropGateRows⟩,
  ⟨0x7C10, 0x1, 8, dgResultRows⟩,
  ⟨0x8000, 0x1, 4, lampChainRows⟩,
  ⟨0x8100, 0x1, 2048, lampRows⟩,
  ⟨0x9000, 0x1, 1, dramCfgRows⟩,
  ⟨0x9010, 0x1, 2, dramChanRows⟩,
  ⟨0x9020, 0x1, 8, dramRankRows⟩,
  ⟨0x9800, 0x1, 16, crcDefaultRows⟩,
  ⟨0xA000, 0x1, 1, hostPortRows⟩]

/-- Every group of entries, in index order. -/
def groups : List Group := groups0 ++ groups1 ++ groups2 ++ groups3

/-- The object number an index names in a group, if it is one of the group's. -/
def Group.object (g : Group) (idx : Nat) : Option Nat :=
  if idx < g.base then none
  else
    let d := idx - g.base
    if d % g.stride = 0 ∧ d / g.stride < g.count then some (d / g.stride) else none

/-- The group and object number of an index. -/
def findGroup (idx : Nat) : List Group → Option (Group × Nat)
  | [] => none
  | g :: gs =>
    match g.object idx with
    | some k => some (g, k)
    | none => findGroup idx gs

/-- The entry of a subindex. -/
def findRow (sub : Nat) (rows : List Row) : Option Row := rows.find? (fun r => r.sub == sub)

/-- Whether an index lies in the vendor-diagnostics range (R39). -/
def isVendor (idx : Nat) : Bool := 0xF000 ≤ idx && idx ≤ 0xF0FF

/-- The default of object k. -/
def Row.dfltOf (r : Row) (k : Nat) : Nat := (r.dflt[k]?).getD ((r.dflt.getLast?).getD 0)

/-- The value lies in the stated range (R32); v is the value as its type reads it. -/
def Rng.ok (r : Rng) (v : Int) : Bool :=
  match r with
  | .all => true
  | .within lo hi => lo ≤ v && v ≤ hi
  | .zeroOr lo hi => v == 0 || (lo ≤ v && v ≤ hi)
  | .orFF hi => v == 255 || (0 ≤ v && v ≤ hi)
  | .oneOf vs => vs.contains v

/-- A raw value read as its type reads it (R5, R30). -/
def Ty.value (t : Ty) (raw : Nat) : Int :=
  match t with
  | .i n => sgn (8 * n) raw
  | .pos48 => sgn 48 raw
  | _ => (raw : Int)

/-- The encodings the type allows (R30). -/
def Ty.encodingOk (t : Ty) (bs : Bytes) : Bool :=
  match t with
  | .bool => ofLe bs ≤ 1
  | .time96 => leAt bs 6 4 ≤ 999999999
  | .text _ => bs.all (fun b => 0x20 ≤ b.toNat && b.toNat ≤ 0x7E)
  | _ => true

/-- The data lengths a plain write may have (R30). -/
def Ty.lengthOk (t : Ty) (n : Nat) : Bool :=
  match t with
  | .text m => 1 ≤ n && n ≤ m
  | t => n == t.len

end Sys2Proof.Machine
end

