-- ==== Sys2Proof/Machine/State.lean ====
section
/-! DEFINITION. The state of the block as plain data: every register, memory, queue, counter, mode and pin the spec
names, the state after reset, and the reasons a step can stop. -/

namespace Sys2Proof.Machine

/-! Modes, resets and the SAFE latch -/

/-- The six modes (R426). -/
inductive Mode where
  | boot
  | idle
  | service
  | ready
  | print
  | test
  deriving DecidableEq, Repr

/-- The mode's code (R426). -/
def Mode.code : Mode → Nat
  | .boot => 0
  | .idle => 1
  | .service => 2
  | .ready => 3
  | .print => 4
  | .test => 5

/-- One Curator image in the boot flash: what its header says and the first check of R417 it fails (0: none). -/
structure Image where
  version  : Nat
  security : Nat
  check    : Nat
  deriving DecidableEq, Repr

/-- The boot-control record of the Archive (R418). -/
structure BootControl where
  preferred : Nat := 0
  trial     : Bool := false
  attempts  : Nat := 0
  confirmed : Nat := 0
  deriving DecidableEq, Repr

/-- An event that BOOT holds until its end (R424). -/
structure HeldEvent where
  code : Nat
  arg  : Bytes
  deriving DecidableEq, Repr

/-- Mode, SAFE latch, resets, supplies, clocks and firmware (R408-R440). -/
structure Sys where
  mode          : Mode := .boot
  /-- Galleries in PRINT, a mask (R426). -/
  printing      : Nat := 0
  latch         : Bool := false
  causes        : Nat := 0
  safeTime      : Nat := 0
  /-- SAFE_N as driven: true while asserted (R432, R423). -/
  safeN         : Bool := true
  /-- LMP_BLANK_N driven low (R432, R423). -/
  lampBlank     : Bool := true
  /-- This unit drives the shared outputs (R275). -/
  driving       : Bool := false
  straps        : Nat := 0x4
  resetCause    : Nat := 0
  bootStart     : Nat := 0
  bootTime      : Nat := 0
  modeChanges   : Nat := 0
  /-- When the RESET command takes effect, in core clocks (R413). -/
  resetAt       : Option Nat := none
  /-- When a fatal fault's warm reset follows, and its RESET_CAUSE (R435). -/
  fatalAt       : Option (Nat × Nat) := none
  /-- When HEAD_POWER 0 is due after a stop (R429). -/
  powerOffAt    : Option Nat := none
  shutdown      : Bool := false
  shutdownReady : Bool := false
  /-- Rails outside their window, bit by SUPPLY sub - 1 (R408). -/
  railsBad      : Nat := 0
  /-- Clock faults present: bit 0 XTAL, 1 PLL, 2 HLREFCLK, 3 ENREFCLK, 4 PE_REFCLK (R412). -/
  clocksBad     : Nat := 0
  imageA        : Image := ⟨0x01000000, 0, 0⟩
  imageB        : Image := ⟨0x01000000, 0, 0⟩
  bootControl   : BootControl := {}
  /-- The image that runs: 0 A, 1 B, 2 recovery; and its VERSION. -/
  running       : Nat := 0
  runVersion    : Nat := 0x01000000
  /-- Whether a recovery image has been accepted in this BOOT (R420). -/
  recovered     : Bool := false
  /-- The ROM has begun its lines in this BOOT; it has halted (R421). -/
  romOn         : Bool := false
  halted        : Bool := false
  romA          : Nat := 0
  romB          : Nat := 0
  fallback      : Bool := false
  held          : List HeldEvent := []
  deriving DecidableEq, Repr

/-! Device time and PTP -/

/-- The device-time counter (R322, R323) and the core clock it is interpolated from (R324). -/
structure Clock where
  /-- Core clocks of 1.2 GHz since PORST_N. -/
  core        : Nat := 0
  /-- Phase within the 500 MHz tick, in twelfths of a tick. -/
  phase       : Nat := 0
  /-- Device time at the last tick, in 2^-48 ns. -/
  counter     : Nat := 0
  /-- RATE, in 2^-48. -/
  rate        : Int := 0
  epoch       : Nat := 0
  traced      : Bool := false
  lastStep    : Int := 0
  stepPending : Bool := false
  diverged    : Bool := false
  deriving DecidableEq, Repr

/-- The PTP port states (R341). -/
inductive PtpState where
  | initializing
  | faulty
  | disabled
  | listening
  | preMaster
  | master
  | passive
  | uncalibrated
  | slave
  deriving DecidableEq, Repr

/-- Their codes (R341). -/
def PtpState.code : PtpState → Nat
  | .initializing => 1
  | .faulty => 2
  | .disabled => 3
  | .listening => 4
  | .preMaster => 5
  | .master => 6
  | .passive => 7
  | .uncalibrated => 8
  | .slave => 9

/-- A foreign master (R330). -/
structure Foreign where
  ann    : Announce
  at_    : Nat
  before : Option Nat
  deriving DecidableEq, Repr

/-- The PTP port and the rate servo (R326-R331). -/
structure Ptp where
  state      : PtpState := .initializing
  locked     : Bool := false
  /-- Last offset o, ps, and when it was measured, in core clocks. -/
  offset     : Int := 0
  offsetAt   : Option Nat := none
  /-- The last four offsets, newest first. -/
  recent     : List Int := []
  pathDelay  : Int := 0
  /-- The last path-delay measurements, newest first, at most 8. -/
  delays     : List Int := []
  gmIdentity : Nat := 0
  /-- Foreign masters heard: the last Announce of each, when it came, and when the one before it did (R330). -/
  foreign    : List Foreign := []
  /-- The sender that the port follows, and the core clock from which the Announce receipt timeout runs. -/
  parent     : Option Nat := none
  announceAt : Nat := 0
  syncReceived : Nat := 0
  syncSent   : Nat := 0
  /-- Device time of the last Sync used, 2^-16 ns. -/
  syncAt     : Option Nat := none
  integral   : Int := 0
  goodRun    : Nat := 0
  badRun     : Nat := 0
  /-- Of the last Sync used: device time less master time, ps. -/
  t21        : Int := 0
  /-- Device time the outstanding Delay_Req left, 2^-16 ns. -/
  delayReqAt : Option Nat := none
  /-- Launch time of the last Sync queued, and core clocks of the last Announce and Delay_Req. -/
  lastSyncSent     : Nat := 0
  lastAnnounceSent : Nat := 0
  lastDelaySent    : Nat := 0
  /-- sequenceId of the next Sync, Delay_Req and Announce, by kind. -/
  seqs       : Tab Nat := []
  deriving DecidableEq, Repr

/-! The Provenance log -/

/-- A Provenance record (R334). Times are in 2^-16 ns. -/
structure Rec where
  time     : Nat
  code     : Nat
  source   : Nat
  sequence : Nat
  argument : Bytes
  reign    : Nat
  flags    : Nat
  order    : Nat
  deriving DecidableEq, Repr

/-- What a slot of a ring holds: a record, or the detail slot of a print record (R339). -/
inductive Slot where
  | head (r : Rec)
  | detail (bytes : Bytes)
  deriving DecidableEq, Repr

/-- One Provenance ring (R337, R338). -/
structure ProvRing where
  /-- Index of the next record written, and of the next exported. -/
  written  : Nat := 0
  exported : Nat := 0
  slots    : Tab Slot := []
  /-- Records overwritten since the previous export record, and since the last LOG_OVERWRITTEN. -/
  skipped  : Nat := 0
  lost     : Nat := 0
  /-- When the first waiting record was written, in core clocks. -/
  waitFrom : Nat := 0
  deriving DecidableEq, Repr

/-- How many records a source has written at one timestamp (R336). -/
structure OrderCount where
  source : Nat
  time   : Nat
  count  : Nat
  deriving DecidableEq, Repr

/-- The last time an event was raised whose rate a rule bounds, by event code and object. -/
structure RateMark where
  code   : Nat
  object : Nat
  at_    : Nat
  deriving DecidableEq, Repr

/-- The Provenance log (R334-R338) and the event push that copies it (R318). -/
structure Prov where
  rings     : Tab ProvRing := []
  sequences : Tab Nat := []
  orders    : List OrderCount := []
  marks     : List RateMark := []
  backlog   : List Rec := []
  backlogAt : Nat := 0
  dropped   : Bool := false
  pushSeq   : Nat := 0
  deriving DecidableEq, Repr

/-! Long operations and Catalogue service -/

/-- The states of a long-operation slot (R50). -/
inductive LState where
  | free
  | queued
  | running
  | aborting
  | done
  | failed
  | aborted
  deriving DecidableEq, Repr

/-- Their codes (R50). -/
def LState.code : LState → Nat
  | .free => 0
  | .queued => 1
  | .running => 2
  | .aborting => 3
  | .done => 4
  | .failed => 5
  | .aborted => 6

/-- One long-operation slot (R50). -/
structure LSlot where
  state     : LState := .free
  handle    : Nat := 0
  kindIndex : Nat := 0
  kindSub   : Nat := 0
  progress  : Nat := 0
  result    : Nat := 0
  resources : Nat := 0
  started   : Nat := 0
  ended     : Nat := 0
  /-- Core clock of the start, then of the end, for the orders of R49 and R50. -/
  endedAt   : Nat := 0
  /-- RESULT the operation takes when it ends ABORTED. -/
  abortCode : Nat := 0
  /-- The value its start write carried. -/
  arg       : Bytes := []
  /-- Whether its first slice has run (R34). -/
  sliced    : Bool := false
  deriving DecidableEq, Repr

/-- An open block transfer (R44). -/
structure Xfer where
  write  : Bool
  index  : Nat
  sub    : Nat
  total  : Nat
  crc    : Nat
  data   : Bytes
  lastAt : Nat
  deriving DecidableEq, Repr

/-- Where a transaction's response goes. -/
inductive Origin where
  | mailbox (tag : Nat)
  | request (slot : Nat) (seq : Nat)
  | direct (route : Nat)
  | peer (seq : Nat)
  /-- An IDENT_READ, answered to its sender. -/
  | ident (src : NetSrc)
  /-- Its response is discarded: 0 it came through the mailbox, 9 from a session that has closed. -/
  | silent (route : Nat)
  deriving DecidableEq, Repr

/-- A Catalogue transaction: a service body of R41 and where it came from. -/
structure Trans where
  origin  : Origin
  service : Nat
  index   : Nat
  sub     : Nat
  data    : Bytes
  deriving DecidableEq, Repr

/-- A REG_DATA transaction that waits for the module's answer, and its RESULT and DATA once there is one (R36, R215). -/
structure RegWait where
  trans  : Trans
  lane   : Nat
  result : Option (Nat × Bytes)
  deriving DecidableEq, Repr

/-- The Catalogue's own state: values written, open transfers, long operations, transactions that wait for a mirror (R35, R36). -/
structure Cat where
  /-- Value of each entry that differs from its default, by index * 256 + sub, as the little-endian number of its bytes. -/
  vals     : Tab Nat := []
  /-- Values of DOMAIN entries, by index * 256 + sub. -/
  doms     : Tab Bytes := []
  /-- Open transfers: 0 the mailbox, 1 + slot a session. -/
  xfers    : Tab Xfer := []
  slots    : Tab LSlot := []
  nextSeq  : Nat := 1
  /-- The mirrored write that awaits the standby's confirmation: its sequence, transaction and when it was sent (R280). -/
  mirror   : Option (Nat × Trans × Nat) := none
  waiting  : List Trans := []
  reg      : Option RegWait := none
  deriving DecidableEq, Repr

/-! The host port, interrupt controller and CRC unit -/

/-- One PCIe MSI-X table entry. -/
structure MsixEntry where
  addr : Nat := 0
  data : Nat := 0
  mask : Bool := true
  deriving DecidableEq, Repr

/-- The Catalogue mailbox registers (R348). -/
structure Mailbox where
  request  : Tab Byte := []
  response : Bytes := []
  respLen  : Nat := 0
  tag      : Nat := 0
  overrun  : Bool := false
  busy     : Bool := false
  done     : Bool := false
  deriving DecidableEq, Repr

/-- The time snapshot (R325). -/
structure Snapshot where
  seconds : Nat := 0
  ns      : Nat := 0
  frac    : Nat := 0
  epoch   : Nat := 0
  traced  : Bool := false
  locked  : Bool := false
  tick    : Nat := 0
  pos     : Nat := 0
  deriving DecidableEq, Repr

/-- The PCIe endpoint (R343-R346). -/
structure HostPort where
  bme       : Bool := false
  /-- Base address registers 0-3 as written, without their fixed bits. -/
  bars      : Tab Nat := []
  /-- Max payload size 128 * 2^n bytes, and max read request size 128 * 2^n bytes (R343). -/
  maxPayload : Nat := 0
  maxRead   : Nat := 2
  /-- MSI-X Enable and Function Mask. -/
  msixOn    : Bool := false
  msixMask  : Bool := false
  /-- The link is in L2 (R345). -/
  l2        : Bool := false
  d3hot     : Bool := false
  pmeEn     : Bool := false
  /-- PE_WAKE_N as driven: true while asserted. -/
  wake      : Bool := false
  subsystem : Nat := 0
  heartbeat : Nat := 0
  heartbeatAt : Nat := 0
  ready     : Bool := false
  mailbox   : Mailbox := {}
  snap      : Snapshot := {}
  msix      : Tab MsixEntry := []
  pba       : Nat := 0
  deriving DecidableEq, Repr

/-- The interrupt controller (R351-R359). Tables are by source 0-255 or target 0-3. -/
structure Ic where
  pending  : Tab Bool := []
  /-- Level conditions as asserted now. -/
  level    : Tab Bool := []
  /-- Sources in service by an accepted CLAIM. -/
  serving  : Tab Bool := []
  /-- Enables, by target * 256 + source. -/
  enable   : Tab Bool := []
  prio     : Tab Nat := []
  /-- Each target's stack of (source, priority), top first. -/
  stack    : Tab (List (Nat × Nat)) := []
  vanished : Tab Nat := []
  bringup  : Bool := true
  pinEn    : Bool := false
  /-- IC_FAULT: VALID, OVERRUN, TARGET, KIND, EMPTY, OFFERED, EXPECTED. -/
  fValid   : Bool := false
  fOverrun : Bool := false
  fTarget  : Nat := 0
  fKind    : Nat := 0
  fEmpty   : Bool := false
  fOffered : Nat := 0
  fExpected : Nat := 0
  coalN    : Tab Nat := []
  coalT    : Tab Nat := []
  /-- Open coalescing windows: raises counted, and when the window opened. -/
  count    : Tab Nat := []
  window   : Tab Nat := []
  /-- The signal condition of each target as last evaluated. -/
  signal   : Tab Bool := []
  /-- IRQ_N as driven: true while asserted. -/
  irqN     : Bool := false
  deriving DecidableEq, Repr

/-- One CRC channel (R362-R365). -/
structure CrcCh where
  algo     : Nat := 0
  mode     : Nat := 0
  ring     : Nat := 0
  egress   : Bool := false
  conflict : Bool := false
  val      : Nat := 0xFFFFFFFF
  aliveEn  : Bool := false
  last     : Nat := 0
  /-- Whether LAST has been set since EN or a host port reset. -/
  lastSet  : Bool := false
  offset   : Nat := 0
  skips    : Nat := 0
  repeats  : Nat := 0
  mismatches : Nat := 0
  deriving DecidableEq, Repr

/-! The field network -/

/-- A nonce issued (R308). -/
structure Nonce where
  port  : Nat
  ip    : Nat
  value : Nat
  at_   : Nat
  deriving DecidableEq, Repr

/-- One of a session's last 16 requests: its SEQ, TAG and RESPONSE once there is one (R310). -/
structure Stored where
  seq   : Nat
  /-- Where the frame that caused it came from. -/
  src   : NetSrc
  tag   : Bytes
  reply : Option Bytes
  deriving DecidableEq, Repr

/-- An open session (R309). -/
structure Session where
  id      : Nat
  src     : NetSrc
  lastSeq : Nat
  opened  : Nat
  lastMsg : Nat
  key     : Bytes
  store   : List Stored
  openMsg : Bytes
  openAck : Bytes
  openAt  : Nat
  deriving DecidableEq, Repr

/-- What the engine knows of one source address (R314, R315). -/
structure Source where
  ip       : Nat
  /-- Tokens in 1/600,000 of a token: one core clock refills one. -/
  tokens   : Nat
  tokensAt : Nat
  /-- Core clocks of its authentication failures since the count cleared, newest first, at most 16. -/
  fails    : List Nat
  lockedAt : Option Nat
  deriving DecidableEq, Repr

/-- What one frame that the engine sends carries. IPv4 addresses own are the sender's. -/
inductive NetOut where
  | udp (own dst port dscp : Nat) (mac : Option Nat) (payload : Bytes)
  /-- An echo reply, with the request's identifier and sequence number. -/
  | icmp (own dst mac echo : Nat) (payload : Bytes)
  | arpRequest (own target : Nat)
  | arpReply (mac : Nat) (ip : Nat) (own : Nat)
  | gratuitous (ip : Nat)
  /-- Kinds 0 Sync, 1 Follow_Up, 2 Delay_Req, 3 Delay_Resp, 4 Announce; for a Delay_Resp the requesting port's identity. -/
  | ptp (kind seq time requester : Nat)
  deriving DecidableEq, Repr

/-- A frame in a launch queue (R332). -/
structure TxFrame where
  launch : Option Nat
  out    : NetOut
  /-- The publication it belongs to, if any, and its SEQ. -/
  pub    : Option (Nat × Nat)
  deriving DecidableEq, Repr

/-- An ARP cache entry (R301). -/
structure ArpEntry where
  port : Nat
  ip   : Nat
  mac  : Nat
  at_  : Nat
  deriving DecidableEq, Repr

/-- A next hop being resolved (R301). -/
structure ArpWait where
  port    : Nat
  ip      : Nat
  since   : Nat
  sent    : Nat
  waiting : List (Nat × TxFrame)
  deriving DecidableEq, Repr

/-- The field network (R298-R318). -/
structure Net where
  nonces   : List Nonce := []
  sessions : Tab Session := []
  sources  : List Source := []
  arp      : List ArpEntry := []
  arpWait  : List ArpWait := []
  /-- Launch queues, by port * 8 + queue. -/
  queues   : Tab (List TxFrame) := []
  /-- SEQ of each publication, and the launch time last sampled. -/
  pubSeq   : Tab Nat := []
  pubLast  : Tab Nat := []
  /-- Gratuitous ARPs for SHARED_IP still to send, and when ACTIVE was entered (R304). -/
  sharedLeft : Nat := 0
  sharedAt : Nat := 0
  /-- Frames counted in the present second: ARP and ICMP, by port, with the second's start. -/
  arpRate  : Tab Nat := []
  arpRateAt : Tab Nat := []
  icmpRate : Tab Nat := []
  icmpRateAt : Tab Nat := []
  key      : Bytes := []
  keySet   : Bool := false
  keyGen   : Nat := 0
  deriving DecidableEq, Repr

/-! The redundant pair -/

/-- The pair roles (R296). -/
inductive Role where
  | single
  | arbitrating
  | active
  | syncing
  | standby
  | stale
  | relinquished
  | degraded
  deriving DecidableEq, Repr

/-- Their codes (R296). -/
def Role.code : Role → Nat
  | .single => 0
  | .arbitrating => 1
  | .active => 2
  | .syncing => 3
  | .standby => 4
  | .stale => 5
  | .relinquished => 6
  | .degraded => 7

/-- A gallery's takeover in progress (R289): n_T, n_1, the moment TAKEOVER is due, 2^-16 ns, the lanes it is still to be
sent on, a mask, and whether lines up to n_T fire from what the modules hold. -/
structure TakePlan where
  nT    : Nat
  n1    : Nat
  due   : Nat
  lanes : Nat
  held  : Bool
  deriving DecidableEq, Repr

/-- A handover in progress (R291). -/
structure HandPlan where
  mh       : Nat
  /-- n_y of each gallery. -/
  ny       : Tab Nat
  /-- This unit is the one that takes control. -/
  taking   : Bool
  /-- Lanes whose YIELD (old unit) or TAKEOVER (new unit) has left, a mask. -/
  lanesDone : Nat
  /-- The new unit has confirmed M_h; on the new unit, the new reign has begun. -/
  confirmed : Bool
  /-- When YIELDED arrived, 2^-16 ns. -/
  yieldedAt : Option Nat
  /-- The old unit's operation. -/
  slot     : Nat
  deriving DecidableEq, Repr

/-- A digest of the active's that waits for this unit's own line: gallery, line, CRC-32C (R285). -/
structure Digest where
  gal  : Nat
  line : Nat
  crc  : Nat
  deriving DecidableEq, Repr

/-- The pair (R273-R296). -/
structure Pair where
  member    : Bool := false
  role      : Role := .single
  reign     : Nat := 1
  peerRole  : Nat := 0xFF
  peerReign : Nat := 0
  peerMode  : Nat := 0
  peerTick  : Nat := 0
  peerConfirmed : Nat := 0
  /-- The last mirror sequence that this unit has confirmed, as its heartbeats say; all ones before one (DESIGN CHOICE, log
  entry 63). -/
  confirmed : Nat := 0xFFFFFFFF
  /-- When the image of a resynchronisation was last sent to the present peer, in core clocks. -/
  imageAt   : Option Nat := none
  /-- ACTIVE_N as driven: true while asserted. -/
  activeN   : Bool := false
  /-- PEER_ACTIVE_N as filtered: true while asserted. -/
  peerActive : Bool := false
  arbitrateAt : Nat := 0
  heartbeatAt : Nat := 0
  heartbeatLost : Bool := false
  /-- The next mirror sequence to send, and the next to receive; none until a resynchronisation names it. -/
  mirrorSeq : Nat := 0
  mirrorNext : Option Nat := none
  peerStale : Bool := true
  /-- SAFE_CAUSES as the peer was last told of them (R283). -/
  causesTold : Nat := 0
  /-- When the link went down on every lane, while it is down. -/
  downAt    : Option Nat := none
  /-- This unit's position less the active's (R284). -/
  delta     : Int := 0
  aligned   : Bool := false
  /-- Core clock of the last ALIGN sent, the t_a to come, and what this unit found at the last one. -/
  alignAt   : Option Nat := none
  alignDue  : Option Nat := none
  alignSnap : Option (Nat × AlignValues) := none
  /-- The line clock and the emulated encoders as they stood last before the t_a to come. -/
  alignHeld : Option AlignValues := none
  timeLocked : Bool := false
  /-- TIME_OFFSET, ps. -/
  timeOffset : Int := 0
  /-- The image of the present resynchronisation is complete (R293). -/
  imageDone : Bool := false
  /-- t_d of the last takeover, 2^-16 ns, and the galleries it has not yet finished. -/
  takeAt    : Nat := 0
  takes     : Tab TakePlan := []
  /-- n_1 of gallery 0 in that takeover. -/
  firstN1   : Nat := 0
  hand      : Option HandPlan := none
  takeovers : Nat := 0
  lastGap   : Nat := 0
  gapLines  : Nat := 0
  lastGiveUp : Nat := 0
  mismatches : Nat := 0
  /-- Consecutive digest mismatches of each gallery, and the active's digests that wait. -/
  mismatchRun : Tab Nat := []
  digests   : List Digest := []
  /-- Cause and last lines of the peer's RELINQUISH since it last held control, if it sent one. -/
  relinquished : Option (Nat × List Nat) := none
  deriving DecidableEq, Repr

/-! Accession, the Reserve and the compression engine -/

/-- The states of a segment (R96). -/
inductive SegState where
  | opened
  | verifying
  | committed
  | lost
  deriving DecidableEq, Repr

/-- A segment in the Reserve (R89, R96). -/
structure Seg where
  id     : Nat
  type   : Nat
  length : Nat
  crc    : Nat
  offset : Nat
  state  : SegState
  /-- Opened by OPEN_DIRECT and not yet committed (R98). -/
  direct : Bool
  /-- Of a direct segment: the pair-link sequence of its end, and the standby's result (R280). -/
  mirror : Option Nat
  answer : Option Nat
  deriving DecidableEq, Repr

/-- A container in flight after its steps 1-3 (R94). -/
structure Flight where
  id         : Nat
  type       : Nat
  length     : Nat
  crc        : Nat
  offset     : Nat
  compressed : Bool
  /-- The body as it was stored, the stream check value stripped. -/
  body       : Bytes
  /-- Route: 0-3 ring, 4 network, 5 direct (R109), 6 the active peer. -/
  route      : Nat
  unit_      : Option Nat
  /-- Fails the stream check of R364, by channel. -/
  badStream  : Option Nat
  /-- The pair-link sequence it was forwarded or received under (R280). -/
  mirror     : Option Nat
  /-- The standby's result for it, once known; 0 from the start where no confirmation is awaited. -/
  answer     : Option Nat
  /-- When it was forwarded, in core clocks. -/
  sentAt     : Nat
  /-- It has passed step 5 (VERIFYING awaiting step 6). -/
  passed     : Bool
  deriving DecidableEq, Repr

/-- A chain of descriptors taken from an accession ring and not yet completed (R91, R92). -/
structure Chain where
  descs  : List Desc
  segId  : Nat
  result : Option Nat
  deriving DecidableEq, Repr

/-- The registers of a ring (R90), and what an accession ring has in flight. -/
structure Ring where
  base       : Nat := 0
  size       : Nat := 4
  tail       : Nat := 0
  head       : Nat := 0
  enable     : Bool := false
  halted     : Bool := false
  haltDetail : Nat := 0
  chains     : List Chain := []
  /-- Core clock of the last write of its tail or control register: no read of a descriptor can be older. -/
  askedAt    : Nat := 0
  deriving DecidableEq, Repr

/-- An egress record waiting (R105, R106). -/
structure EgressRec where
  kind  : Nat
  bytes : Bytes
  /-- Records of its kind were dropped since the last one that the ring took (R105). -/
  lost  : Bool
  deriving DecidableEq, Repr

/-- What an egress ring holds besides its registers (R105, R106). -/
structure Egress where
  backlog  : List EgressRec := []
  /-- Bundles waiting in staging. -/
  bundles  : List EgressRec := []
  sequence : Nat := 0
  dropped  : Nat := 0
  /-- Kinds dropped since the ring last took a record of the kind, a mask. -/
  droppedKinds : Nat := 0
  /-- Descriptors of a faulty chain whose completion waits for the engine to be allowed to write host memory (R93, R345). -/
  faulted  : List Desc := []
  deriving DecidableEq, Repr

/-- A Reserve BAR or bulk area of the Reserve that a lost rank pair took away (R384). -/
structure Range where
  lo : Nat
  hi : Nat
  deriving DecidableEq, Repr

/-- The Reserve (R88-R108, R370). -/
structure Reserve where
  /-- CAPACITY (R107): bytes of the rank pairs in service. -/
  capacity  : Nat := 0
  /-- The stored bytes: strictly rising addresses, no zero byte listed; an unlisted byte reads 0 (log entry 6). -/
  mem       : List Host.Cell := []
  segs      : List Seg := []
  flights   : List Flight := []
  accession : Tab Ring := []
  egressRegs : Tab Ring := []
  egress    : Tab Egress := []
  /-- A whole network container the engine holds (R97). -/
  netHeld   : Option Bytes := none
  /-- RESERVE_LOW as last raised. -/
  low       : Bool := false
  /-- Bundle jobs on a deflate unit, by slot, and staging bytes held. -/
  deflating : List Nat := []
  staging   : Nat := 0
  directOffset : Nat := 0
  /-- Pair ranges that have left the Reserve. -/
  removed   : List Range := []
  /-- Codewords (offset / 128) that decode as uncorrectable (R378). -/
  poison    : List Nat := []
  deriving DecidableEq, Repr

/-! DRAM -/

/-- The rank states (R386). -/
inductive RankState where
  | absent
  | inService
  | spare
  | source
  | target
  | retired
  | excluded
  | idle
  deriving DecidableEq, Repr

/-- Their codes (R386). -/
def RankState.code : RankState → Nat
  | .absent => 0
  | .inService => 1
  | .spare => 2
  | .source => 3
  | .target => 4
  | .retired => 5
  | .excluded => 6
  | .idle => 7

/-- One rank (R386). -/
structure Rank where
  state  : RankState := .absent
  /-- The pair whose part of the Reserve it holds. -/
  pair   : Nat := 0
  ce     : Nat := 0
  ue     : Nat := 0
  lastError : Nat := 0
  copied : Nat := 0
  /-- Corrections by device, and the core clocks of those of the last 24 h, newest first. -/
  devices : Tab Nat := []
  recent : Tab (List Nat) := []
  deriving DecidableEq, Repr

/-- A migration (R382). -/
structure Migration where
  rank     : Nat
  spare    : Nat
  slot     : Option Nat
  byCommand : Bool
  /-- When it must start, in core clocks. -/
  due      : Nat
  deriving DecidableEq, Repr

/-- One DRAM channel (R371-R383). -/
structure DramChan where
  temp      : Int := 0
  band      : Nat := 0
  /-- When the first report of the present run below the band arrived. -/
  below     : Option Nat := none
  ce        : Nat := 0
  ue        : Nat := 0
  hammer    : Nat := 0
  passes    : Nat := 0
  /-- Next codeword of the patrol scrub, as Reserve offset / 128. -/
  patrol    : Nat := 0
  /-- When the last pass of the patrol scrub began, in core clocks (R379). -/
  passAt    : Option Nat := none
  /-- Activation tables by bank: row and count (R380). -/
  tables    : Tab (List (Nat × Nat)) := []
  migration : Option Migration := none
  /-- A codeword whose read failed once (offset, rank, user) and is issued again. -/
  reread    : Option (Nat × Nat × DramUser) := none
  /-- Core clocks of the last refresh, ZQ calibration, DQS tracking and clearing of the tables. -/
  refreshAt : Nat := 0
  zqAt      : Nat := 0
  dqsAt     : Nat := 0
  clearAt   : Nat := 0
  deriving DecidableEq, Repr

/-- The DRAM controller (R368-R386). -/
structure Dram where
  rankBytes : Nat := 0
  /-- SPEED as BOOT read it (R369). -/
  speed     : Nat := 6400
  ranks     : Tab Rank := []
  chans     : Tab DramChan := []
  exclude   : Nat := 0
  deriving DecidableEq, Repr

/-! Temperature, calibration and the Archive -/

/-- The states of a sensor (R406). -/
inductive SensState where
  | unknown
  | normal
  | lowWarn
  | lowTrip
  | highWarn
  | highTrip
  | failed
  deriving DecidableEq, Repr

/-- Their codes (R406). -/
def SensState.code : SensState → Nat
  | .unknown => 0
  | .normal => 1
  | .lowWarn => 2
  | .lowTrip => 3
  | .highWarn => 4
  | .highTrip => 5
  | .failed => 6

/-- One temperature sensor (R388-R390). Readings are in 0.1 degrees C. -/
structure Sensor where
  state   : SensState := .unknown
  reading : Int := 0
  /-- When it was last sampled, in core clocks. -/
  at_     : Nat := 0
  /-- Consecutive good conversions of a FAILED die sensor. -/
  good    : Nat := 0
  deriving DecidableEq, Repr

/-- The sensors by sensor ID, and the throttling they set (R388-R392). -/
structure Thermal where
  sensors : Tab Sensor := []
  fDie    : Nat := 65536
  hottest : Int := 0
  deriving DecidableEq, Repr

/-- A photometric calibration that collects reports (R398): its slot and context, and each frame's patch densities. -/
structure PhotoCal where
  slot    : Nat
  context : Nat
  frames  : List (List Nat)
  sinceAt : Nat
  deriving DecidableEq, Repr

/-- Calibration values in force (R395-R398). -/
structure Calib where
  calibrated : Bool := false
  gain    : Nat := 0
  offset  : Int := 0
  time    : Nat := 0
  photo   : Option PhotoCal := none
  deriving DecidableEq, Repr

/-- What a slot of the Archive holds (R399-R401). -/
inductive ArcSlot where
  | empty
  | valid (sequence : Nat) (payload : Bytes)
  | invalid (sequence : Nat)
  deriving DecidableEq, Repr

/-- The Archive: slots by 2 * (record type - 1) + (0 A, 1 B), types 1-5 (R399). -/
structure Archive where
  slots   : Tab ArcSlot := []
  pfail   : Bool := false
  words   : Nat := 0
  loadSkipped : Nat := 0
  lastCommit : Nat := 0
  /-- Sequence and slot of the parameter set in force. -/
  paramSeq : Nat := 0
  paramSlot : Nat := 0xFF
  /-- Payload of the parameter-set record in progress, taken at the commit's first slice (R34). -/
  writing : Option Bytes := none
  deriving DecidableEq, Repr

/-! Web motion and the line clock. Raw times are core clocks; positions are signed 48-bit counts. -/

/-- One encoder channel (R54-R63). -/
structure Enc where
  a        : Bool := false
  b        : Bool := false
  /-- POSITION (R60). -/
  pos      : Int := 0
  /-- Raw times of the present same-direction run, newest first (R61). -/
  run      : List Nat := []
  /-- Direction of the last edge: 1, -1, or 0 before any. -/
  dir      : Int := 0
  still    : Bool := false
  /-- Raw time of the last edge. -/
  edgeAt   : Nat := 0
  illegal  : Nat := 0
  indexPos : Int := 0
  indexErrors : Nat := 0
  /-- The index reference (R57). -/
  indexRef : Option Int := none
  /-- Z_TOL as the last Z edge checked took it, and the expected indices within it of the position for which no Z edge has come:
  the position of each, and whether the position came to it from below. -/
  zTol     : Nat := 0
  open_    : List (Int × Bool) := []
  /-- The last 64 edges: raw time and the position after it, newest first (R75). -/
  history  : List (Nat × Int) := []
  deriving DecidableEq, Repr

/-- The line clock's states (R73). -/
inductive LcState where
  | halted
  | run
  | reversed
  deriving DecidableEq, Repr

/-- Their codes (R73). -/
def LcState.code : LcState → Nat
  | .halted => 0
  | .run => 1
  | .reversed => 2

/-- The master line clock (R64-R74). -/
structure LineClock where
  state     : LcState := .halted
  /-- REVERSED when it halted (R64). -/
  wasReversed : Bool := false
  lastTick  : Nat := 0
  lastTickAt : Nat := 0
  /-- A tick has been issued since reset (R71). -/
  ticked    : Bool := false
  hwm       : Int := 0
  bInt      : Int := 0
  bFrac     : Nat := 0
  fwdRun    : Nat := 0
  te        : Nat := 0
  /-- WEB_REVERSED raised in this entry to REVERSED. -/
  warned    : Bool := false
  /-- Tick times in RUN, newest first, at most 17 (R69). -/
  times     : List Nat := []
  reverses  : Nat := 0
  /-- Start of the cross-check window: both positions (R58). -/
  xStart    : Option (Int × Int) := none
  deviation : Int := 0
  speedWarn : Bool := false
  /-- Core clock of the last LINE_ORIGIN (R71, R243). -/
  originAt  : Option Nat := none
  deriving DecidableEq, Repr

/-- A probe latch: its raw time as device time, edge (1 rising, 2 falling), position. -/
structure Latch where
  at_  : Nat
  edge : Nat
  pos  : Int
  deriving DecidableEq, Repr

/-- One probe (R75, R76). -/
structure Probe where
  level    : Bool := false
  /-- Accepted edges waiting for the encoder's filter delay: raw time and edge. -/
  waiting  : List (Nat × Nat) := []
  queue    : List Latch := []
  /-- Core clock at which the newest entry of the queue entered it. -/
  queuedAt : Nat := 0
  count    : Nat := 0
  rejected : Nat := 0
  overflows : Nat := 0
  last     : Latch := ⟨0, 0, 0⟩
  deriving DecidableEq, Repr

/-- One compare unit's flags and pulse (R78-R80): BEHIND, firings, and the pulse's end and outputs. -/
structure Cmp where
  behind  : Bool := false
  fired   : Nat := 0
  firedAt : Nat := 0
  pulseEnd : Nat := 0
  pulseOut : Nat := 0
  deriving DecidableEq, Repr

/-- One emulated encoder (R82, R83): accumulator in 2^-32 counts, output position, last step. -/
structure Emu where
  acc    : Int := 0
  out    : Int := 0
  stepAt : Nat := 0
  deriving DecidableEq, Repr

/-! Firing gates -/

/-- The gate states (R176). -/
inductive GateState where
  | healthy
  | withdrawn
  | fault
  | disabled
  deriving DecidableEq, Repr

/-- Their codes (R176). -/
def GateState.code : GateState → Nat
  | .healthy => 0
  | .withdrawn => 1
  | .fault => 2
  | .disabled => 3

/-- One firing gate (R173): its accepted input levels and state. -/
structure Gate where
  p      : Bool := false
  c      : Bool := false
  state  : GateState := .disabled
  /-- Since when P has equalled C, while it does. -/
  equalAt : Option Nat := none
  deriving DecidableEq, Repr

/-! Firing -/

/-- The fire-at predictor (R162-R164). Times are signed, in 2^-16 ns. -/
structure Pred where
  phi     : Int := 0
  mPhi    : Nat := 0
  p       : Int := 0
  valid   : Bool := false
  overdue : Nat := 0
  deriving DecidableEq, Repr

/-- Registration of one probe (R167): the open group's reference mark and the galleries matched in it, a mask. -/
structure RegGroup where
  ref_    : Int
  matched : Nat
  deriving DecidableEq, Repr

/-! Head links -/

/-- The lane states (R192, R215). -/
inductive LaneState where
  | disabled
  | detect
  | align
  | equalise
  | verify
  | run
  | shadow
  | test
  | failed
  deriving DecidableEq, Repr

/-- Their codes (R215). -/
def LaneState.code : LaneState → Nat
  | .disabled => 0
  | .detect => 1
  | .align => 2
  | .equalise => 3
  | .verify => 4
  | .run => 5
  | .shadow => 6
  | .test => 7
  | .failed => 8

/-- How far a training has come (R192-R195); used by head-link and pair-link lanes alike. -/
structure Training where
  state     : LaneState := .disabled
  since     : Nat := 0
  timeouts  : Nat := 0
  fom       : Nat := 0
  /-- Preset the local transmitter uses. -/
  txPreset  : Nat := 4
  /-- Preset requested of the partner, and whether its adapt interval has ended. -/
  asking    : Nat := 0
  measuring : Bool := false
  stepAt    : Nat := 0
  best      : Nat := 0
  bestFom   : Nat := 0
  /-- All presets measured; the best one asked for again. -/
  chosen    : Bool := false
  eqSent    : Bool := false
  eqSeen    : Bool := false
  aligned   : Bool := false
  partnerAligned : Bool := false
  /-- Local PRBS31 errors once counted, and the partner's result. -/
  prbs      : Option Nat := none
  partnerPrbs : Option Nat := none
  marginal  : Bool := false
  deriving DecidableEq, Repr

/-- A downstream frame (R182): the header's fields and its payload. -/
structure Frame where
  type     : Nat
  flags    : Nat := 0
  reign    : Nat := 0
  line     : Nat := 0
  fireAt   : Nat := 0
  bayMask  : Nat := 0
  bits     : Nat := 0
  waveSets : Nat := 0
  payload  : Bytes := []
  deriving DecidableEq, Repr

/-- Who waits for a control transaction (R201). -/
inductive CtrlUser where
  | caps
  | version
  | modId
  | waveMap
  | headPower
  | regRead
  | regWrite
  | waveLoad (slot : Nat) (offset : Nat)
  | identity (bay : Nat) (address : Nat)
  deriving DecidableEq, Repr

/-- A control transaction, queued or outstanding (R201, R207). -/
structure Ctrl where
  tag    : Nat
  frame  : Frame
  user   : CtrlUser
  sentAt : Nat
  resends : Nat
  deriving DecidableEq, Repr

/-- The frame in flight on a lane. -/
structure Sending where
  frame : Frame
  endsAt : Nat
  deriving DecidableEq, Repr

/-- One head-link lane (R179-R201). -/
structure Lane where
  train     : Training := {}
  fomModule : Nat := 0
  moduleMarginal : Bool := false
  /-- DELAY in 2^-16 ns, once measured, and LINK_TIME_VALID. -/
  delay     : Option Int := none
  /-- The last DELAY computed, in this RUN or an earlier one (R215). -/
  lastDelay : Int := 0
  /-- Down without AUTO_RETRAIN: it trains again only by RETRAIN (R197). -/
  hold      : Bool := false
  linkTime  : Bool := false
  aliveTx   : Nat := 0
  /-- Expected upstream ALIVE, once a frame has been accepted in RUN. -/
  aliveRx   : Option Nat := none
  badRun    : Nat := 0
  badFrames : Nat := 0
  framesLost : Nat := 0
  lateCount : Nat := 0
  downCount : Nat := 0
  downCause : Nat := 0
  validAt   : Nat := 0
  statusAt  : Option Nat := none
  syncSeq   : Nat := 0
  /-- TIME_SYNCs not answered: SEQ and T1. -/
  syncs     : List (Nat × Int) := []
  syncDue   : Nat := 0
  /-- TIME_SYNCs waiting to be sent. -/
  syncQueue : Nat := 0
  timeAt    : Nat := 0
  sending   : Option Sending := none
  /-- Last line number sent on the lane without SERVICE, and with it (R187). -/
  lastLine  : Option Nat := none
  lastShot  : Option Nat := none
  /-- A pending cancel: the lowest line cancelled (R164); and one of SERVICE shots. -/
  cancel    : Option Nat := none
  cancelShot : Option Nat := none
  /-- A RESYNC is to be sent ahead of every frame not yet started (R188). -/
  resync    : Bool := false
  ctrlQueue : List Ctrl := []
  outstanding : List Ctrl := []
  nextTag   : Nat := 0
  modId     : Nat := 0
  caps      : Nat := 0
  version   : Nat := 0
  /-- When the checker locked, and errors counted up to the moment from which the present INJECT counts (R199, R200). -/
  prbsAt    : Option Nat := none
  prbsErrors : Nat := 0
  injectAt  : Nat := 0
  /-- RETRAIN operations that wait for this lane, by slot. -/
  retrains  : List Nat := []
  /-- The lane was in RUN under the active, as its last BAY_STATE says (R290). -/
  peerRun   : Bool := false
  /-- Core clock of the last heartbeat on a lane of the pair link (R279). -/
  beatAt    : Nat := 0
  /-- MOD_CAPS has passed and the answer to the first TIME_SYNC is awaited (R196). -/
  settingUp : Bool := false
  /-- FRAMES_LOST of the module's last STATUS since the lane entered RUN (R205, R217). -/
  moduleLost : Option Nat := none
  /-- Running disparity of the transmitter, true where it is positive, and the core clock at which the last ordered set or frame
  it sent has ended; none while it stands in electrical idle (R179). -/
  disparity : Bool := false
  sentUntil : Option Nat := none
  deriving DecidableEq, Repr

/-- What the engine knows of the head in a bay (R207-R211). -/
inductive IdState where
  | notRead
  | accepted
  | overridden
  | disabled
  | noAnswer
  deriving DecidableEq, Repr

/-- Their codes (R216). -/
def IdState.code : IdState → Nat
  | .notRead => 0
  | .accepted => 1
  | .overridden => 2
  | .disabled => 3
  | .noAnswer => 4

/-- One bay (R168-R171, R207-R216). -/
structure Bay where
  temp      : Int := 0
  inkTemp   : Int := 0
  supply    : Nat := 0
  band      : Nat := 0
  trim      : Nat := 32768
  inkCold   : Bool := true
  clamped   : Bool := false
  /-- When the last STATUS arrived; no STATUS has for UPSTREAM_TIMEOUT. -/
  statusAt  : Nat := 0
  missing   : Bool := false
  /-- Fire-at of the last line in which the bay was sent for firing. -/
  lastFire  : Option Int := none
  idState   : IdState := .notRead
  idFault   : Nat := 0
  extInvalid : Bool := false
  /-- Kept out of every mask until the gallery leaves READY and PRINT (R210). -/
  heldOut   : Bool := false
  record    : Bytes := []
  extension : Bytes := []
  /-- The record last accepted. -/
  accepted  : Bytes := []
  /-- Bytes read so far in the present identity read. -/
  reading   : Bytes := []
  wavesLoaded : Bool := false
  /-- Waveforms of the table loaded: index and total duration in ns. -/
  waves     : Tab Nat := []
  deriving DecidableEq, Repr

/-! The galleries: lines in the path, nozzle tables and threshold arrays -/

/-- The states of the spare nozzle table (R138-R140). -/
inductive SpareState where
  | empty
  | loading
  | ready
  | armed
  deriving DecidableEq, Repr

/-- Their codes (R157). -/
def SpareState.code : SpareState → Nat
  | .empty => 0
  | .loading => 1
  | .ready => 2
  | .armed => 3

/-- One nozzle table: the entries that differ from the reset entry of R136, by nozzle index, as the number their 8 bytes
spell, and the segment they descend from (R135, R157). -/
structure NozTable where
  entries : Tab Nat := []
  source  : Nat := 0
  deriving DecidableEq, Repr

/-- A swap armed or, once done, still holding the previous table for the lines that read it (R140). -/
structure Swap where
  line  : Nat
  owner : Nat
  done  : Bool
  deriving DecidableEq, Repr

/-- The nozzle tables and threshold array of a gallery (R135-R147, R156). -/
structure Nozzle where
  active     : NozTable := {}
  spare      : NozTable := {}
  spareState : SpareState := .empty
  swap       : Option Swap := none
  /-- S_w of the swaps since reset, newest first, at most 16 (R243). -/
  history    : List Nat := []
  swapCount  : Nat := 0
  lastSwap   : Nat := 0
  /-- An uncorrectable error stands in the active table; in the threshold array; in the previous table still held (R156). -/
  tableBad   : Bool := false
  arrayBad   : Bool := false
  spareBad   : Bool := false
  /-- The threshold array's cells, its segment and BITS; 0: none loaded. -/
  thresholds : Bytes := []
  thresholdId : Nat := 0
  thresholdBits : Nat := 0
  deriving DecidableEq, Repr

/-- The entries that shape a line, as the line took them up at its start (R37). -/
structure PathSet where
  curve    : Bytes
  boost    : Nat
  ceiling  : Nat
  phaseX   : Nat
  phaseY   : Nat
  mask     : Bytes
  /-- LADDER_ON, ROWS, ROW_LINES, LEVEL, EVERY, LINE (R237). -/
  ladderOn : Bool
  ladder   : List Nat
  deriving DecidableEq, Repr

/-- A live plan (R113, R116, R126). -/
structure Plan where
  id     : Nat
  switch : Nat
  base   : Nat
  /-- The plan segment's bytes. -/
  bytes  : Bytes
  /-- The tile segments loaded into the plan's half of a gallery's tile cache, by gallery (R119): ID and bytes. -/
  cached : Tab (List (Nat × Bytes))
  /-- Galleries that have raised PLAN_RUNOUT, a mask (R116). -/
  runout : Nat
  deriving DecidableEq, Repr

/-- A line of a gallery from its start at tick N - L until its last frame and its print record (R17-R21, R339). -/
structure Line where
  line     : Nat
  /-- Started while the gallery was in PRINT (R429). -/
  prints   : Bool
  set_     : PathSet
  /-- Levels packed per bay, once the line is complete in the ring (R154). -/
  drops    : Option (Tab Bytes)
  /-- The line is discarded as late (R19). -/
  late     : Bool
  /-- REASONS of its print record (R339). -/
  reasons  : Nat
  fireAt   : Option Int
  deadline : Nat
  /-- Lanes of the gallery on which its frame has started, a mask. -/
  lanes    : Nat
  /-- Lanes that left RUN before its frame had started, so that it is never sent there, a mask (R197). -/
  barred   : Nat := 0
  /-- A standby has counted the line's causes of being blank (R283). -/
  shadowed : Bool := false
  /-- The plans live when it started, and the ID of the one that governs it, 0 if none (R116). -/
  active   : Option Plan
  armed    : Option Plan
  plan     : Nat
  inst     : Nat
  position : Int
  wSet     : Nat
  swaps    : Nat
  deriving DecidableEq, Repr

/-- One gallery. -/
structure Gal where
  /-- Lines started, newest first. -/
  lines   : List Line := []
  noz     : Nozzle := {}
  /-- Fire-at of the last frame started (R176). -/
  lastFire : Int := 0
  /-- Fire-at and line of the last overspeed line counted, so that one line counts once (R171). -/
  overLine : Option Nat := none
  /-- The last ladder occurrence begun (R237). -/
  ladderAt : Option Nat := none
  deriving DecidableEq, Repr

/-! Hanging plans and caption queues -/

/-- The plans and the changeover (R126-R129). -/
structure Plans where
  active   : Option Plan := none
  armed    : Option Plan := none
  switched : Nat := 0
  completeTick : Nat := 0
  switchCount : Nat := 0
  lastSwitch : Nat := 0
  deriving DecidableEq, Repr

/-- One caption queue (R121-R123). -/
structure CapQ where
  base  : Nat := 0
  next  : Nat := 0
  /-- Tiles stored and not retired, by instance: their pixels. -/
  tiles : Tab Bytes := []
  /-- Starvation decisions made, by instance. -/
  decided : Tab Bool := []
  /-- Galleries that have composed the last line of an instance's slot, a mask by instance. -/
  finished : Tab Nat := []
  starved : Nat := 0
  lastStarved : Nat := 0
  deriving DecidableEq, Repr

/-! Cameras and the image pipeline -/

/-- The states of a frame slot (R225). -/
inductive FSlotState where
  | free
  | filling
  | full
  | processing
  | held
  deriving DecidableEq, Repr

/-- Their codes (R232). -/
def FSlotState.code : FSlotState → Nat
  | .free => 0
  | .filling => 1
  | .full => 2
  | .processing => 3
  | .held => 4

/-- What a LADDER region needs of a gallery, as it stood at a Frame Start (R239): LADDER_ROWS, and START and nozzle count of
each populated bay, by bay of the gallery. -/
structure PressAt where
  rows : Nat
  bays : Tab (Nat × Nat)
  deriving DecidableEq, Repr

/-- The tags of a frame (R223). Times are device times in 2^-16 ns. -/
structure Tags where
  frame    : Nat := 0
  epoch    : Nat := 0
  pipeVersion : Nat := 0
  trigPos  : Int := 0
  trigTime : Nat := 0
  start    : Nat := 0
  end_     : Nat := 0
  flags    : Nat := 0
  /-- The galleries as they stood at the Frame Start (R239). -/
  press    : List PressAt := []
  /-- Core clock of the Frame End, for the pipeline's order (R226). -/
  endAt    : Nat := 0
  /-- Core clock of the trigger's firing. -/
  trigAt   : Nat := 0
  /-- LINE_AT_ROW0 as the line clock stood at the Frame End (R243). -/
  lineAt0  : Nat := 0xFFFFFFFF
  deriving DecidableEq, Repr

/-- One frame slot. -/
structure FSlot where
  state : FSlotState := .free
  tags  : Tags := {}
  /-- Where its frame lies in the Reserve, its width and height, and the bits of a sample. -/
  base  : Nat := 0
  w     : Nat := 0
  h     : Nat := 0
  bits  : Nat := 0
  deriving DecidableEq, Repr

/-- A frame in progress (R221): its slot, none when it was dropped, its sensor number, lines so far, and its start. -/
structure Incoming where
  slot    : Option Nat
  number  : Nat
  lines   : Nat
  startAt : Nat
  deriving DecidableEq, Repr

/-- A settings epoch (R230): none while F_APPLY is not yet set. -/
structure Epoch where
  epoch  : Nat
  apply  : Option Nat
  failed : Bool
  deriving DecidableEq, Repr

/-- An exposure write: its epoch and the register writes still to go out (R230). -/
structure ExpWrite where
  epoch  : Nat
  writes : List (Nat × Nat)
  deriving DecidableEq, Repr

/-- One camera context (R220-R230). -/
structure Ctx where
  frameNumber : Nat := 0
  /-- Sensor number of the last Frame Start since the context and its port were enabled (R221). -/
  prev      : Option Nat := none
  /-- Firings of the trigger unit: target, device time, core clock, oldest first (R222). -/
  trigs     : List (Int × Nat × Nat) := []
  slots     : Tab FSlot := []
  incoming  : Option Incoming := none
  freeze    : Bool := false
  pipeVersion : Nat := 0
  epoch     : Nat := 0
  epochs    : List Epoch := []
  writing   : Option ExpWrite := none
  waiting   : Option ExpWrite := none
  deriving DecidableEq, Repr

/-- What a port's CCI master has on the bus: a write of a context's exposure set, or a raw transaction (R231). -/
inductive CciJob where
  | exposure (ctx : Nat)
  | raw
  deriving DecidableEq, Repr

/-- One camera port (R218, R231). -/
structure Port where
  job    : Option CciJob := none
  /-- The raw transaction outstanding: its long-operation slot and request. -/
  raw    : Option (Nat × Bytes) := none
  result : Bytes := []
  /-- Contexts whose exposure writes wait for the bus, in order. -/
  queue  : List Nat := []
  deriving DecidableEq, Repr

/-- What the pipeline loaded for the frame it processes (R226). -/
structure PipeSet where
  bayer   : Nat
  black   : Bytes
  defects : Bytes
  shading : Bytes
  shadingOn : Bool
  wb      : Bytes
  matrix  : Bytes
  deriving DecidableEq, Repr

/-- The image pipeline (R226): the context, slot and parameters of its frame, and when it took it. -/
structure Pipe where
  active : Option (Nat × Nat) := none
  set_   : Option PipeSet := none
  /-- The frame as it took it, with its tags. -/
  frame  : FSlot := {}
  takenAt : Nat := 0
  total  : Nat := 0
  /-- Frames finished within the last second: core clock and pixels, newest first (PIPE_LOAD). -/
  recent : List (Nat × Nat) := []
  deriving DecidableEq, Repr

/-! The colour loop and the drop gate -/

/-- A nozzle's run of one class (R254): 0 M, 1 W, 2 G, and its length. -/
structure Run where
  cls : Nat
  len : Nat
  deriving DecidableEq, Repr

/-- A condition report delivered to Curator (R244, R276): whether this unit made it, and then N_COUNT of each of its results. -/
structure Delivered where
  bytes  : Bytes
  own    : Bool
  counts : List Nat
  deriving DecidableEq, Repr

/-- How far an update of the colour loop has come (R256): a LOAD started in a slot, the LOAD done, the swap armed. -/
inductive UpdState where
  | idle
  | waiting
  | loading (slot : Nat)
  | armed
  deriving DecidableEq, Repr

/-- The colour loop of one gallery (R252-R256). -/
structure LoopGal where
  /-- OWNER (R252). -/
  owner   : Bool := false
  /-- Per-nozzle runs, by nozzle index. -/
  runs    : Tab Run := []
  /-- EPOCH of the last result used, by context * 8 + region, and 128 more for the peer's reports
  (R253). -/
  epochs  : Tab Nat := []
  /-- Entries the next update writes, by nozzle index. -/
  changes : Tab Nat := []
  update  : UpdState := .idle
  deriving DecidableEq, Repr

/-- One shot of a sweep in flight (R247, R248). Times are in 2^-16 ns. -/
structure Shot where
  index  : Nat
  /-- Line number of its SERVICE frame (R187). -/
  line   : Nat
  gal    : Nat
  nozzle : Nat
  fire   : Int
  /-- Raw time of its pulse. -/
  pulse  : Option Int
  /-- Its lane left RUN, or the module reported it with FAULT. -/
  spoilt : Bool
  deriving DecidableEq, Repr

/-- One gallery's part of a sweep (R249): states decided in the present batch, by nozzle. -/
structure SweepGal where
  state  : Nat := 0
  batch  : List (Nat × Nat) := []
  pulses : Bool := false
  batches : Nat := 0
  /-- Results so far, by nozzle (R251). -/
  results : Tab Nat := []
  good    : Nat := 0
  weak : Nat := 0
  missing : Nat := 0
  untested : Nat := 0
  stray : Nat := 0
  deriving DecidableEq, Repr

/-- A sweep whose first slice has run (R246-R250). -/
structure Sweep where
  slot     : Nat
  mask     : Nat
  /-- T_0, 2^-16 ns. -/
  t0       : Nat
  /-- The slot that T_0 counts from, and the next slot and nozzle index to send. -/
  slot0    : Nat
  nextSlot : Nat
  nextIndex : Nat
  shotBase : Nat
  /-- A gate has held firing since shots were last sent (R250). -/
  suspended : Bool
  shots    : List Shot
  deriving DecidableEq, Repr

/-! Lamps -/

/-- What the engine knows of one lamp (R266-R271). -/
structure Lamp where
  temp   : Int := 0
  iMeas  : Nat := 0
  duty   : Nat := 0
  flags  : Nat := 0
  dose   : Nat := 0
  under  : Nat := 0
  deriving DecidableEq, Repr

/-- What the engine knows of one driver (R269): failures and passes in a row, and FLAGS last reported. -/
structure Driver where
  fails  : Nat := 0
  passes : Nat := 0
  flags  : Nat := 0
  deriving DecidableEq, Repr

/-- One lamp chain (R259-R269). -/
structure Chain4 where
  state   : Nat := 0
  /-- SEQ of the next refresh. -/
  seq     : Nat := 0
  /-- The frames of the last refresh, and of the one before, by driver. -/
  sent    : List Bytes := []
  prev    : List Bytes := []
  refreshAt : Nat := 0
  /-- A refresh is being shifted, its LAT still to come. -/
  shifting : Bool := false
  /-- One last refresh with every DUTY 0 is due; it is the one being shifted (R265). -/
  closing : Bool := false
  last    : Bool := false
  bad     : Nat := 0
  drivers : Tab Driver := []
  deriving DecidableEq, Repr

/-! Self-test and the test access port -/

/-- The outcome of one domain (R451). -/
structure DomState where
  status  : Nat := 0
  hallmark : Nat := 0
  logic   : Bool := false
  memory  : Bool := false
  address : Nat := 0xFFFFFFFF
  element : Nat := 0
  deriving DecidableEq, Repr

/-- A self-test run in progress (R443, R444): its mask, whether TEST has been entered, its start, and the domains done. -/
structure TestRun where
  mask    : Nat
  entered : Bool
  due     : Nat
  started : Nat
  phase   : Nat
  done    : Nat
  deriving DecidableEq, Repr

/-- The self-test's results, held in always-on registers (R449, R451). -/
structure SelfTest where
  status   : Nat := 0
  mask     : Nat := 0
  failed   : Nat := 0
  duration : Nat := 0
  count    : Nat := 0
  stop     : Nat := 0
  domains  : Tab DomState := []
  run      : Option TestRun := none
  deriving DecidableEq, Repr

/-- The instructions of the test access port (R452). -/
inductive TapIr where
  | extest
  | idcode
  | sample
  | highz
  | clamp
  | extestPulse
  | extestTrain
  | bypass
  deriving DecidableEq, Repr

/-- Who drives the pins (R453). -/
inductive PinOwner where
  | engine
  | boundary
  | highz
  | clamped
  | pulsing
  | training
  deriving DecidableEq, Repr

/-- The test access port (R452, R453): its instruction, the bits of the selected data register that shift out, and the
boundary register's update stage. -/
structure Tap where
  ir       : TapIr := .idcode
  shiftOut : Bytes := [0x37, 0x2D, 0x51, 0x18]
  boundary : Bytes := []
  pins     : PinOwner := .engine
  deriving DecidableEq, Repr

/-- What is sent on a lane besides idles: an ordered set, a frame with its ALIVE, or a test pattern (R180-R184, R199). -/
inductive LinkOut where
  | trainSet (state value request : Nat)
  | time (t : Nat)
  | frame (f : Frame) (alive : Nat)
  /-- The raw bits of the pseudo-random sequence x^order + x^tap + 1 under an INJECT value (R199, R200). -/
  | prbs (order tap inject : Nat)
  /-- The received bits, retimed (R199). -/
  | loopback
  | idle
  | electricalIdle
  deriving DecidableEq, Repr

/-- Pair-link messages the engine sends (R279). -/
inductive PairOut where
  | heartbeat (lane role reign mode tick confirmed : Nat)
  | mirror (seq : Nat) (t : Trans)
  | container (seq : Nat) (bytes : Bytes)
  | direct (seq : Nat) (id : Nat) (offset : Nat) (bytes : Bytes) (last : Bool)
  | confirm (seq result : Nat)
  | report (bytes : Bytes)
  | bayState (bay : Nat) (st : BayState)
  | decision (q inst : Nat) (starved : Bool)
  | align (m : AlignMsg)
  | digest (g line crc : Nat)
  | relinquish (cause : Nat) (lines : List Nat)
  | takeover (reign : Nat)
  | handover (mh : Nat)
  | yielded
  | resync (items : List ResyncItem)
  | delayResp (t2 t3 : Nat)
  | step (seq : Nat) (amount : Int) (epoch : Nat)
  deriving DecidableEq, Repr

/-! What the engine emits -/

/-- Everything the engine sends out of its pins, as the outside world sees it. -/
inductive Output where
  /-- A response to a Catalogue service on a route: 0 the mailbox, 1 + slot a session; RESULT and DATA (R41). -/
  | response (route : Nat) (service index sub result : Nat) (data : Bytes)
  /-- A frame leaving an Ethernet port (R332): its queue, its VLAN's VID and PCP (R299), what it carries, and its bytes from the
  destination address to the FCS. -/
  | ethernet (port queue vid pcp : Nat) (out : NetOut) (frame : Bytes)
  /-- An MSI-X vector (R352). -/
  | msix (vector : Nat)
  /-- Data returned to a PCIe read: its bytes, or none where the completion is poisoned (R344). -/
  | readData (bytes : Option Bytes)
  /-- Bytes written into host memory (R93, R105). -/
  | hostWrite (addr : Nat) (bytes : Bytes)
  /-- A line on DBG_TXD (R421). -/
  | romLine (code : Nat)
  /-- An ordered set or frame on a head-link lane or pair-link lane, with the code groups that leave the pin for it (R179). -/
  | link (link : Link) (sym : LinkOut) (groups : List (BitVec 10))
  /-- A message on the pair link (R276). -/
  | pair (msg : PairOut)
  /-- A frame or latch on a lamp chain (R260-R265). -/
  | lamp (chain : Nat) (driver : Nat) (bytes : Bytes)
  /-- A CCI transaction started on a camera port: address, register, bytes, read (R230, R231). -/
  | cci (port addr reg : Nat) (bytes : Bytes) (isRead : Bool)
  /-- A pulse edge on a compare output (0-7) or CAMTRIG (8-15) (R80). -/
  | pulse (m : Nat) (level : Bool)
  /-- A DRAM command of its housekeeping: kind, channel, bank and row where it names them. -/
  | dram (kind chan bank row : Nat)
  /-- An MDIO frame (R298). -/
  | mdio (port : Nat) (isWrite : Bool) (phy reg data : Nat)
  deriving DecidableEq, Repr

/-! The whole state -/

/-- The state of the block. -/
structure State where
  pending : List Instr := []
  out     : List Output := []
  free    : Nat := 0
  sys     : Sys := {}
  clk     : Clock := {}
  ptp     : Ptp := {}
  prov    : Prov := {}
  cat     : Cat := {}
  host    : HostPort := {}
  ic      : Ic := {}
  crc     : Tab CrcCh := []
  net     : Net := {}
  pair    : Pair := {}
  res     : Reserve := {}
  dram    : Dram := {}
  therm   : Thermal := {}
  cal     : Calib := {}
  arc     : Archive := {}
  encs    : Tab Enc := []
  lc      : LineClock := {}
  probes  : Tab Probe := []
  cmps    : Tab Cmp := []
  /-- Levels of CMPOUT[7:0] and CAMTRIG[7:0] as driven active by their pulses. -/
  pulses  : Tab Bool := []
  emus    : Tab Emu := []
  gates   : Tab Gate := []
  pred    : Pred := {}
  regs    : Tab RegGroup := []
  lanes   : Tab Lane := []
  bays    : Tab Bay := []
  gals    : Tab Gal := []
  plans   : Plans := {}
  queues  : Tab CapQ := []
  ctxs    : Tab Ctx := []
  ports   : Tab Port := []
  pipe    : Pipe := {}
  loops   : Tab LoopGal := []
  /-- Condition reports delivered to Curator and not yet looked at by the loop (R253). -/
  reports : List Delivered := []
  lastContext : Nat := 0xFF
  sweeps  : Tab SweepGal := []
  sweep   : Option Sweep := none
  /-- Core clock of each DGATE input's last accepted pulse edge, the edge into its active level. -/
  dgateAt : Tab Nat := []
  lamps   : Tab Lamp := []
  chains  : Tab Chain4 := []
  test    : SelfTest := {}
  tap     : Tap := {}
  /-- PORST_N is low (R452). -/
  porstLow : Bool := false
  deriving DecidableEq, Repr

/-- The block right after reset: PORST_N just released, BOOT beginning (R413, R422). -/
def State.reset : State := {}

/-! How a step stops -/

/-- Why a step faults. No meaning of this model answers with one. -/
inductive Fault where
  /-- The model's own bound was passed. Raised by nothing; safe. -/
  | stuck
  deriving DecidableEq, Repr

/-- Why a command is refused. -/
inductive Refusal where
  /-- The command has no meaning yet. Raised by the dispatcher; safe, since the run stops. -/
  | notModelled (mnemonic : String)
  deriving DecidableEq, Repr

end Sys2Proof.Machine
end

