-- ==== Sys2Proof/Machine/Ops.lean ====
section
/-! DEFINITION. The shared operations over the state: time, Catalogue values, events and their records. -/

namespace Sys2Proof.Machine

/-! Time. Durations are in core clocks of 1.2 GHz, device time in 2^-16 ns. -/

/-- Core clocks of n microseconds. -/
def usCk (n : Nat) : Nat := 1200 * n

/-- Core clocks of n milliseconds. -/
def msCk (n : Nat) : Nat := 1200000 * n

/-- Core clocks of n seconds. -/
def sCk (n : Nat) : Nat := 1200000000 * n

/-- Device-time units of n ns. -/
def nsT (n : Nat) : Nat := 65536 * n

/-- Device-time units of n microseconds. -/
def usT (n : Nat) : Nat := 65536000 * n

/-- Device-time units of one second. -/
def sT : Nat := 65536000000000

/-- What one 500 MHz tick adds to the counter, in 2^-48 ns (R322). -/
def tickStep (rate : Int) : Nat := (562949953421312 + 2 * rate).toNat

/-- The clock after dt core clocks: 5 of 12 core clocks' phase make a 500 MHz tick (R322). -/
def Clock.advance (c : Clock) (dt : Nat) : Clock :=
  let tw := c.phase + 5 * dt
  { c with core := c.core + dt, phase := tw % 12, counter := c.counter + tw / 12 * tickStep c.rate }

/-- Time passes: dt core clocks. -/
def advance (dt : Nat) (s : State) : State := { s with clk := s.clk.advance dt }

/-- Device time in 2^-16 ns, interpolated from the phase of the core clock (R324). -/
def State.now (s : State) : Nat :=
  (s.clk.counter * 12 + s.clk.phase * tickStep s.clk.rate) / (12 * 4294967296)

/-- The core-clock count. -/
def State.core (s : State) : Nat := s.clk.core

/-- A device time as the raw value of a TIME96 entry (R30). -/
def time96 (t : Nat) : Nat :=
  let sec := t / sT
  let r := t % sT
  sec % 2 ^ 48 + 2 ^ 48 * (r / 65536) + 2 ^ 80 * (r % 65536)

/-- The device time a raw TIME96 value names. -/
def ofTime96 (raw : Nat) : Nat :=
  (raw % 2 ^ 48) * sT + (raw / 2 ^ 48 % 2 ^ 32) * 65536 + raw / 2 ^ 80 % 65536

/-- The device time that stood at core clock k, at the present RATE, for a k not after now. -/
def State.timeAt (s : State) (k : Nat) : Nat :=
  s.now - (s.clk.core - k) * 5 * tickStep s.clk.rate / (12 * 4294967296)

/-! Output and free values -/

/-- The block emits o; the newest output stands first. -/
def emit (o : Output) (s : State) : State := { s with out := o :: s.out }

/-- One draw of a free value passes. -/
def draw (s : State) : State := { s with free := s.free + 1 }

/-! Catalogue values -/

/-- The key of an entry. -/
def ekey (idx sub : Nat) : Nat := idx * 256 + sub

/-- The default of an entry (R33). -/
def dfltOf (idx sub : Nat) : Nat :=
  match findGroup idx groups with
  | none => 0
  | some (g, k) =>
    match findRow sub g.rows with
    | none => 0
    | some r => r.dfltOf k

/-- The entry's stored value: the number its bytes spell. -/
def State.val (s : State) (idx sub : Nat) : Nat := tget (dfltOf idx sub) s.cat.vals (ekey idx sub)

/-- The entry's stored value as a signed number of n bytes. -/
def State.ival (s : State) (idx sub n : Nat) : Int := sgn (8 * n) (s.val idx sub)

/-- The entry's stored value as a flag. -/
def State.flag (s : State) (idx sub : Nat) : Bool := s.val idx sub % 2 == 1

/-- The entry takes a value. -/
def setVal (idx sub v : Nat) (s : State) : State :=
  { s with cat := { s.cat with vals := tset s.cat.vals (ekey idx sub) v } }

/-- The counter entry, w bits wide, is incremented, wrapping. -/
def bump (idx sub w : Nat) (s : State) : State := setVal idx sub (wrapAdd w (s.val idx sub) 1) s

/-- The counter entry, w bits wide, has n added, wrapping. -/
def bumpBy (idx sub w n : Nat) (s : State) : State := setVal idx sub (wrapAdd w (s.val idx sub) n) s

/-- The value of a DOMAIN entry, or the default d. -/
def State.dom (s : State) (idx sub : Nat) (d : Bytes) : Bytes := tget d s.cat.doms (ekey idx sub)

/-- A DOMAIN entry takes a value. -/
def setDom (idx sub : Nat) (bs : Bytes) (s : State) : State :=
  { s with cat := { s.cat with doms := tset s.cat.doms (ekey idx sub) bs } }

/-! The pair link's sequence (R280) -/

/-- The unit has a standby that confirms what it mirrors. -/
def State.hasStandby (s : State) : Bool := s.pair.role == .active && !s.pair.peerStale

/-- The unit mirrors: to a standby, or to a peer that resynchronises (R280, R293). -/
def State.mirrors (s : State) : Bool :=
  s.pair.role == .active && (!s.pair.peerStale || s.pair.peerRole == 3 || s.pair.peerRole == 5)

/-- The next mirror sequence, taken by a message. -/
def mirrorSend (mk : Nat → PairOut) (s : State) : State :=
  let n := s.pair.mirrorSeq
  emit (.pair (mk n)) { s with pair := { s.pair with mirrorSeq := wrapAdd 32 n 1 } }

/-- A message of the mirror sequence is confirmed with a result (R280). -/
def confirm (n code : Nat) (s : State) : State :=
  emit (.pair (.confirm n code)) { s with pair := { s.pair with confirmed := n } }

/-- A write of an entry goes to the peer without waiting for its confirmation. -/
def mirrorEntry (idx sub : Nat) (bs : Bytes) (s : State) : State :=
  if s.mirrors then mirrorSend (fun n => .mirror n ⟨.silent 0, 2, idx, sub, bs⟩) s else s

/-! Role and mode -/

/-- The unit is ACTIVE or SINGLE. -/
def State.inControl (s : State) : Bool := s.pair.role == .active || s.pair.role == .single

/-- The unit is unit B of a pair (R273). -/
def State.unitB (s : State) : Bool := s.pair.member && bitOf s.sys.straps 3

/-- The Catalogue is served: out of BOOT and TEST (R423, R443). -/
def State.served (s : State) : Bool := s.host.ready && s.sys.mode != .boot && s.sys.mode != .test

/-- The REIGN a record or datagram carries: 0 on a single engine (R334). -/
def State.recReign (s : State) : Nat := if s.pair.member then s.pair.reign else 0

/-! Interrupt sources -/

/-- Sources that are edge sources but not coalesced (R361, R178, R440). -/
def irqPlain (src : Nat) : Bool := src == 12 || src == 48 || src == 242

/-- Level sources (R178, R407, R440). -/
def irqLevel (src : Nat) : Bool := src == 47 || src == 180 || src == 248

/-- Edge sources of the event class: every source that a chapter assigns to events. -/
def irqEvent (src : Nat) : Bool :=
  src ≤ 11 || src == 13 || src == 14 || (32 ≤ src && src ≤ 46) || (60 ≤ src && src ≤ 62) || (64 ≤ src && src ≤ 121) ||
  (128 ≤ src && src ≤ 152) || (160 ≤ src && src ≤ 164) || (176 ≤ src && src ≤ 179) || (192 ≤ src && src ≤ 196) ||
  (208 ≤ src && src ≤ 210) || (224 ≤ src && src ≤ 227) || src == 240 || src == 241 || (243 ≤ src && src ≤ 247)

/-- A raise of an edge source: at once, or through its coalescing window (R358). -/
def Ic.raiseEdge (ic : Ic) (src now : Nat) : Ic :=
  if irqPlain src then { ic with pending := tset ic.pending src true }
  else if tget false ic.pending src then ic
  else
    let n := tget 0 ic.count src + 1
    if tget 1 ic.coalN src ≤ n then
      { ic with pending := tset ic.pending src true, count := tset ic.count src 0 }
    else if n = 1 then { ic with count := tset ic.count src n, window := tset ic.window src now }
    else { ic with count := tset ic.count src n }

/-- The edge source is raised now. -/
def pendIrq (src : Nat) (s : State) : State := { s with ic := s.ic.raiseEdge src s.clk.core }

/-- The interrupt source an event pends, by its code, SOURCE and argument (R87, R110, R133, R158, R178, R217, R233, R258,
R272, R297, R321, R342, R361, R387, R407, R440). -/
def irqOf (code source : Nat) (arg : Bytes) : Option Nat :=
  let b0 := byteAt arg 0
  match code with
  | 0x0101 => some 240
  | 0x0201 => some 241
  | 0x0202 => some 242
  | 0x0203 => some 242
  | 0x0204 => some 243
  | 0x0205 => some 243
  | 0x0301 => some 98
  | 0x0302 => some 98
  | 0x0303 => some 98
  | 0x0304 => some 96
  | 0x0305 => some 96
  | 0x0306 => some 96
  | 0x0307 => some 97
  | 0x0308 => some (100 + byteAt arg 6 % 4)
  | 0x0309 => some (100 + b0 % 4)
  | 0x030A => some (104 + b0 % 16)
  | 0x030B => some (104 + b0 % 16)
  | 0x030C => some (120 + b0 % 2)
  | 0x030D => some 99
  | 0x030E => some 96
  | 0x0402 => some 8
  | 0x0403 => some 9
  | 0x0404 => some 11
  | 0x0405 => some 10
  | 0x0406 => some 10
  | 0x0501 => some 60
  | 0x0502 => some 60
  | 0x0503 => some 60
  | 0x0504 => some 60
  | 0x0505 => some 61
  | 0x0506 => some 62
  | 0x0507 => some 60
  | 0x0601 => some (32 + b0 % 8)
  | 0x0602 => some 40
  | 0x0603 => some 41
  | 0x0703 => some 48
  | 0x0704 => some 43
  | 0x0705 => some 42
  | 0x0706 => some 44
  | 0x0707 => some 45
  | 0x0708 => some 46
  | 0x0709 => some 44
  | 0x070A => some 44
  | 0x0905 => some (144 + b0 % 4)
  | 0x0A01 => some 148
  | 0x0A02 => some 149
  | 0x0A03 => some 150
  | 0x0A04 => some 151
  | 0x0A05 => some 152
  | 0x0B01 => some 164
  | 0x0B02 => some (160 + (source - 0x0400) % 4)
  | 0x0B03 => some (160 + (source - 0x0400) % 4)
  | 0x0C01 => some 208
  | 0x0C02 => some 208
  | 0x0C06 => some 208
  | 0x0C03 => some 209
  | 0x0C04 => some 209
  | 0x0C05 => some 210
  | 0x0C07 => some 210
  | 0x0C08 => some 210
  | 0x0C09 => some 210
  | 0x0D01 => some 244
  | 0x0D02 => some 245
  | 0x0D03 => some 245
  | 0x0D04 => some 246
  | 0x0D05 => some 246
  | 0x0D06 => some 246
  | 0x0D07 => some 247
  | 0x0D08 => some 247
  | 0x0D09 => some 247
  | 0x0E01 => some 224
  | 0x0E02 => some 224
  | 0x0E03 => some 225
  | 0x0E04 => some 226
  | 0x0E05 => some 227
  | 0x0F02 => some 13
  | 0x0F04 => some 14
  | 0x0F05 => some 14
  | 0x1001 => some 192
  | 0x1002 => some 192
  | 0x1004 => some 193
  | 0x1008 => some 194
  | 0x1003 => some 195
  | 0x1005 => some 195
  | 0x1006 => some 195
  | 0x1007 => some 196
  | 0x1101 => if byteAt arg 1 / 16 ≤ 1 then some 176 else some 177
  | 0x1102 => some 178
  | 0x1103 => some 179
  | _ =>
    if 0x0801 ≤ code ∧ code ≤ 0x080B then some (64 + (source - 0x0200) % 32)
    else if 0x0901 ≤ code ∧ code ≤ 0x0904 then some (128 + b0 % 16)
    else none

/-! Provenance records -/

/-- UNIT_FLAGS of a record written now (R334). -/
def State.unitFlags (s : State) : Nat :=
  b2n s.unitB + 2 * b2n (!s.inControl) + 4 * b2n (!s.clk.traced) + 16 * (s.clk.epoch % 16)

/-- Slots of Provenance ring r: 32 bytes each in the ring's size, none while the Reserve has no memory (R337, R425). -/
def State.ringCap (s : State) (r : Nat) : Nat :=
  if s.res.capacity = 0 then 0 else s.val 0x1500 (1 + r) * 32768

/-- The record's count at its timestamp, and the counts after it (R336). -/
def orderNext (source time : Nat) : List OrderCount → Nat × List OrderCount
  | [] => (0, [⟨source, time, 1⟩])
  | o :: os =>
    if o.source = source ∧ o.time = time then (o.count, { o with count := o.count + 1 } :: os)
    else
      let r := orderNext source time os
      (r.1, o :: r.2)

/-- Whether an event whose rate a rule bounds was last raised less than gap core clocks ago. -/
def marked (ms : List RateMark) (code object now gap : Nat) : Bool :=
  ms.any (fun m => m.code == code && m.object == object && now < m.at_ + gap)

/-- The rate mark set at now. -/
def mark (ms : List RateMark) (code object now : Nat) : List RateMark :=
  ⟨code, object, now⟩ :: ms.filter (fun m => !(m.code == code && m.object == object))

/-- A slot of ring r is written: it wraps and overwrites the oldest (R337). -/
def ProvRing.put (p : ProvRing) (cap now : Nat) (x : Slot) : ProvRing :=
  if cap = 0 then p
  else
    { p with
      slots := tset p.slots (p.written % cap) x
      written := p.written + 1
      waitFrom := if p.exported = p.written then now else p.waitFrom }

/-- Whether the next write of a ring overwrites a record not yet exported (R337). -/
def ProvRing.overwrites (p : ProvRing) (cap : Nat) : Bool := cap ≤ p.written - p.exported && 0 < cap

/-- Ring r takes slot x, counting an overwritten record while STREAM is set for it (R337). -/
def ringPut (r : Nat) (x : Slot) (s : State) : State :=
  let cap := s.ringCap r
  let p := tget {} s.prov.rings r
  let ovw := p.overwrites cap
  let p1 := p.put cap s.clk.core x
  let p2 := if ovw then { p1 with exported := p1.exported + 1, skipped := p1.skipped + 1, lost := p1.lost + b2n (bitOf (s.val 0x1500 4) r) } else p1
  let s1 := { s with prov := { s.prov with rings := tset s.prov.rings r p2 } }
  let s2 := if cap = 0 then s1 else bumpBy 0x1500 6 64 1 s1
  if ovw && bitOf (s.val 0x1500 4) r then bumpBy 0x1500 7 64 1 s2 else s2

/-- The record an event makes (R334, R336). -/
def mkRec (time code source : Nat) (arg : Bytes) (s : State) : Rec :=
  { time := time, code := code, source := source
    sequence := tget 0 s.prov.sequences source
    argument := fit 8 arg
    reign := s.recReign, flags := s.unitFlags
    order := clampN 255 (orderNext source time s.prov.orders).1 }

/-- The source's SEQUENCE and the order counts move past a record (R334, R336). -/
def countRec (time source : Nat) (s : State) : State :=
  { s with prov := { s.prov with
      sequences := tset s.prov.sequences source (wrapAdd 32 (tget 0 s.prov.sequences source) 1)
      orders := (orderNext source time s.prov.orders).2 } }

/-- The event push takes a copy of the record (R318). -/
def pushRec (r : Rec) (s : State) : State :=
  if s.flag 0x1600 1 && bitOf (s.val 0x1600 3) (r.code / 256) then
    if 256 ≤ s.prov.backlog.length then
      bump 0x1600 6 32 { s with prov := { s.prov with dropped := true } }
    else
      { s with prov := { s.prov with
          backlog := s.prov.backlog ++ [r]
          backlogAt := if s.prov.backlog.isEmpty then s.clk.core else s.prov.backlogAt } }
  else s

/-- An event whose cause stood at device time t: its record in ring 0, its copy in the event push, its interrupt source
(R334-R337, R318). -/
def putEvent (t code source : Nat) (arg : Bytes) (s : State) : State :=
  let r := mkRec t code source arg s
  let s1 := pushRec r (ringPut 0 (.head r) (countRec t source s))
  match irqOf code source r.argument with
  | some n => pendIrq n s1
  | none => s1

/-- LOG_OVERWRITTEN, at most once per second per ring, for records lost since the last one (R337). -/
def noteOverwritten (r : Nat) (s : State) : State :=
  let p := tget {} s.prov.rings r
  if p.lost = 0 || !bitOf (s.val 0x1500 4) r || marked s.prov.marks 0x0E05 r s.clk.core (sCk 1) then s
  else
    putEvent s.now 0x0E05 0 (le 1 r ++ zeros 3 ++ le 4 p.lost)
      { s with prov := { s.prov with
          rings := tset s.prov.rings r { p with lost := 0 }, marks := mark s.prov.marks 0x0E05 r s.clk.core } }

/-- An event is raised whose cause stood at device time t; LOG_OVERWRITTEN follows where its record has overwritten another that
was still to be exported. -/
def raiseAt (t code source : Nat) (arg : Bytes) (s : State) : State :=
  let s1 := putEvent t code source arg s
  if (tget {} s.prov.rings 0).overwrites (s.ringCap 0) then noteOverwritten 0 s1 else s1

/-- An event is raised now. -/
def raise (code source : Nat) (arg : Bytes) (s : State) : State := raiseAt s.now code source arg s

/-- An event whose rate is bounded: raised unless it was raised for this object less than gap core clocks ago. -/
def raiseLimited (gap code object source : Nat) (arg : Bytes) (s : State) : State :=
  if marked s.prov.marks code object s.clk.core gap then s
  else raise code source arg { s with prov := { s.prov with marks := mark s.prov.marks code object s.clk.core } }

/-- The same for an event whose cause stood at device time t. -/
def raiseLimitedAt (t gap code object source : Nat) (arg : Bytes) (s : State) : State :=
  if marked s.prov.marks code object s.clk.core gap then s
  else raiseAt t code source arg { s with prov := { s.prov with marks := mark s.prov.marks code object s.clk.core } }

/-- An event raised only for this object's first occurrence since its mark was last removed. -/
def raiseOnce (code object source : Nat) (arg : Bytes) (s : State) : State :=
  if s.prov.marks.any (fun m => m.code == code && m.object == object) then s
  else raise code source arg { s with prov := { s.prov with marks := mark s.prov.marks code object s.clk.core } }

end Sys2Proof.Machine
end

