-- ==== Sys2Proof/Machine/Memory.lean ====
section
/-! DEFINITION. The Reserve's memory (R88, R98): one canonical form, one read and one write. -/

namespace Sys2Proof.Machine

/-- The Reserve's stored bytes: (offset, byte) pairs. -/
abbrev Memory := List Host.Cell

/-- What the Reserve holds at offset a; an unlisted offset reads 0 (DESIGN CHOICE, log entry 6: the spec gives DRAM no
contents after reset; unsafe). -/
def Memory.byte (m : Memory) (a : Nat) : Byte := tget 0 m a

/-- The entries of the bytes bs that stand from offset a up; a zero byte has none. -/
def Memory.cells (a : Nat) (bs : Bytes) : Memory := ((List.range' a bs.length).zip bs).filter (fun c => c.2 != 0)

/-- Bytes written from offset a up: what lies below and above them stays. -/
def Memory.write (m : Memory) (a : Nat) (bs : Bytes) : Memory :=
  let e := a + bs.length
  m.takeWhile (fun c => decide (c.1 < a)) ++ (Memory.cells a bs ++ m.dropWhile (fun c => decide (c.1 < e)))

/-- n bytes from offset a up of a memory that lists nothing below a, after those in acc, the last one first. -/
def Memory.readGo : Memory → Nat → Nat → Bytes → Bytes
  | _, _, 0, acc => acc.reverse
  | [], a, n + 1, acc => Memory.readGo [] (a + 1) n (0 :: acc)
  | c :: rest, a, n + 1, acc =>
    if c.1 = a then Memory.readGo rest (a + 1) n (c.2 :: acc) else Memory.readGo (c :: rest) (a + 1) n (0 :: acc)

/-- n bytes from offset a up. -/
def Memory.read (m : Memory) (a n : Nat) : Bytes := Memory.readGo (m.dropWhile (fun c => decide (c.1 < a))) a n []

/-- The canonical form: offsets strictly rising, no zero byte listed. -/
def Memory.wf : Memory → Bool
  | [] => true
  | [c] => c.2 != 0
  | c :: d :: rest => c.2 != 0 && c.1 < d.1 && Memory.wf (d :: rest)

/-- Bytes enter the Reserve from offset a up. A codeword written whole is sound again; one written in part stays uncorrectable
(R378). -/
def resWrite (a : Nat) (bs : Bytes) (s : State) : State :=
  { s with res := { s.res with
      mem := Memory.write s.res.mem a bs
      poison := s.res.poison.filter (fun c => !decide (a ≤ 128 * c ∧ 128 * c + 128 ≤ a + bs.length)) } }

/-- n bytes of the Reserve from offset a. -/
def State.resRead (s : State) (a n : Nat) : Bytes := Memory.read s.res.mem a n

/-- The COMMITTED or LOST segment of an ID (R96). -/
def State.seg (s : State) (id : Nat) : Option Seg :=
  s.res.segs.find? (fun g => g.id == id && (g.state == .committed || g.state == .lost))

/-- The segment of an ID when it is COMMITTED and of a TYPE. -/
def State.committed (s : State) (id type : Nat) : Option Seg :=
  match s.seg id with
  | some g => if g.state == .committed && g.type == type then some g else none
  | none => none

/-- A segment's bytes. -/
def State.segBytes (s : State) (g : Seg) : Bytes := s.resRead g.offset g.length

end Sys2Proof.Machine
end

