-- ==== Sys2Proof/Machine/Captions.lean ====
section
/-! DEFINITION. The caption queues (R121-R123, R129) as shared operations. -/

namespace Sys2Proof.Machine

/-- Queue q. -/
def State.queue (s : State) (q : Nat) : CapQ := tget {} s.queues q

/-- Queue q takes a new content. -/
def setQueue (q : Nat) (c : CapQ) (s : State) : State := { s with queues := tset s.queues q c }

/-- HELD (R123). -/
def CapQ.held (c : CapQ) : Nat := c.tiles.length

/-- BASE_INSTANCE after a change: the oldest instance held, or NEXT_INSTANCE when none is (R132). -/
def CapQ.rebase (c : CapQ) : CapQ :=
  match c.tiles with
  | [] => { c with base := c.next }
  | t :: ts =>
    { c with base := ts.foldl (fun b x => if serial32 x.1 c.base < serial32 b c.base then x.1 else b) t.1 }

/-- Bytes a tile of queue q takes in its ring (R121). -/
def State.tileRoom (s : State) (q : Nat) : Nat :=
  let n := s.val (0x6210 + q) 2 * s.val (0x6210 + q) 3
  (n + 63) / 64 * 64

/-- CAPACITY of queue q (R121). -/
def State.queueCapacity (s : State) (q : Nat) : Nat :=
  if s.tileRoom q = 0 then 0 else s.val (0x6210 + q) 1 / s.tileRoom q

/-- Queue q gives up tiles: CAPTION_LOW is raised when HELD falls below LOW_TILES (R123). -/
def loseTiles (q : Nat) (c : CapQ) (s : State) : State :=
  let low := s.val (0x6210 + q) 10
  let s1 := setQueue q c s
  if c.held < low ∧ low ≤ (s.queue q).held then raise 0x0506 0 (le 1 q ++ zeros 3 ++ le 4 c.held) s1 else s1

/-- The tile of instance i is retired and its room freed (R123). A later plan that names the instance finds it below
BASE_INSTANCE or not held, and so starved (R122). -/
def retireTile (q i : Nat) (s : State) : State :=
  let c := s.queue q
  if thas c.tiles i && 0 ≤ serial32 i c.base then
    loseTiles q (CapQ.rebase
      { c with tiles := terase c.tiles i, decided := terase c.decided i, finished := terase c.finished i }) s
  else s

/-- Every tile whose instance has had a line composed is retired (R129). A starved instance stays decided, so that its tile is
never printed should it be stored later (R122). -/
def retireTouched (q : Nat) (s : State) : State :=
  let s1 := forEach ((s.queue q).decided.map (·.1)) (fun i s => retireTile q i s) s
  setQueue q { s1.queue q with decided := (s1.queue q).decided.filter (·.2), finished := [] } s1

/-- Queue q is emptied, its next batch starting at n (R121, R123). -/
def emptyQueue (q n : Nat) (s : State) : State :=
  loseTiles q { s.queue q with base := n, next := n, tiles := [], decided := [], finished := [] } s

end Sys2Proof.Machine
end

