-- ==== Sys2Proof/Machine/LineCode.lean ====
section
/-! DEFINITION. The 8b/10b line code of a lane: code groups and running disparity, and what a receiver counts as a code error
(R179, R180). The tables are those of IEEE 802.3 clause 36, which R179 names. A code group is ten bits, the first on the pin in
bit 9 (a b c d e i f g h j). -/

namespace Sys2Proof.Machine

/-- What one code group stands for: a data byte, or a special code group K named by its byte. -/
inductive CodeSym where
  | data (b : Nat)
  | special (b : Nat)
  deriving DecidableEq, Repr

/-- The six-bit blocks of D.0 to D.31 at negative disparity. -/
def sixBlocks : List Nat := [
  0b100111, 0b011101, 0b101101, 0b110001, 0b110101, 0b101001, 0b011001, 0b111000,
  0b111001, 0b100101, 0b010101, 0b110100, 0b001101, 0b101100, 0b011100, 0b010111,
  0b011011, 0b100011, 0b010011, 0b110010, 0b001011, 0b101010, 0b011010, 0b111010,
  0b110011, 0b100110, 0b010110, 0b110110, 0b001110, 0b101110, 0b011110, 0b101011]

/-- The four-bit blocks of D.x.0 to D.x.7 at negative disparity; D.x.7 in its primary form. -/
def fourBlocks : List Nat := [0b1011, 0b1001, 0b0101, 0b1100, 0b1101, 0b1010, 0b0110, 0b1110]

/-- The four-bit blocks of K.x.0 to K.x.7 at negative disparity; at positive disparity each is inverted. -/
def fourSpecials : List Nat := [0b1011, 0b0110, 0b1010, 0b1100, 0b1101, 0b0101, 0b1001, 0b0111]

/-- The block that is sent at a running disparity: one with unequal zeros and ones, or one of the two balanced blocks that come
in pairs, is inverted at positive disparity. -/
def codeBlock (w paired x : Nat) (rd : Bool) : Nat :=
  if rd && (2 * popcount w x != w || x == paired) then 2 ^ w - 1 - x else x

/-- Running disparity after a block of w bits. -/
def disparityAfter (w paired x : Nat) (rd : Bool) : Bool :=
  if w < 2 * popcount w x then true
  else if 2 * popcount w x < w then false
  else if x = paired then false
  else if x = 2 ^ w - 1 - paired then true
  else rd

/-- The six-bit block of five bits x. -/
def sixFor (special : Bool) (x : Nat) (rd : Bool) : Nat :=
  codeBlock 6 0b111000 (if special && x == 28 then 0b001111 else sixBlocks.getD x 0) rd

/-- The four-bit block of three bits y after the six-bit block of x, at the disparity that stands then; D.x.7 takes its alternate
form where the primary one would make a run of five. -/
def fourFor (special : Bool) (x y : Nat) (rd : Bool) : Nat :=
  if special then (if rd then 15 - fourSpecials.getD y 0 else fourSpecials.getD y 0)
  else if y = 7 ∧ !rd ∧ (x = 17 ∨ x = 18 ∨ x = 20) then 0b0111
  else if y = 7 ∧ rd ∧ (x = 11 ∨ x = 13 ∨ x = 14) then 0b1000
  else codeBlock 4 0b1100 (fourBlocks.getD y 0) rd

/-- Running disparity after a code group. -/
def groupDisparity (g : Nat) (rd : Bool) : Bool := disparityAfter 4 0b1100 (g % 16) (disparityAfter 6 0b111000 (g / 16) rd)

/-- Whether a symbol is a special code group, and its byte. -/
def CodeSym.parts : CodeSym → Bool × Nat
  | .data b => (false, b)
  | .special b => (true, b)

/-- The code group of a symbol at a running disparity (R179). -/
def CodeSym.group (c : CodeSym) (rd : Bool) : Nat :=
  let k := c.parts.1
  let x := c.parts.2 % 32
  let six := sixFor k x rd
  six * 16 + fourFor k x (c.parts.2 / 32 % 8) (disparityAfter 6 0b111000 six rd)

/-- The code groups of symbols sent in turn from a running disparity, and the disparity after them. -/
def sendSyms : List CodeSym → Bool → List (BitVec 10) × Bool
  | [], rd => ([], rd)
  | c :: cs, rd =>
    let g := c.group rd
    let r := sendSyms cs (groupDisparity g rd)
    (BitVec.ofNat 10 g :: r.1, r.2)

/-- K28.5. -/
def k285 : CodeSym := .special 0xBC
/-- K28.1. -/
def k281 : CodeSym := .special 0x3C
/-- K23.7. -/
def k237 : CodeSym := .special 0xF7
/-- K27.7. -/
def k277 : CodeSym := .special 0xFB
/-- K29.7. -/
def k297 : CodeSym := .special 0xFD

/-- IDLE (R180). -/
def idleSet : List CodeSym := [k285, .data 0x4A, .data 0x4A, .data 0x4A]

/-- Bytes as data symbols. -/
def dataSyms (bs : Bytes) : List CodeSym := bs.map (fun b => .data b.toNat)

/-- A frame's bytes between SOF and EOF, with the IDLE that follows (R181). -/
def frameSyms (bs : Bytes) : List CodeSym := k277 :: (dataSyms bs ++ (k297 :: idleSet))

/-- What a received code group is at a running disparity: none for an invalid group or a disparity error. -/
def readGroup (g : Nat) (rd : Bool) : Option CodeSym :=
  let r1 := disparityAfter 6 0b111000 (g / 16) rd
  if g / 16 = sixFor true 28 rd then
    ((List.range 8).find? (fun y => fourFor true 28 y r1 == g % 16)).map (fun y => .special (28 + 32 * y))
  else
    match (List.range 32).find? (fun x => sixFor false x rd == g / 16) with
    | none => none
    | some x =>
      match (List.range 8).find? (fun y => fourFor false x y r1 == g % 16) with
      | some y => some (.data (x + 32 * y))
      | none =>
        if (x = 23 ∨ x = 27 ∨ x = 29 ∨ x = 30) ∧ g % 16 = fourFor true x 7 r1 then some (.special (x + 224)) else none

/-- Whether a received group is a code error, and whether a frame is open after it: an invalid group or a disparity error, a K
code group inside a frame other than its EOF, or one outside a frame that begins no ordered set (R180). -/
def codeError (g : Nat) (inFrame rd : Bool) : Bool × Bool :=
  match readGroup g rd with
  | none => (true, inFrame)
  | some (.data _) => (false, inFrame)
  | some (.special b) =>
    if inFrame then (if b = 0xFD then (false, false) else (true, true))
    else if b = 0xFB then (false, true)
    else (!(b == 0xBC || b == 0x3C || b == 0xF7), false)

/-- The code errors among groups received in turn. -/
def codeErrors : List (BitVec 10) → Bool → Bool → Nat
  | [], _, _ => 0
  | g :: gs, inFrame, rd =>
    let r := codeError g.toNat inFrame rd
    b2n r.1 + codeErrors gs r.2 (groupDisparity g.toNat rd)

end Sys2Proof.Machine
end

