-- ==== Sys2Proof/Machine/LongOp.lean ====
section
/-! DEFINITION. Long operations (R48-R53): slots, starts, ends and aborts, as shared operations. -/

namespace Sys2Proof.Machine

/-- Slot k (R50). -/
def State.slot (s : State) (k : Nat) : LSlot := tget {} s.cat.slots k

/-- Slot k takes a new content. -/
def setSlot (k : Nat) (x : LSlot) (s : State) : State :=
  { s with cat := { s.cat with slots := tset s.cat.slots k x } }

/-- QUEUED, RUNNING or ABORTING. -/
def LSlot.active (x : LSlot) : Bool := x.state == .queued || x.state == .running || x.state == .aborting

/-- DONE, FAILED or ABORTED. -/
def LSlot.finished (x : LSlot) : Bool := x.state == .done || x.state == .failed || x.state == .aborted

/-- The slot numbers. -/
def slotIds : List Nat := List.range 16

/-- Some active operation other than slot k's claims one of the resources (R49). -/
def State.claimed (s : State) (res : Nat) (k : Option Nat) : Bool :=
  slotIds.any (fun j => some j != k && (s.slot j).active && (s.slot j).resources &&& res != 0)

/-- A Catalogue write to an entry of one of the resources is refused while an operation claims it (R49). -/
def State.resBusy (s : State) (res : Nat) : Bool := s.claimed res none

/-- The slot a start takes: the lowest FREE one, or the one whose operation finished earliest (R50). -/
def State.freeSlot (s : State) : Option Nat :=
  match slotIds.find? (fun k => (s.slot k).state == .free) with
  | some k => some k
  | none =>
    (slotIds.filter (fun k => (s.slot k).finished)).foldl (fun acc k =>
      match acc with
      | none => some k
      | some j => if (s.slot k).endedAt < (s.slot j).endedAt then some k else some j) none

/-- The sequence number after n (R50). -/
def nextSequence (n : Nat) : Nat := if n = 0xFFFFFF then 1 else n + 1

/-- The slot of a new operation (R49, R50). -/
def newSlot (s : State) (k idx sub res : Nat) (arg : Bytes) : LSlot :=
  { state := if s.claimed res (some k) then .queued else .running
    handle := s.cat.nextSeq * 256 + k
    kindIndex := idx, kindSub := sub, resources := res
    started := time96 s.now, endedAt := s.clk.core, arg := arg }

/-- A long operation of the CMD entry idx:sub starts in slot k (R43, R49, R50). -/
def startOp (k idx sub res : Nat) (arg : Bytes) (s : State) : State :=
  { setSlot k (newSlot s k idx sub res arg) s with
    cat := { (setSlot k (newSlot s k idx sub res arg) s).cat with nextSeq := nextSequence s.cat.nextSeq } }

/-- The operation of slot k ends in a finished state with a RESULT, and LONGOP_ENDED is raised (R50, R51). -/
def endOp (k : Nat) (st : LState) (result : Nat) (s : State) : State :=
  let x := s.slot k
  raise 0x0101 0 (le 4 x.handle ++ le 4 result)
    (setSlot k { x with
      state := st, result := result, ended := time96 s.now, endedAt := s.clk.core
      progress := if st == .done then 10000 else x.progress } s)

/-- PROGRESS rises to p ten-thousandths (R50). -/
def progressOp (k p : Nat) (s : State) : State :=
  let x := s.slot k
  setSlot k { x with progress := max x.progress (clampN 10000 p) } s

/-- RESULT of an operation that ends ABORTED by command: the kind's own code, or R50's. -/
def abortByCommand (idx sub : Nat) : Nat :=
  if idx = 0x7C00 ∧ sub = 1 then 0xAB0A0003 else 0xAB01000F

/-- A running operation moves to ABORTING and a queued one ends ABORTED at once, with RESULT code (R50, R52). -/
def abortOp (k code : Nat) (s : State) : State :=
  let x := s.slot k
  match x.state with
  | .queued => endOp k .aborted code s
  | .running => setSlot k { x with state := .aborting, abortCode := code } s
  | _ => s

/-- Modes in which the kind of slot k may run, as its entry's mode limits say, or R291 for HANDOVER: IDLE, READY, PRINT; 0: any
(R52). -/
def kindModes (idx sub : Nat) : Nat :=
  if idx = 0x1200 ∧ sub = 0x0A then 0x1A
  else
  match findGroup idx groups with
  | none => 0
  | some (g, _) =>
    match findRow sub g.rows with
    | none => 0
    | some r => r.modes

/-- Some queued or running operation's kind does not run in mode m (R52). -/
def State.holdsMode (s : State) (m : Mode) : Bool :=
  slotIds.any (fun k =>
    let x := s.slot k
    x.active && kindModes x.kindIndex x.kindSub != 0 && !bitOf (kindModes x.kindIndex x.kindSub) m.code)

/-- A forced move to mode m aborts the operations that may not run in it (R52). -/
def forceAborts (m : Mode) (s : State) : State :=
  forEach slotIds (fun k s =>
    let x := s.slot k
    if x.active && kindModes x.kindIndex x.kindSub != 0 && !bitOf (kindModes x.kindIndex x.kindSub) m.code then
      abortOp k 0xAB020002 s
    else s) s

/-- A queued operation whose resources are free, and before which no queued operation that wants them stands, runs (R49). -/
def dequeueOp (k : Nat) (s : State) : State :=
  let x := s.slot k
  if x.state == .queued && !(slotIds.any (fun j =>
      let y := s.slot j
      j != k && y.resources &&& x.resources != 0 &&
        (y.state == .running || y.state == .aborting || (y.state == .queued &&
          (y.endedAt < x.endedAt || (y.endedAt == x.endedAt && y.handle < x.handle)))))) then
    setSlot k { x with state := .running } s
  else s

/-- The slot whose active operation was started by entry idx:sub, if any. -/
def State.opOf (s : State) (idx sub : Nat) : Option Nat :=
  slotIds.find? (fun k => (s.slot k).active && (s.slot k).kindIndex == idx && (s.slot k).kindSub == sub)

end Sys2Proof.Machine
end

