-- ==== Sys2Proof/Machine/HeadLink.lean ====
section
/-! DEFINITION. What every part does with a head-link lane: the fire-at predictor, sending a frame, queueing a control
transaction, cancelling lines (R162-R165, R181-R188, R201, R202). -/

namespace Sys2Proof.Machine

/-! Objects -/

/-- Lane l. -/
def State.lane (s : State) (l : Nat) : Lane := tget {} s.lanes l

/-- Lane l takes a new content. -/
def setLane (l : Nat) (x : Lane) (s : State) : State := { s with lanes := tset s.lanes l x }

/-- Bay b. -/
def State.bay (s : State) (b : Nat) : Bay := tget {} s.bays b

/-- Bay b takes a new content. -/
def setBay (b : Nat) (x : Bay) (s : State) : State := { s with bays := tset s.bays b x }

/-- Gallery g. -/
def State.gal (s : State) (g : Nat) : Gal := tget {} s.gals g

/-- Gallery g takes a new content. -/
def setGal (g : Nat) (x : Gal) (s : State) : State := { s with gals := tset s.gals g x }

/-- Line n of gallery g, while it is kept. -/
def Gal.find (x : Gal) (n : Nat) : Option Line := x.lines.find? (fun y => y.line == n)

/-- Line y takes a new content in gallery g. -/
def putLine (g : Nat) (y : Line) (s : State) : State :=
  let x := s.gal g
  setGal g { x with lines := x.lines.map (fun z => if z.line == y.line then y else z) } s

/-- Line y carries one more reason. -/
def Line.because (y : Line) (bit : Nat) : Line := { y with reasons := setBit y.reasons bit true }

/-- A reason that blanks the whole line: late, no prediction, cancel, gate, no plan, nozzle path, takeover gap, segment
lost, uncorrectable read (R172, R339). -/
def Line.blanked (y : Line) : Bool := y.late || y.reasons &&& 0x1CE7 != 0

/-- The frame of line y waits for its content. A line that no plan governs has nothing to compose (R116), a line of a gallery
in READY goes out as BLANK whatever it holds (R426), and a late one has lost its work (R19): none is waited for. DEDUCED,
log entry 45. -/
def Line.pending (y : Line) : Bool := y.drops.isNone && !y.late && !bitOf y.reasons 6 && y.prints

/-- The lanes of gallery g (R12). -/
def lanesOf (g : Nat) : List Nat := [4 * g, 4 * g + 1, 4 * g + 2, 4 * g + 3]

/-- Bay b is POPULATED (R159). -/
def State.populated (s : State) (b : Nat) : Bool := s.flag (0x4000 + b) 1

/-- Populated mask of lane l's 16 positions. -/
def State.popMask (s : State) (l : Nat) : Nat :=
  sumN ((List.range 16).map (fun i => if s.populated (16 * l + i) then 2 ^ i else 0))

/-- GALLERY_SET (R426). -/
def State.gallerySet (s : State) : List Nat := onesOf 8 (s.val 0x1100 3)

/-- Gallery g is in PRINT; in READY or PRINT (R426). -/
def State.inPrint (s : State) (g : Nat) : Bool := s.sys.mode == .print && bitOf s.sys.printing g

/-- Gallery g takes part in READY or PRINT (R426). -/
def State.inReadyPrint (s : State) (g : Nat) : Bool :=
  (s.sys.mode == .ready || s.sys.mode == .print) && bitOf (s.val 0x1100 3) g

/-- Gallery entries of R176. -/
def State.barOffset (s : State) (g : Nat) : Nat := s.val (0x3030 + 0x100 * g) 1
/-- LEAD. -/
def State.lead (s : State) (g : Nat) : Nat := s.val (0x3030 + 0x100 * g) 2
/-- PAIRED. -/
def State.paired (s : State) (g : Nat) : Bool := s.flag (0x3030 + 0x100 * g) 3
/-- Master lines between two lines of gallery g: 2 in a pair (R15). -/
def State.step (s : State) (g : Nat) : Nat := if s.paired g then 2 else 1
/-- REG_TRIM. -/
def State.regTrim (s : State) (g : Nat) : Int := s.ival (0x3030 + 0x100 * g) 4 1
/-- BITS_PER_NOZZLE (R157). -/
def State.bitsOf (s : State) (g : Nat) : Nat := s.val (0x3020 + 0x100 * g) 1

/-- Nozzle count of bay b in use: the head record's, or the override's (R209, R210). -/
def State.nozzles (s : State) (b : Nat) : Nat :=
  let x := s.bay b
  match x.idState with
  | .accepted => leAt x.record 8 2
  | .overridden => s.val (0x4000 + b) 0x14
  | _ => 0

/-- The line that gallery g starts at master tick m (R16, R17). -/
def State.lineAtTick (s : State) (g m : Nat) : Nat := usg 32 ((m : Int) - s.barOffset g + s.lead g)

/-! Fire-at (R162) -/

/-- The predicted time of master tick m. -/
def State.tickTime (s : State) (m : Nat) : Int := s.pred.phi + s.pred.p * serial32 m s.pred.mPhi

/-- fire_at(g, n) of R162. -/
def State.fireAt (s : State) (g n : Nat) : Int :=
  s.tickTime (n + s.barOffset g) + rne (s.regTrim g * (s.pred.p * (s.step g : Int))) 6

/-- D(n) as the predictor gives it: the earlier of the gallery's tick n - 2 and fire-at less 20 microseconds (R18). -/
def State.deadlineOf (s : State) (g n : Nat) : Int :=
  min (s.tickTime (n + s.barOffset g) - 2 * s.pred.p) (s.fireAt g n - (usT 20 : Int))

/-- The fire-at from which D(line) is reckoned: the one fixed when its frame started, or the last prediction, which stands for
this also while the predictor is not valid (DEDUCED, log entry 44). -/
def State.plannedFire (s : State) (g line : Nat) : Option Int :=
  match (s.gal g).find line with
  | some y => (match y.fireAt with | some f => some f | none => if s.pred.p = 0 then none else some (s.fireAt g line))
  | none => if s.pred.p = 0 then none else some (s.fireAt g line)

/-- Gallery g's tick line - 2 has come. -/
def State.tickPassed (s : State) (g line : Nat) : Bool :=
  0 ≤ serial32 s.lc.lastTick (usg 32 ((line : Int) + s.barOffset g - 2)) && s.lc.ticked

/-- D(line) has passed: the gallery's tick line - 2 has come, or the fire-at less 20 microseconds (R18). -/
def State.deadlinePassed (s : State) (g line : Nat) : Bool :=
  s.tickPassed g line ||
  match s.plannedFire g line with
  | some f => f - (usT 20 : Int) ≤ (s.now : Int)
  | none => false

/-- D(line) as far as it can be told: from the fire-at that the line's first frame fixed, or from the prediction. -/
def State.lineDeadline (s : State) (g : Nat) (y : Line) : Option Int :=
  match y.fireAt with
  | some f => some (min (s.tickTime (y.line + s.barOffset g) - 2 * s.pred.p) (f - (usT 20 : Int)))
  | none => if s.pred.valid then some (s.deadlineOf g y.line) else none

/-- Device-time units of n core clocks, rounded up. -/
def ckT (n : Nat) : Nat := (n * 327680 + 5) / 6

/-- A frame of line y of gallery g that takes ck core clocks and starts now would not leave by D(N): the deadline has passed, or
it passes before the frame's last symbol (R18, R19). -/
def State.tooLate (s : State) (g : Nat) (y : Line) (ck : Nat) : Bool :=
  s.tickPassed g y.line ||
  match s.lineDeadline g y with
  | some d => d < (s.now + ckT ck : Nat)
  | none => false

/-- A line of gallery g may start under this unit's reign: not after n_y of a handover it has begun. -/
def State.ownLine (s : State) (g n : Nat) : Bool :=
  match s.pair.hand with
  | some h => h.taking || serial32 n (tget 0 h.ny g) ≤ 0
  | none => true

/-- Line y of the lane's gallery may still go out on lane l: not sent there, not barred, later than the last line sent, and
one of this reign (R18, R187, R197). -/
def State.sendable (s : State) (l : Nat) (y : Line) : Bool :=
  !bitOf y.lanes (l % 4) && !bitOf y.barred (l % 4) && s.ownLine (l / 4) y.line &&
  match (s.lane l).lastLine with
  | some k => decide (0 < serial32 y.line k)
  | none => true

/-- The earliest line that lane l has still to send. -/
def State.nextLine (s : State) (l : Nat) : Option Line :=
  ((s.gal (l / 4)).lines.filter (s.sendable l)).foldl (fun acc y =>
    match acc with
    | some z => if serial32 y.line z.line < 0 then some y else some z
    | none => some y) none

/-! Sending -/

/-- Core clocks of one 10-bit symbol, in tenths: 1 ns, 2 ns or 4 ns (R179). -/
def State.symbolTenths (s : State) (l : Nat) : Nat := 12 * 2 ^ (s.val (0x5000 + l) 2)

/-- Core clocks a frame takes with its IDLE: SOF, header, payload, CRC, EOF and four symbols (R181, R23). -/
def State.frameCk (s : State) (l payload : Nat) : Nat := ((42 + payload) * s.symbolTenths l + 9) / 10

/-- Lane l carries frames: it is in RUN, and this unit drives it (R192). -/
def State.running (s : State) (l : Nat) : Bool := (s.lane l).train.state == .run

/-- Lane l carries this unit's TIME and TIME_SYNC: a head-link lane in RUN, or a pair-link lane in RUN on the active unit
(R181, R190, R284). -/
def State.sendsTime (s : State) (l : Nat) : Bool := s.running l && (decide (l < 32) || s.pair.role == .active)

/-- The lane number under which a link is kept. -/
def linkKey : Link → Nat
  | .lane l => l.val
  | .pair i => 32 + i.val

/-- TIME_SYNC_PERIOD of lane k, in ms; the pair link has no entry for it, and takes the default of a lane's (DESIGN CHOICE, log
entry 64). -/
def State.syncPeriod (s : State) (k : Nat) : Nat := if k < 32 then s.val (0x5000 + k) 13 else 10

/-- The link that lane k stands for: the pair link's two lanes are kept as lanes 32 and 33. -/
def linkOf (k : Nat) : Link := if k < 32 then .lane (Fin.ofNat 32 k) else .pair (Fin.ofNat 2 (k - 32))

/-- A frame's bytes on lane l: the header, with LANE where R184 gives the type the field, the payload, and the CRC-32C of both
(R182, R184). -/
def frameBytes (l : Nat) (f : Frame) (alive : Nat) : Bytes :=
  let body := le 1 f.type ++ le 1 f.flags ++ le 1 alive ++ le 1 (if f.type = 0x01 ∨ f.type = 0x03 ∨ f.type = 0x20 then l else 0) ++
    le 2 f.reign ++ le 2 f.payload.length ++ le 4 f.line ++ le 8 f.fireAt ++ le 2 f.bayMask ++ le 1 f.bits ++ zeros 1 ++
    le 4 f.waveSets ++ zeros 4 ++ f.payload
  body ++ le 4 (crc32c body)

/-- The symbols that leave lane k, where they are 8b/10b coded (R180, R181, R193). -/
def linkSyms (k : Nat) : LinkOut → Option (List CodeSym)
  | .trainSet st value request => some [k237, .data (st % 256), .data (value % 256), .data (request % 256)]
  | .time t => some (k281 :: dataSyms (le 8 t))
  | .frame f alive => some (frameSyms (frameBytes k f alive))
  | .idle => some idleSet
  | .prbs _ _ _ => none
  | .loopback => none
  | .electricalIdle => none

/-- Lane k's running disparity as its next ordered set or frame begins: every IDLE sent since the last one has inverted it
(R179; that whole IDLEs fill the time is a DESIGN CHOICE, log entry 59). -/
def State.disparityNow (s : State) (k : Nat) : Bool :=
  let x := s.lane k
  match x.sentUntil with
  | none => false
  | some e => if (s.clk.core - e) * 10 / (4 * s.symbolTenths k) % 2 = 1 then !x.disparity else x.disparity

/-- Something leaves lane k: its code groups follow from the running disparity, which is negative on leaving electrical idle
(R179). -/
def sendLink (k : Nat) (o : LinkOut) (s : State) : State :=
  let x := s.lane k
  match linkSyms k o with
  | some syms =>
    let r := sendSyms syms (s.disparityNow k)
    emit (.link (linkOf k) o r.1)
      (setLane k { x with disparity := r.2, sentUntil := some (s.clk.core + (syms.length * s.symbolTenths k + 9) / 10) } s)
  | none =>
    emit (.link (linkOf k) o [])
      (setLane k { x with sentUntil := if o == .electricalIdle then none else some s.clk.core } s)

/-- A frame starts on lane l: REIGN, where R184 gives the type the field, and ALIVE are set, and the lane is taken for its
length (R181, R182, R184, R185). -/
def sendFrame (l : Nat) (f : Frame) (s : State) : State :=
  let x := s.lane l
  let alive := if f.type = 0x03 ∨ f.type = 0x20 then 0 else x.aliveTx
  let f1 := { f with reign := if f.type = 0x01 ∨ f.type = 0x03 ∨ f.type = 0x20 ∨ f.type = 0x21 then s.pair.reign else 0 }
  sendLink l (.frame f1 alive)
    (setLane l { x with
      aliveTx := (alive + 1) % 256
      sending := some ⟨f1, s.clk.core + s.frameCk l f1.payload.length⟩ } s)

/-- The RESYNC of entry to RUN or of a time step (R184, R196): line order restarts. -/
def sendResync (l : Nat) (s : State) : State :=
  let x := s.lane l
  sendFrame l { type := 0x03, payload := le 1 (s.val (0x5000 + l) 2) ++ zeros 7 }
    (setLane l { x with resync := false, lastLine := none, lastShot := none } s)

/-- A cancel: a BLANK with CANCEL, its LINE the lowest line cancelled (R164, R187). -/
def sendCancel (l line : Nat) (service : Bool) (s : State) : State :=
  let x := s.lane l
  bump 0x2110 4 32
    (sendFrame l { type := 0x02, flags := if service then 6 else 2, line := line }
      (setLane l (if service then { x with cancelShot := none } else { x with cancel := none }) s))

/-- TIME_SYNC with T1 and the DELAY known (R190). -/
def sendTimeSync (l : Nat) (s : State) : State :=
  let x := s.lane l
  let t1 := s.now
  let d := x.delay.getD 0
  let pay := le 2 x.syncSeq ++ [if x.delay.isSome then 1 else 0] ++ zeros 5 ++ le 8 t1 ++
    le 8 (clampI 0 18446744073709551615 d).toNat
  sendFrame l { type := 0x30, payload := pay }
    (setLane l { x with
      syncQueue := x.syncQueue - 1
      syncSeq := wrapAdd 16 x.syncSeq 1
      syncs := (x.syncSeq, (t1 : Int)) :: x.syncs
      linkTime := x.linkTime || x.delay.isSome
      syncDue := s.clk.core + msCk (s.syncPeriod l) } s)

/-- A control frame queued on lane l goes out; one that awaits an answer becomes outstanding, or is so already where it is sent
again (R201). -/
def sendCtrl (l : Nat) (c : Ctrl) (rest : List Ctrl) (s : State) : State :=
  let x := s.lane l
  sendFrame l c.frame (setLane l { x with
    ctrlQueue := rest
    outstanding := if c.frame.type = 0x20 ∨ c.frame.type = 0x21 then x.outstanding
      else x.outstanding.filter (fun d => d.tag != c.tag) ++ [{ c with sentAt := s.clk.core }] } s)

/-- Core clocks of lane l's LINE frame with every populated bay (R186). -/
def State.laneFrameCk (s : State) (l : Nat) : Nat :=
  s.frameCk l (32 + sumN ((List.range 16).map (fun i =>
    if s.populated (16 * l + i) then s.nozzles (16 * l + i) * s.bitsOf (l / 4) / 8 else 0)))

/-- The next line of lane l may start now: D of the line before it has passed, and it is complete in the ring or can no longer be
in time (R18, R19, R188). -/
def State.lineReady (s : State) (l : Nat) : Bool :=
  let g := l / 4
  match s.nextLine l with
  | some y => s.inReadyPrint g && s.deadlinePassed g (usg 32 ((y.line : Int) - s.step g)) &&
      (!y.pending || s.tooLate g y (s.laneFrameCk l))
  | none => false

/-- D of the next line of lane l: one already started, or the one that the next tick starts. -/
def State.nextDeadline (s : State) (l : Nat) : Option Int :=
  let g := l / 4
  if !s.inReadyPrint g then none
  else
    match s.nextLine l with
    | some y => s.lineDeadline g y
    | none => if s.pred.valid then some (s.deadlineOf g (s.lineAtTick g (s.lc.lastTick + 1))) else none

/-- Whether a control frame of n payload bytes ends before the latest start that lets the next line meet D (R188). -/
def State.ctrlFits (s : State) (l n : Nat) : Bool :=
  match s.nextDeadline l with
  | some d => (s.now + ckT (s.frameCk l n + s.laneFrameCk l) : Nat) ≤ d
  | none => true

/-- A TIME of nine symbols that starts now ends by the earliest moment at which the lane's next line may start (R181). -/
def State.timeFits (s : State) (l : Nat) : Bool :=
  let g := l / 4
  match s.nextLine l with
  | none => true
  | some y =>
    let before := usg 32 ((y.line : Int) - s.step g)
    if !s.inReadyPrint g then true
    else if s.deadlinePassed g before then false
    else
      match s.plannedFire g before with
      | none => true
      | some f =>
        let d := f - (usT 20 : Int)
        (s.now + ckT ((9 * s.symbolTenths l + 9) / 10) : Nat) ≤ (if s.pred.valid then min d (s.deadlineOf g before) else d)

/-- With the lane free, the engine starts the first of R188's list that applies: RESYNC, cancel, TIME_SYNC, control
frame. Line frames start by LINE_FRAME_START, and while one may start nothing that follows it in the list does. -/
def pumpLane (l : Nat) (s : State) : State :=
  let x := s.lane l
  if !s.running l || x.sending.isSome then s
  else if x.resync then sendResync l s
  else match x.cancel with
    | some n => sendCancel l n false s
    | none =>
      match x.cancelShot with
      | some n => sendCancel l n true s
      | none =>
        if s.lineReady l then s
        else if 0 < x.syncQueue then sendTimeSync l s
        else match x.ctrlQueue with
          | [] => s
          | c :: rest =>
            if (decide (x.outstanding.length < 4) || x.outstanding.any (fun d => d.tag == c.tag)) && s.ctrlFits l c.frame.payload.length then sendCtrl l c rest s else s

/-! Control transactions -/

/-- The payload of CTRL_WRITE and CTRL_READ (R201). -/
def ctrlPayload (tag addr len : Nat) (bs : Bytes) : Bytes := le 2 tag ++ le 2 addr ++ le 2 len ++ zeros 2 ++ bs

/-- A control frame of any type is queued on lane l under a fresh TAG (R188, R201). -/
def queueCtrl (l type : Nat) (payload : Nat → Bytes) (user : CtrlUser) (s : State) : State :=
  let x := s.lane l
  let tag := x.nextTag
  pumpLane l (setLane l { x with
    nextTag := wrapAdd 16 tag 1
    ctrlQueue := x.ctrlQueue ++ [{ tag := tag, frame := { type := type, payload := payload tag }, user := user, sentAt := 0, resends := 0 }] } s)

/-- CTRL_WRITE of bytes at an address of the module's control space. -/
def ctrlWrite (l addr : Nat) (bs : Bytes) (user : CtrlUser) (s : State) : State :=
  queueCtrl l 0x10 (fun tag => ctrlPayload tag addr bs.length bs) user s

/-- CTRL_READ of n bytes. -/
def ctrlRead (l addr n : Nat) (user : CtrlUser) (s : State) : State :=
  queueCtrl l 0x11 (fun tag => ctrlPayload tag addr n []) user s

/-- HEAD_POWER is written on lane l: a mask of bay positions (R202). -/
def writeHeadPower (l mask : Nat) (s : State) : State :=
  if s.running l then ctrlWrite l 0x000C (le 4 mask) .headPower s else s

/-- HEAD_POWER of every lane: the populated masks, or 0 (R202). -/
def headPowerAll (on : Bool) (s : State) : State :=
  forEach (List.range 32) (fun l s => writeHeadPower l (if on then s.popMask l else 0) s) s

/-! Cancelling (R164, R175) -/

/-- The lowest of two line numbers by serial arithmetic (R183). -/
def lowerLine (a b : Nat) : Nat := if serial32 a b < 0 then a else b

/-- The lowest line of gallery g whose frame has started on lane l and whose fire-at lies after t. -/
def Gal.lowestAfter (x : Gal) (l : Nat) (t : Int) : Option Nat :=
  x.lines.foldl (fun acc y =>
    if bitOf y.lanes (l % 4) && (match y.fireAt with | some f => t < f | none => false) then
      some (match acc with | some k => lowerLine y.line k | none => y.line)
    else acc) none

/-- A cancel becomes pending on lane l where it holds a line whose fire-at lies after t, from the lowest such line. -/
def cancelLane (t : Int) (l : Nat) (s : State) : State :=
  let x := s.lane l
  match (s.gal (l / 4)).lowestAfter l t with
  | none => s
  | some k =>
    if s.running l then
      pumpLane l (setLane l { x with cancel := some (match x.cancel with | some j => lowerLine k j | none => k) } s)
    else s

/-- Line y has been sent with a fire-at after t. -/
def Line.firesAfter (y : Line) (t : Int) : Bool := y.lanes != 0 && (match y.fireAt with | some f => decide (t < f) | none => false)

/-- The lines of gallery g that fire after t carry a reason: bit 2 "cancel", or bit 5 "gate", whose lines GATE_BLANK_COUNT
counts (R172, R339). -/
def markCancelled (bit : Nat) (t : Int) (g : Nat) (s : State) : State :=
  let x := s.gal g
  let new := (x.lines.filter (fun y => y.firesAfter t && !bitOf y.reasons bit)).length
  let s1 := setGal g { x with lines := x.lines.map (fun y =>
    if y.firesAfter t then { y with reasons := setBit y.reasons bit true } else y) } s
  if bit = 5 ∧ new ≠ 0 then bumpBy (0x3030 + 0x100 * g) 12 32 new s1 else s1

/-- Every line of the galleries whose fire-at lies after t is cancelled, for the reason of a bit (R164). -/
def cancelGalleries (bit : Nat) (t : Int) (gs : List Nat) (s : State) : State :=
  forEach gs (fun g s => forEach (lanesOf g) (cancelLane t) (markCancelled bit t g s)) s

/-- Drop-gate shots not yet fired are cancelled on their lanes, and the sweep waits; it goes on from the first of them
(R175, R250). -/
def cancelShots (t : Int) (s : State) : State :=
  match s.sweep with
  | none => s
  | some w =>
    match w.shots.filter (fun h => t < h.fire) with
    | [] => { s with sweep := some { w with suspended := true } }
    | h :: _ =>
      let s1 := { s with sweep := some { w with
        suspended := true, nextSlot := h.index, nextIndex := h.nozzle, shots := w.shots.filter (fun h => !(t < h.fire)) } }
      forEach (onesOf 8 w.mask) (fun g s => forEach (lanesOf g) (fun l s =>
        if s.running l then pumpLane l (setLane l { s.lane l with cancelShot := some h.line } s) else s) s) s1

end Sys2Proof.Machine
end

