-- ==== Sys2Proof/Machine/Limits.lean ====
section
/-! DEFINITION. Line-rate limits, the measured line period and the speed warning (R22, R69, R74, R171, R209). Rates are in
mHz, so that the halved limits of R22 are whole. -/

namespace Sys2Proof.Machine

/-- Maximum fire frequency of bay b's head, Hz (R209, R210). -/
def State.maxFire (s : State) (b : Nat) : Nat :=
  let x := s.bay b
  match x.idState with
  | .accepted => leAt x.record 12 4
  | .overridden => s.val (0x4000 + b) 0x15
  | _ => 0

/-- The bay numbers of gallery g (R13): bay k is 64 g + k. -/
def baysOf (g : Nat) : List Nat := (List.range 64).map (fun k => 64 * g + k)

/-- The populated bays of gallery g. -/
def State.popBays (s : State) (g : Nat) : List Nat := (baysOf g).filter (fun b => s.populated b)

/-- The slowest RATE code among gallery g's lanes that carry a populated bay (R179). -/
def State.slowestRate (s : State) (g : Nat) : Nat :=
  maxN ((lanesOf g).map (fun l => if s.popMask l = 0 then 0 else s.val (0x5000 + l) 2))

/-- The format limit of gallery g, mHz (R22). -/
def State.formatLimit (s : State) (g : Nat) : Nat :=
  (match s.bitsOf g with
    | 1 => 160000000
    | 2 => 100000000
    | _ => 75000000) / 2 ^ (s.slowestRate g)

/-- The line-rate limit of bay b, mHz (R22, R171). -/
def State.bayLimit (s : State) (b : Nat) : Nat :=
  if s.maxFire b = 0 then s.formatLimit (b / 64) else min (s.formatLimit (b / 64)) (1000 * s.maxFire b)

/-- The lowest of the limits of gallery g's populated bays; its format limit where it has none. -/
def State.galLimit (s : State) (g : Nat) : Nat := (s.popBays g).foldl (fun m b => min m (s.bayLimit b)) (s.formatLimit g)

/-- F_lim of R74, none while no gallery is in READY or PRINT. -/
def State.pressLimit (s : State) : Option Nat :=
  if s.sys.mode == .ready || s.sys.mode == .print then
    s.gallerySet.foldl (fun acc g =>
      let x := if s.paired g then 2 * min (s.galLimit (g / 2 * 2)) (s.galLimit (g / 2 * 2 + 1)) else s.galLimit g
      match acc with
      | none => some x
      | some m => some (min m x)) none
  else none

/-- LINE_PERIOD in 1/16 ns: the mean of the intervals between the tick times kept (R69), rounded and saturated under R6. -/
def LineClock.period (c : LineClock) : Nat :=
  match c.times.head?, c.times.getLast? with
  | some a, some b =>
    let n := c.times.length - 1
    if n = 0 then 0 else clampN 0xFFFFFFFF (rneDiv ((a - b : Nat) * 40) (3 * n)).toNat
  | _, _ => 0

/-- The line rate in Hz, 0 while LINE_PERIOD is 0. -/
def LineClock.rate (c : LineClock) : Nat := if c.period = 0 then 0 else (rneDiv 16000000000 c.period).toNat

/-- Whether 1 / LINE_PERIOD reaches fraction f (0.01 percent) of limit lim (mHz). -/
def LineClock.reaches (c : LineClock) (f lim : Nat) : Bool := c.period != 0 && f * lim * c.period ≤ 160000000000000000

/-- The speed warning sets or clears by a cause at device time t (R74). -/
def speedWarnAt (t : Nat) (s : State) : State :=
  let c := s.lc
  let f := s.val 0x2100 11
  let want := match s.pressLimit with
    | none => false
    | some lim =>
      c.state == .run && c.reaches (if c.speedWarn then f - 100 else f) lim
  if want == c.speedWarn then s
  else raiseAt t 0x030D 0x10 ([if want then 1 else 0] ++ zeros 3 ++ le 4 c.rate) { s with lc := { c with speedWarn := want } }

/-- The speed warning sets or clears now. -/
def speedWarn (s : State) : State := speedWarnAt s.now s

end Sys2Proof.Machine
end

