-- ==== Sys2Proof/Machine/Guard.lean ====
section
/-! DEFINITION. The SAFE latch, the moves between modes and giving up control, as shared operations (R129, R287, R427-R433). -/

namespace Sys2Proof.Machine

/-! Gates (R174) -/

/-- Bit of a gate's MODES that covers a mode (R176). -/
def gateModeBit : Mode → Option Nat
  | .service => some 0
  | .ready => some 1
  | .print => some 2
  | _ => none

/-- Gate n acts in mode m (R174). -/
def State.gateActs (s : State) (m : Mode) (n : Nat) : Bool :=
  s.flag (0x2200 + n) 2 &&
  match gateModeBit m with
  | some b => bitOf (s.val (0x2200 + n) 6) b
  | none => false

/-- Gate n is WITHDRAWN or in FAULT. -/
def State.gateDown (s : State) (n : Nat) : Bool :=
  let g := tget {} s.gates n
  g.state == .withdrawn || g.state == .fault

/-- GATES_DOWN (R176). -/
def State.gatesDown (s : State) : Nat :=
  sumN ((List.range 8).map (fun n => if s.gateDown n then 2 ^ n else 0))

/-- A gate acting in the present mode is WITHDRAWN or in FAULT, and so holds firing (R174). -/
def State.gateHolds (s : State) : Bool := (List.range 8).any (fun n => s.gateDown n && s.gateActs s.sys.mode n)

/-! Modes -/

/-- GALLERY_MODES (R439). -/
def State.galleryModes (s : State) : Nat :=
  sumN (s.gallerySet.map (fun g =>
    (match s.sys.mode with
      | .print => if bitOf s.sys.printing g then 4 else 3
      | m => m.code) * 16 ^ g))

/-- MODE_CHANGED (R440): cause 0 request, 1 SAFE latch, 2 boot. -/
def raiseMode (old : Mode) (cause : Nat) (s : State) : State :=
  raise 0x0201 0 ([BitVec.ofNat 8 s.sys.mode.code, BitVec.ofNat 8 old.code, BitVec.ofNat 8 cause, 0] ++ le 4 s.galleryModes) s

/-- Every live plan is released, and the caption tiles whose instances were touched are retired (R129). -/
def releasePlans (s : State) : State :=
  let p := s.plans
  let s1 := { s with plans := { p with active := none, armed := none, switched := 0 } }
  let gone (x : Option Plan) (s : State) : State :=
    match x with
    | some q => raise 0x0507 0 (le 4 q.id) s
    | none => s
  forEach (List.range 64) (fun q s => if thas s.queues q then retireTouched q s else s) (gone p.armed (gone p.active s1))

/-- When the last line left to fire has fired, in core clocks: its fire-at from now on (R429). -/
def State.lastFiring (s : State) : Nat :=
  let ahead := (List.range 8).flatMap (fun g => (s.gal g).lines.filterMap (fun y =>
    match y.fireAt with
    | some f => if y.lanes != 0 && (s.now : Int) < f then some (f - (s.now : Int)).toNat else none
    | none => none))
  s.clk.core + (maxN ahead * 6 + 327679) / 327680

/-- Bays kept out until their gallery leaves READY and PRINT come back (R210). -/
def freeHeldOut (s : State) : State :=
  { s with bays := s.bays.map (fun p => (p.1, { p.2 with heldOut := false })) }

/-- What entry to a mode does besides the mode itself: HEAD_POWER (R202, R429), plans (R129), held-out bays (R210). -/
def enterMode (old new : Mode) (s : State) : State :=
  let s1 := if new == .idle || new == .service || new == .test then freeHeldOut (releasePlans s) else s
  match new with
  | .service => headPowerAll true s1
  | .ready => headPowerAll true s1
  | .print => headPowerAll true s1
  | .idle =>
    if s1.sys.latch || old == .service then headPowerAll false s1
    else { s1 with sys := { s1.sys with powerOffAt := some s1.lastFiring } }
  | _ => s1

/-- The mode becomes new (R427, R440). -/
def changeMode (new : Mode) (printing cause : Nat) (s : State) : State :=
  let old := s.sys.mode
  let s1 := { s with sys := { s.sys with mode := new, printing := printing, modeChanges := wrapAdd 32 s.sys.modeChanges 1 } }
  speedWarn (raiseMode old cause (enterMode old new s1))

/-! The SAFE latch -/

/-- Firing is cancelled from device time t on, in every gallery and in SERVICE; the reason is a gate where one holds firing
(R172, R175, R432). -/
def stopFiring (t : Int) (s : State) : State :=
  cancelShots t (cancelGalleries (if s.gateHolds then 5 else 2) t (List.range 8) s)

/-- The causes that a standby takes from its peer instead of its own inputs: HOST, GATE and MOTION (R283). -/
def State.peerCause (s : State) (bit : Nat) : Bool := s.pair.role == .standby && decide (bit ≤ 2)

/-- A SAFE cause is set (R431, R432). SAFE_N, LMP_BLANK_N and the forced move to IDLE follow when the block settles. -/
def takeCause (bit : Nat) (s : State) : State :=
  if s.sys.mode == .boot then s
  else
    let causes := setBit s.sys.causes bit true
    if s.sys.mode == .test then { s with sys := { s.sys with causes := causes } }
    else
      let new := if bitOf s.sys.causes bit then 0 else 2 ^ bit
      let s1 := { s with sys := { s.sys with
        latch := true, causes := causes, safeTime := if s.sys.latch then s.sys.safeTime else s.now } }
      raise 0x0202 0 (le 4 new ++ le 4 causes) (stopFiring s.now s1)

/-- A SAFE cause is found in this unit now. -/
def safeSet (bit : Nat) (s : State) : State := if s.peerCause bit then s else takeCause bit s

/-- The latch moves SERVICE, READY or PRINT to IDLE, with the effects of R52 and R129 (R432). -/
def forceIdle (s : State) : State :=
  if s.sys.latch && (s.sys.mode == .service || s.sys.mode == .ready || s.sys.mode == .print) then
    changeMode .idle 0 1 (forceAborts .idle s)
  else s

/-! The previous nozzle table after a swap -/

/-- W_k of bay b (R160). -/
def State.alongLines (s : State) (b : Nat) : Nat := s.val (0x4000 + b) 4 / 64

/-- The largest W_k among gallery g's populated bays. -/
def State.maxAlong (s : State) (g : Nat) : Nat := maxN ((s.popBays g).map s.alongLines)

/-- The web line that bay b prints in the frame of line n (R160). -/
def State.webLine (s : State) (g n b : Nat) : Nat := usg 32 ((n : Int) - (s.alongLines b * s.step g : Nat))

/-- The earliest web line that any bay of gallery g prints in the frame of line n. -/
def State.lagLine (s : State) (g n : Nat) : Nat := usg 32 ((n : Int) - (s.maxAlong g * s.step g : Nat))

/-- Some line of gallery g, in the path or yet to start, still reads the table before a swap at line w (R140). -/
def State.readsOld (s : State) (g w : Nat) : Bool :=
  (s.gal g).lines.any (fun y => y.drops.isNone && !y.late && serial32 (s.lagLine g y.line) w < 0) ||
  (s.inReadyPrint g && serial32 (s.lagLine g (s.lineAtTick g (s.lc.lastTick + 1))) w < 0)

/-- The previous table of a done swap becomes the spare, EMPTY, once no line reads it (R140). -/
def releaseSwap (g : Nat) (s : State) : State :=
  let x := s.gal g
  match x.noz.swap with
  | none => s
  | some w =>
    if w.done && !s.readsOld g w.line then
      setGal g { x with noz := { x.noz with swap := none, spareState := .empty, spareBad := false } } s
    else s

/-- The same for every gallery. -/
def releaseSwaps (s : State) : State := forEach (List.range 8) releaseSwap s

/-! Giving up control (R286, R287) -/

/-- The last line number sent on a gallery's lanes. -/
def State.lastSent (s : State) (g : Nat) : Option Nat :=
  (lanesOf g).foldl (fun acc l =>
    match acc, (s.lane l).lastLine with
    | none, x => x
    | some a, some n => if 0 < serial32 n a then some n else some a
    | some a, none => some a) none

/-- The last line number sent for each gallery; where none has been sent the spec gives the field no value: a free value. -/
def State.lastLines (s : State) : List Nat :=
  (List.range 8).map (fun g => (s.lastSent g).getD ((Config.freeValue s.free).toNat % 4294967296))

/-- The lanes carry IDLE only: they leave RUN for SHADOW once the frame in flight is complete. -/
def lanesToShadow (s : State) : State :=
  { s with lanes := s.lanes.map (fun p =>
      (p.1, if p.1 < 32 && p.2.train.state == .run then
        { p.2 with train := { p.2.train with state := .shadow, txPreset := 4 }, ctrlQueue := [], outstanding := [] } else p.2)) }

/-- LINK_STATE: pair-link lanes in RUN; the pair link's two lanes are kept as lanes 32 and 33 (R279, R296). -/
def State.linkState (s : State) : Nat := b2n (s.running 32) + b2n (s.running 33)

/-- Resynchronisation starts in slot k: nothing of the image has come, and no mirror sequence is named yet (R293). -/
def beginResync (k : Nat) (s : State) : State :=
  startOp k 0x1200 11 (2 ^ 3 + 2 ^ 18) [1]
    { s with pair := { s.pair with imageDone := false, aligned := false, mirrorNext := none, confirmed := 0xFFFFFFFF } }

/-- Resynchronisation starts by itself, unless it is active or no slot is FREE or finished (R281, R293). -/
def startResync (s : State) : State :=
  match s.opOf 0x1200 11, s.freeSlot with
  | none, some k => beginResync k s
  | _, _ => s

/-- A resynchronisation under way fails (R296). -/
def failResync (s : State) : State :=
  match s.opOf 0x1200 11 with
  | some k => endOp k .failed 0xAB0C0006 s
  | none => s

/-- The unit enters SYNCING: ACTIVE_N is released and resynchronisation starts; it will step once at its pair-link lock
(R278, R281, R323). -/
def enterSyncing (s : State) : State :=
  startResync { s with pair := { s.pair with role := .syncing, activeN := false, timeLocked := false } }

/-- A standby or synchronising unit becomes STALE with a cause, and resynchronises once the link is in RUN (R281). -/
def becomeStale (cause : Nat) (s : State) : State :=
  if s.pair.role == .standby || s.pair.role == .syncing then
    let s1 := failResync (raise 0x0C05 0 (le 1 cause) { s with pair := { s.pair with role := .stale, mirrorNext := none, hand := none } })
    if 0 < s.linkState then startResync s1 else s1
  else s

/-- An ACTIVE unit gives up control with a cause; a standby or synchronising unit that finds a cause other than 7 in itself becomes
STALE (R281, R287). In TEST nothing but the run matters (R450). -/
def giveUp (cause : Nat) (s : State) : State :=
  if s.sys.mode == .test then s
  else if s.pair.role == .active then
    let lines := s.lastLines
    let s1 := { s with pair := { s.pair with role := .relinquished, activeN := false, lastGiveUp := cause, hand := none } }
    let s2 := lanesToShadow (emit (.pair (.relinquish cause lines)) (draw s1))
    let s3 := safeSet 9 (raise 0x0C02 0 ([BitVec.ofNat 8 cause, 0] ++ le 2 s.pair.reign) s2)
    match s.pair.hand with
    | some h => if h.taking then s3 else endOp h.slot .failed 0xAB0C0006 s3
    | none => s3
  else if (s.pair.role == .standby || s.pair.role == .syncing) && cause != 7 then becomeStale 2 s
  else s

/-- Lanes that carry a populated bay and are not in RUN. -/
def State.lanesDown (s : State) : Nat :=
  ((List.range 32).filter (fun l => s.popMask l != 0 && !s.running l)).length

/-- Cause 7 of giving up stands: too many lanes down in READY or PRINT while the peer is STANDBY (R286). -/
def State.tooFewLanes (s : State) : Bool :=
  s.pair.role == .active && (s.sys.mode == .ready || s.sys.mode == .print) && s.pair.peerRole == 4 &&
    decide (s.val 0x1200 7 < s.lanesDown)

/-- It acts as soon as all of it holds, whichever part came last. -/
def watchLanes (s : State) : State := if s.tooFewLanes then giveUp 7 s else s

end Sys2Proof.Machine
end

