-- ==== Sys2Proof/Machine/Follow.lean ====
section
/-! DEFINITION. What follows by itself in the colour loop and the drop-gate sweep: the end of a loop's LOAD or swap, the
release of OWNER (R252, R256), a sweep's resumption once no gate holds firing (R250). -/

namespace Sys2Proof.Machine

/-- The colour loop of gallery g. -/
def State.loop (s : State) (g : Nat) : LoopGal := tget {} s.loops g

/-- The colour loop of gallery g takes a new content. -/
def setLoop (g : Nat) (x : LoopGal) (s : State) : State := { s with loops := tset s.loops g x }

/-- How far gallery g's update stands: a LOAD that has ended DONE waits to be edited, one that failed drops the update, a
swap that was made or cancelled ends it. -/
def State.updateNow (s : State) (g : Nat) : UpdState :=
  match (s.loop g).update with
  | .loading k => if (s.slot k).active then .loading k else if (s.slot k).state == .done then .waiting else .idle
  | .armed =>
    match (s.gal g).noz.swap with
    | some w => if w.done then .idle else .armed
    | none => .idle
  | u => u

/-- Gallery g's update follows its LOAD and swap; OWNER ends with it once LOOP_ENABLE is 0 (R252). -/
def followLoop (g : Nat) (s : State) : State :=
  if !thas s.loops g then s
  else
    let x := s.loop g
    let u := s.updateNow g
    setLoop g { x with
      update := u, changes := if u == .idle then [] else x.changes
      owner := x.owner && (s.flag (0x7810 + g) 1 || u != .idle) } s

/-- The same for every gallery. -/
def followLoops (s : State) : State := forEach (List.range 8) followLoop s

/-- The first slot not decided, with its nozzle. -/
def Sweep.firstOpen (w : Sweep) : Nat × Nat :=
  w.shots.foldl (fun acc h => if h.index < acc.1 then (h.index, h.nozzle) else acc) (w.nextSlot, w.nextIndex)

/-- The line number after the last SERVICE line sent on the lanes of the mask since their RESYNC; 0 when none was. -/
def State.shotBase (s : State) (mask : Nat) : Nat :=
  match ((onesOf 8 mask).flatMap lanesOf).foldl (fun acc l =>
    match acc, (s.lane l).lastShot with
    | none, x => x
    | some a, some b => some (if 0 < serial32 b a then b else a)
    | some a, none => some a) none with
  | none => 0
  | some n => (n + 1) % 4294967296

/-- A suspended sweep resumes once no gate holds firing: from the first slot not decided, 1 ms from now (R250). Its line numbers
go on after the last one sent, so that each lane's stay strictly later (R187; DEDUCED, log entry 68). -/
def resumeSweep (holds : Bool) (s : State) : State :=
  match s.sweep with
  | none => s
  | some w =>
    if w.suspended && !holds then
      { s with sweep := some { w with
          suspended := false, t0 := s.now + usT 1000, slot0 := w.firstOpen.1, nextSlot := w.firstOpen.1
          shotBase := usg 32 ((s.shotBase w.mask : Int) - w.firstOpen.1)
          nextIndex := w.firstOpen.2, shots := [] } }
    else s

end Sys2Proof.Machine
end

