-- ==== Sys2Proof/Machine/Registration.lean ====
section
/-! DEFINITION. The probe queues as Curator empties them: PROBE_LATCH records and colour-to-colour registration (R76,
R166, R167). -/

namespace Sys2Proof.Machine

/-- A registration entry of gallery g (R176). -/
def State.regVal (s : State) (g sub : Nat) : Nat := s.val (0x3031 + 0x100 * g) sub

/-- The galleries of probe p (R167). -/
def State.regGalleries (s : State) (p : Nat) : List Nat :=
  (List.range 8).filter (fun g => s.regVal g 1 != 0 && s.regVal g 2 == p)

/-- The gallery at which an unmatched latch of probe p counts (R167 step 3). -/
def State.unmatchedAt (s : State) (p : Nat) : Option Nat :=
  match (List.range 8).find? (fun g => s.regVal g 2 == p && s.regVal g 3 == 1) with
  | some g => some g
  | none => (s.regGalleries p).head?

/-- C_g: COUNTS_PER_LINE, or twice it in a pair. -/
def State.galleryCounts (s : State) (g : Nat) : Nat := s.val 0x2100 2 * s.step g

/-- e64 of an error of e counts, rounded and clamped to I32 (R6, R167). -/
def State.error64 (s : State) (g : Nat) (e : Int) : Int :=
  clampI (-2147483648) 2147483647 (rneDiv (e * 274877906944) (s.galleryCounts g : Int))

/-- The REG_TRIM before the outer clamp that an error asks for. -/
def State.trimFor (s : State) (g : Nat) (e64 : Int) : Int :=
  s.regTrim g - clampI (-(s.regVal g 7 : Int)) (s.regVal g 7) (rne (e64 * s.regVal g 6) 8)

/-- A latch of device time t is matched to gallery g with an error of e counts (R167). -/
def regMatch (t g : Nat) (e : Int) (s : State) : State :=
  let e64 := s.error64 g e
  let s1 := bump (0x3031 + 0x100 * g) 9 32 (setVal (0x3031 + 0x100 * g) 8 (usg 32 e64) s)
  let corrects := s.regVal g 1 == 2 && s.inPrint g
  let want := s.trimFor g e64
  let trim := if corrects then clampI (-63) 63 want else s.regTrim g
  let s2 := if corrects then setVal (0x3030 + 0x100 * g) 4 (usg 8 trim) s1 else s1
  if 64 ≤ e64 ∨ e64 ≤ -64 ∨ (corrects ∧ trim ≠ want) then
    raiseLimitedAt t (sCk 1) 0x0708 g (0x0100 + g) (le 1 g ++ le 1 (usg 8 trim) ++ zeros 2 ++ le 4 (usg 32 e64)) s2
  else s2

/-- Registration takes a latch of probe p at position x (R167). -/
def regLatch (p t : Nat) (x : Int) (s : State) : State :=
  let gs := s.regGalleries p
  if gs.isEmpty then s
  else
    let reach : Int := maxN (gs.map (fun g => s.regVal g 4)) + maxN (gs.map (fun g => s.regVal g 5))
    let openGroup := { s with regs := tset s.regs p ⟨x, 0⟩ }
    if !thas s.regs p then openGroup
    else
      let grp := tget ⟨0, 0⟩ s.regs p
      let d := posDiff x grp.ref_
      if reach < d then openGroup
      else
        match gs.find? (fun g => s.regVal g 3 == 0 && !bitOf grp.matched g &&
            (d - s.regVal g 4).natAbs ≤ s.regVal g 5) with
        | some g => regMatch t g (d - s.regVal g 4) { s with regs := tset s.regs p { grp with matched := setBit grp.matched g true } }
        | none =>
          match s.unmatchedAt p with
          | some g => bump (0x3031 + 0x100 * g) 10 32 s
          | none => s

/-- One queue entry of probe p leaves the queue: its record, then registration (R76). -/
def drainLatch (p : Nat) (x : Latch) (s : State) : State :=
  regLatch p x.at_ x.pos (raiseAt x.at_ 0x0308 0x10 (le 6 (usg 48 x.pos) ++ le 1 p ++ le 1 x.edge) s)

/-- Probe p's queue is emptied in order, once time has passed since its newest entry entered it. -/
def drainProbe (p : Nat) (s : State) : State :=
  let x := tget {} s.probes p
  if x.queue.isEmpty || s.clk.core ≤ x.queuedAt then s
  else forEach x.queue (drainLatch p) { s with probes := tset s.probes p { x with queue := [] } }

/-- The four queues (log entry 13). -/
def drainProbes (s : State) : State := forEach (List.range 4) drainProbe s

end Sys2Proof.Machine
end

