-- ==== Sys2Proof/Machine/Sessions.lean ====
section
/-! DEFINITION. What follows a change of role wherever it happens: closing network sessions (R304, R309, R313) and the PTP
port's state (R331, R341). -/

namespace Sys2Proof.Machine

/-- Key of session slot k's block transfer; the mailbox has key 0 (R45). -/
def xferKey (k : Nat) : Nat := 1 + k

/-- A transaction of session slot k that has been accepted goes on, but its response is discarded. -/
def Trans.muteSession (k : Nat) (t : Trans) : Trans :=
  match t.origin with
  | .request j _ => if j = k then { t with origin := .silent 9 } else t
  | .direct r => if r = 1 + k then { t with origin := .silent 9 } else t
  | _ => t

/-- The same for every transaction that waits. -/
def muteSession (k : Nat) (s : State) : State :=
  { s with cat := { s.cat with
      mirror := s.cat.mirror.map (fun m => (m.1, m.2.1.muteSession k, m.2.2))
      waiting := s.cat.waiting.map (Trans.muteSession k)
      reg := s.cat.reg.map (fun w => { w with trans := w.trans.muteSession k }) } }

/-- Session slot k closes: its block transfer is cancelled and its stored responses are discarded (R309). Reasons: 0 CLOSE,
1 idle, 2 key, 3 address, 4 command, 5 role (R321). -/
def closeSession (k reason : Nat) (s : State) : State :=
  match s.net.sessions.find? (fun p => p.1 == k) with
  | none => s
  | some (_, x) =>
    let s1 := muteSession k { s with
      net := { s.net with sessions := terase s.net.sessions k }
      cat := { s.cat with xfers := terase s.cat.xfers (xferKey k) } }
    raise 0x0D03 0 (le 4 x.id ++ [BitVec.ofNat 8 reason]) s1

/-- The session slots. -/
def sessionIds : List Nat := List.range 8

/-- Every session that meets p closes. -/
def closeWhere (p : Session → Bool) (reason : Nat) (s : State) : State :=
  forEach sessionIds (fun k s =>
    if s.net.sessions.any (fun q => q.1 == k && p q.2) then closeSession k reason s else s) s

/-- A unit that is not ACTIVE keeps no session that was opened through SHARED_IP (R304). -/
def dropShared (s : State) : State :=
  if s.pair.role == .active then s else closeWhere (fun x => x.src.shared) 5 s

/-- The PTP port takes a new content; PTP_STATE tells of a change of PORT_STATE or LOCKED (R342). -/
def setPtp (x : Ptp) (s : State) : State :=
  let s1 := { s with ptp := x }
  if x.state == s.ptp.state && x.locked == s.ptp.locked then s1
  else raise 0x0E03 0 ([BitVec.ofNat 8 x.state.code, BitVec.ofNat 8 (b2n x.locked)] ++ (be 8 x.gmIdentity).drop 2) s1

/-- The port begins to listen: what it knew of masters and offsets is gone. -/
def Ptp.listen (x : Ptp) (now : Nat) : Ptp :=
  { x with state := .listening, foreign := [], parent := none, announceAt := now, recent := [], syncAt := none, delayReqAt := none }

/-- A unit that is not ACTIVE or SINGLE keeps its PTP port in LISTENING (R331). -/
def ptpFollow (s : State) : State :=
  if s.inControl then s
  else match s.ptp.state with
    | .initializing => s
    | .disabled => s
    | .listening => s
    | _ => setPtp (s.ptp.listen s.clk.core) s

end Sys2Proof.Machine
end

