-- ==== Sys2Proof/Machine/Flags.lean ====
section
/-! DEFINITION. The flags the block shows the host: level conditions, the interrupt controller's deliverability and its
signals (R351-R358). -/

namespace Sys2Proof.Machine

/-- The condition of a level source as it stands (R178, R407, R440). -/
def State.levelNow (s : State) (src : Nat) : Bool :=
  if src = 47 then s.gateHolds
  else if src = 180 then s.arc.pfail
  else if src = 248 then s.sys.latch
  else false

/-- The source's pending bit as it reads: a level source's is its condition while it is not in service (R350). -/
def Ic.pendingBit (ic : Ic) (src : Nat) : Bool :=
  if irqLevel src then tget false ic.level src && !tget false ic.serving src
  else tget false ic.pending src

/-- The stack of target t, top first. -/
def Ic.stackOf (ic : Ic) (t : Nat) : List (Nat × Nat) := tget [] ic.stack t

/-- Priority at the top of t's stack, 0 when empty. -/
def Ic.topPrio (ic : Ic) (t : Nat) : Nat :=
  match ic.stackOf t with
  | [] => 0
  | x :: _ => x.2

/-- The source is in service on some target. -/
def Ic.inService (ic : Ic) (src : Nat) : Bool := tget false ic.serving src

/-- The source is enabled on target t. -/
def Ic.enabled (ic : Ic) (t src : Nat) : Bool := tget false ic.enable (t * 256 + src)

/-- The source is deliverable to target t (R351). -/
def Ic.deliverable (ic : Ic) (t src : Nat) : Bool :=
  ic.pendingBit src && ic.enabled t src && !ic.inService src && ic.topPrio t < tget 0 ic.prio src

/-- The signal condition of target t (R352). -/
def Ic.condition (ic : Ic) (t : Nat) : Bool := (List.range 256).any (fun src => ic.deliverable t src)

/-- The engine may send a memory request (R345). -/
def State.mayMaster (s : State) : Bool := s.host.bme && !s.host.d3hot && bitOf s.sys.straps 2

/-- MSI-X vector v is masked: by its own bit, by the function's, or by MSI-X Enable 0 (PCIe Base; that a disabled function holds
its messages as a masked one does is PRESUMED, log entry 69). -/
def HostPort.vectorMasked (h : HostPort) (v : Nat) : Bool := (tget {} h.msix v : MsixEntry).mask || h.msixMask || !h.msixOn

/-- MSI-X vector v is sent, or its PBA bit set while it is masked or the engine may send no request (R343, R345, R352). -/
def sendVector (v : Nat) (s : State) : State :=
  let e := tget {} s.host.msix v
  if s.host.vectorMasked v || !s.mayMaster then { s with host := { s.host with pba := setBit s.host.pba v true } }
  else emit (.msix v) (emit (.hostWrite e.addr (le 4 e.data)) s)

/-- Target t's signal condition is evaluated: its becoming true sends vector t, and wakes the host (R345); a PBA bit of vector t does
not outlast the condition (R352; that this holds too for a bit set while the engine might send no request is DEDUCED, log entry 69). -/
def signalTarget (t : Nat) (s : State) : State :=
  let c := s.ic.condition t
  let was := tget false s.ic.signal t
  let s1 := { s with ic := { s.ic with signal := tset s.ic.signal t c } }
  if c && !was then
    let s2 := sendVector t s1
    if (s.host.d3hot || s.host.l2) && s.host.pmeEn then { s2 with host := { s2.host with wake := true } } else s2
  else if !c && bitOf s1.host.pba t then { s1 with host := { s1.host with pba := setBit s1.host.pba t false } }
  else s1

/-- The level conditions as they stand now enter the controller. -/
def sampleLevels (s : State) : State :=
  { s with ic := { s.ic with
      level := tset (tset (tset s.ic.level 47 (s.levelNow 47)) 180 (s.levelNow 180)) 248 (s.levelNow 248) } }

/-- IRQ_N follows target 0 with IRQ_PIN_EN (R352); released in BOOT and with the host port disabled (R423, R414). -/
def driveIrqPin (s : State) : State :=
  { s with ic := { s.ic with
      irqN := s.ic.pinEn && s.ic.condition 0 && s.sys.mode != .boot && bitOf s.sys.straps 2 } }

/-- The unit drives the shared outputs: out of BOOT, and ACTIVE where it is one of a pair (R275). -/
def State.drivesShared (s : State) : Bool := s.sys.mode != .boot && s.inControl

/-- SAFE_N as the unit leaves it: asserted while the SAFE latch is set, while a gate holds firing, in BOOT and TEST, and
while the unit does not drive it (R175, R275). -/
def State.safeNow (s : State) : Bool := !s.drivesShared || s.sys.mode == .test || s.sys.latch || s.gateHolds

/-- LMP_BLANK_N as the unit leaves it: low in BOOT, TEST and IDLE, while the SAFE latch is set, and while the unit does not
drive it (R265, R275). -/
def State.blankNow (s : State) : Bool :=
  !s.drivesShared || s.sys.mode == .test || s.sys.mode == .idle || s.sys.latch

/-- A unit that begins to drive the shared outputs drives the pulses that run on its compare outputs (R275). -/
def drivePulses (s : State) : State :=
  if s.drivesShared && !s.sys.driving then
    forEach (List.range 8) (fun m s =>
      if tget false s.pulses m && s.val (0x20A0 + m) 1 == 0 then emit (.pulse m (!s.flag (0x20A0 + m) 2)) s else s) s
  else s

/-- The shared outputs follow the mode and the role; SAFE_N and LMP_BLANK_N follow the latch and the gates too. -/
def drivePins (s : State) : State :=
  let s1 := drivePulses s
  { s1 with sys := { s1.sys with safeN := s.safeNow, lampBlank := s.blankNow, driving := s.drivesShared } }

/-- The active tells its peer of a change of its SAFE causes, which the standby takes as mirrored state (R283). A clear goes
as the mirrored SAFE_CLEAR. -/
def tellCauses (s : State) : State :=
  if s.pair.role == .active && s.sys.causes != s.pair.causesTold then
    let s1 := { s with pair := { s.pair with causesTold := s.sys.causes } }
    if s.sys.causes = 0 then s1 else mirrorEntry 0x1100 7 (le 4 s.sys.causes) s1
  else s

/-- The interrupt controller's view of the block: level sources, the targets' signals, IRQ_N. -/
def settleIrq (s : State) : State :=
  driveIrqPin (signalTarget 3 (signalTarget 2 (signalTarget 1 (signalTarget 0 (sampleLevels s)))))

/-- The line clock and the emulated encoders as they stand; the position at t_a comes from the edge history (R284). -/
def State.clockValues (s : State) : AlignValues :=
  let e := fun i => tget ({} : Emu) s.emus i
  { position := 0, tick := BitVec.ofNat 32 s.lc.lastTick, hwm := s.lc.hwm, bInt := s.lc.bInt
    bFrac := BitVec.ofNat 32 s.lc.bFrac, acc0 := (e 0).acc, out0 := (e 0).out, acc1 := (e 1).acc, out1 := (e 1).out }

/-- Until t_a has come, what the unit would find at it is what stands now (R284). -/
def holdAlign (s : State) : State :=
  match s.pair.alignDue with
  | none => s
  | some ta => if s.now ≤ ta then { s with pair := { s.pair with alignHeld := some s.clockValues } } else s

/-- What the block re-evaluates after every command: the lanes down, the probe queues, the forced move to IDLE, tables that a swap still
held, the colour loops, a suspended sweep, sessions through SHARED_IP and the PTP port of a unit not in control, what the peer knows, the pins,
the interrupt controller. -/
def settle (s : State) : State :=
  let s1 := followLoops (releaseSwaps (forceIdle (drainProbes (holdAlign (watchLanes s)))))
  settleIrq (drivePins (tellCauses (ptpFollow (dropShared (resumeSweep s1.gateHolds s1)))))

/-- The host port answers: it is enabled by its strap, and no self-test holds it in reset (R414, R443). -/
def State.portOn (s : State) : Bool := bitOf s.sys.straps 2 && s.sys.mode != .test

/-- An access of the host over the port has its effect while the port answers. -/
def onBar (f : State → State) (s : State) : State := if s.portOn then f s else s

/-- The outcome of a meaning: its effect, with the block settled. -/
def next (s : State) : Host.Outcome State Fault Refusal := .next (settle s)

end Sys2Proof.Machine
end

