-- ==== Sys2Proof/Machine/Interrupts.lean ====
section
/-! DEFINITION. The commands of the interrupt controller (R351-R359). -/

namespace Sys2Proof.Machine

/-- A fault of R355 is recorded: IC_FAULT holds the first, STACK_FAULT is raised, and in normal service vector 4 sent. -/
def stackFault (t kind offered : Nat) (s : State) : State :=
  let st := s.ic.stackOf t
  let expected := (st.head?.map (·.1)).getD 0
  let ic1 :=
    if s.ic.fValid then { s.ic with fOverrun := true }
    else { s.ic with fValid := true, fTarget := t, fKind := kind, fEmpty := st.isEmpty, fOffered := offered, fExpected := expected }
  let s1 := raise 0x0F01 2
    [BitVec.ofNat 8 t, BitVec.ofNat 8 kind, BitVec.ofNat 8 expected, BitVec.ofNat 8 offered, BitVec.ofNat 8 (b2n s.ic.bringup), BitVec.ofNat 8 (b2n st.isEmpty)]
    { s with ic := ic1 }
  if s.ic.bringup then s1 else sendVector 4 s1

/-- Target t is evaluated afresh, so that a condition that holds counts as becoming true (R352). -/
def resignal (t : Nat) (s : State) : State := { s with ic := { s.ic with signal := tset s.ic.signal t false } }

/-- The source is pushed on t's stack and is in service; an edge source's pending bit clears (R353). -/
def claimPush (t src : Nat) (s : State) : State :=
  let ic := s.ic
  { s with ic := { ic with
      stack := tset ic.stack t ((src, tget 0 ic.prio src) :: ic.stackOf t)
      pending := if irqLevel src then ic.pending else tset ic.pending src false
      serving := tset ic.serving src true } }

/-- The source is in service on a target other than t. -/
def Ic.servedElsewhere (ic : Ic) (t src : Nat) : Bool :=
  (List.range 4).any (fun u => u != t && (ic.stackOf u).any (fun e => e.1 == src))

/-- A write of IC_CLAIMt (R353, R355, R356), after which a condition that holds signals again (R352). The CLAIM of an enabled source
in service on another target is of kind 4 even where it is not pending, as a level source in service is not (DEDUCED, log entry
47). -/
def doIcClaim (t src : Nat) (s : State) : State :=
  let ic := s.ic
  let priority := if ic.bringup && (ic.stackOf t).length < 16 then claimPush t src (stackFault t 4 src s) else stackFault t 4 src s
  resignal t
    (if ic.enabled t src && ic.inService src && ic.servedElsewhere t src then priority
    else if !(ic.enabled t src) || !(ic.pendingBit src) then stackFault t 3 src s
    else if ic.inService src || tget 0 ic.prio src ≤ ic.topPrio t then priority
    else if 16 ≤ (ic.stackOf t).length then stackFault t 5 src s
    else claimPush t src s)

/-- The service of a source ends: a level source pends again if asserted, or counts in IC_VANISHEDt (R354). -/
def endService (t src : Nat) (s : State) : State :=
  let ic1 := { s.ic with serving := tset s.ic.serving src false }
  if irqLevel src && !(s.levelNow src) then
    { s with ic := { ic1 with vanished := tset ic1.vanished t (satAdd 32 (tget 0 ic1.vanished t) 1) } }
  else { s with ic := ic1 }

/-- A write of IC_COMPLETEt (R354-R356), after which a condition that holds signals again (R352). -/
def doIcComplete (t src : Nat) (s : State) : State :=
  resignal t
    (match s.ic.stackOf t with
    | [] => stackFault t 2 src s
    | (top, _) :: rest =>
      if top = src then endService t src { s with ic := { s.ic with stack := tset s.ic.stack t rest } }
      else if s.ic.bringup then
        let s1 := stackFault t 1 src s
        let s2 := endService t top { s1 with ic := { s1.ic with stack := tset s1.ic.stack t rest } }
        { s2 with ic := { s2.ic with serving := tset s2.ic.serving src false } }
      else stackFault t 1 src s)

/-- A write of IC_PENDi: ones clear edge pending bits (R359). -/
def doIcPendClear (i : Nat) (v : Nat) (s : State) : State :=
  forEach (onesOf 32 v) (fun j s =>
    let src := 32 * i + j
    if irqLevel src then s else { s with ic := { s.ic with pending := tset s.ic.pending src false } }) s

/-- IC_CLAIMt. -/
def execIcClaim (dt : Nat) (t : Fin 4) (v : BitVec 32) (s : State) : Host.Outcome State Fault Refusal :=
  next (onBar (doIcClaim t.val (v.toNat % 256)) (sampleLevels (advance dt s)))

/-- IC_COMPLETEt. -/
def execIcComplete (dt : Nat) (t : Fin 4) (v : BitVec 32) (s : State) : Host.Outcome State Fault Refusal :=
  next (onBar (doIcComplete t.val (v.toNat % 256)) (sampleLevels (advance dt s)))

/-- IC_PENDi written. -/
def execIcPendClear (dt : Nat) (i : Fin 8) (v : BitVec 32) (s : State) : Host.Outcome State Fault Refusal :=
  next (onBar (doIcPendClear i.val v.toNat) (advance dt s))

/-- A read of IC_VANISHEDt returns and clears the count (R359). -/
def icVanished (t : Nat) (s : State) : State :=
  emit (.readData (some (le 4 (tget 0 s.ic.vanished t)))) { s with ic := { s.ic with vanished := tset s.ic.vanished t 0 } }

/-- IC_VANISHEDt read. -/
def execIcVanishedRead (dt : Nat) (t : Fin 4) (s : State) : Host.Outcome State Fault Refusal :=
  next (onBar (icVanished t.val) (advance dt s))

/-- A write of IC_FAULT: a one at VALID or OVERRUN clears that bit (R359). -/
def icFaultClear (v : Nat) (s : State) : State :=
  { s with ic := { s.ic with fValid := s.ic.fValid && !(bitOf v 31), fOverrun := s.ic.fOverrun && !(bitOf v 30) } }

/-- IC_FAULT written. -/
def execIcFaultClear (dt : Nat) (v : BitVec 32) (s : State) : Host.Outcome State Fault Refusal :=
  next (onBar (icFaultClear v.toNat) (advance dt s))

/-- A write of IC_CFG: MODE and IRQ_PIN_EN; stacks, pending bits and IC_FAULT stand (R357). -/
def icMode (v : Nat) (s : State) : State := { s with ic := { s.ic with bringup := bitOf v 0, pinEn := bitOf v 5 } }

/-- IC_CFG written. -/
def execIcModeWrite (dt : Nat) (v : BitVec 32) (s : State) : Host.Outcome State Fault Refusal :=
  next (onBar (icMode v.toNat) (advance dt s))

/-- T after source `n`'s coalescing window opened its pending bit sets and the count empties (R358). -/
def closeWindow (n : Nat) (s : State) : State :=
  if tget 0 s.ic.count n ≠ 0 ∧ tget 0 s.ic.window n + usCk (tget 0xFFFF s.ic.coalT n) ≤ s.clk.core then
    { s with ic := { s.ic with pending := tset s.ic.pending n true, count := tset s.ic.count n 0 } }
  else s

/-- T after a coalescing window opens, the source's pending bit sets (R358). -/
def execCoalesceTimeout (dt : Nat) (src : Fin 256) (s : State) : Host.Outcome State Fault Refusal :=
  next (closeWindow src.val (advance dt s))

end Sys2Proof.Machine
end

