-- ==== Sys2Proof/Machine/Crc.lean ====
section
/-! DEFINITION. The CRC unit and the CRC streams of the rings (R362-R366). -/

namespace Sys2Proof.Machine

/-- Channel n. -/
def State.crcCh (s : State) (n : Nat) : CrcCh := tget {} s.crc n

/-- Channel n takes a value. -/
def setCrc (n : Nat) (c : CrcCh) (s : State) : State := { s with crc := tset s.crc n c }

/-- Whether the ring a STREAM channel binds is enabled. -/
def State.crcRingOn (s : State) (c : CrcCh) : Bool :=
  if c.egress then (tget {} s.res.egressRegs c.ring).enable else (tget {} s.res.accession c.ring).enable

/-- The channel's configuration is frozen: it is bound to an enabled ring (R364). -/
def State.crcFrozen (s : State) (c : CrcCh) : Bool := c.mode == 2 && s.crcRingOn c

/-- The channel bound to a ring, if any (R364). -/
def State.crcBound (s : State) (egress : Bool) (ring : Nat) : Option Nat :=
  (List.range 16).find? (fun n => let c := s.crcCh n; c.mode == 2 && c.egress == egress && c.ring == ring)

/-- The channel's algorithm. -/
def CrcCh.algorithm (c : CrcCh) : CrcAlgo := CrcAlgo.ofCode c.algo

/-- CRC_RESn: CRC_VALn after the final XOR (R362). -/
def CrcCh.res (c : CrcCh) : Nat := c.val ^^^ c.algorithm.finalXor

/-- Value width in bytes (R364). -/
def CrcCh.bytes (c : CrcCh) : Nat := c.algorithm.width / 8

/-- CRC_CFGn as it reads. -/
def CrcCh.cfgWord (c : CrcCh) : Nat :=
  c.algo + 16 * c.mode + 4096 * c.ring + 16384 * b2n c.egress + 2147483648 * b2n c.conflict

/-- A write of CRC_CFGn (R363, R364): fields, a reload where ALGO or MODE changes, and a STREAM binding or its conflict. -/
def crcCfg (n v : Nat) (s : State) : State :=
  let c := s.crcCh n
  if s.crcFrozen c then s
  else
    let algo := field v 1 0
    let wanted := if field v 5 4 = 3 then c.mode else field v 5 4
    let ring := field v 13 12
    let eg := bitOf v 14
    let taken := wanted == 2 && (s.crcBound eg ring).any (fun m => m != n)
    let mode := if taken then 0 else wanted
    let conflict := if wanted = 2 then taken else c.conflict
    let reload := algo != c.algo || mode != c.mode || bitOf v 16
    setCrc n { c with
      algo := algo, mode := mode, ring := ring, egress := eg, conflict := conflict
      val := if reload then (CrcAlgo.ofCode algo).initial else c.val } s

/-- CRC_VALn written (R362): bits above the width are ignored. -/
def crcVal (n v : Nat) (s : State) : State :=
  let c := s.crcCh n
  if s.crcFrozen c then s else setCrc n { c with val := v % 2 ^ c.algorithm.width } s

/-- CRC_ALIVEn written (R362, R365): setting EN makes the next container set LAST. -/
def crcAlive (n v : Nat) (s : State) : State :=
  let c := s.crcCh n
  setCrc n { c with
    aliveEn := bitOf v 31, offset := v % 65536
    lastSet := if bitOf v 31 && !c.aliveEn then false else c.lastSet } s

/-- CRC_STATn as it reads. -/
def CrcCh.statWord (c : CrcCh) : Nat := c.mismatches + 65536 * c.repeats + 16777216 * c.skips

/-- The channel's Catalogue defaults loaded (R366). -/
def crcDefault (n : Nat) (s : State) : State :=
  let cfg := s.val (0x9800 + n) 1
  let al := s.val (0x9800 + n) 2
  setCrc n { algo := field cfg 1 0, mode := field cfg 5 4, ring := field cfg 13 12, egress := bitOf cfg 14
             val := (CrcAlgo.ofCode (field cfg 1 0)).initial
             aliveEn := bitOf al 31, offset := al % 65536 } s

/-- Every channel's defaults loaded, in channel order: a later STREAM default for a ring already bound conflicts (R364, R366). -/
def crcDefaults (s : State) : State :=
  forEach (List.range 16) (fun n s =>
    let c := (crcDefault n s).crcCh n
    if c.mode == 2 && ((List.range n).any (fun m => let d := s.crcCh m; d.mode == 2 && d.egress == c.egress && d.ring == c.ring))
    then setCrc n { c with mode := 0, conflict := true } s
    else setCrc n c s) { s with crc := [] }

/-- Bytes written to CRC_DATAn feed a channel in command mode (R363). -/
def crcData (n : Nat) (bs : Bytes) (s : State) : State :=
  let c := s.crcCh n
  if c.mode = 1 then setCrc n { c with val := crcFeed c.algorithm c.val bs } s else s

/-- CRC_DATAn: in SOFT mode the bytes are fed in ascending order; in any other mode the write is discarded (R363). -/
def execCrcData (dt : Nat) (n : Fin 16) (bs : Bytes) (s : State) : Host.Outcome State Fault Refusal :=
  next (onBar (crcData n.val bs) (advance dt s))

/-- INIT of CRC_CFGn loads ALGO's initial value (R362); the write carries the rest of the register too. -/
def execCrcInit (dt : Nat) (n : Fin 16) (v : BitVec 32) (s : State) : Host.Outcome State Fault Refusal :=
  next (onBar (crcCfg n.val (setBit v.toNat 16 true)) (advance dt s))

/-- CRC_CFGn written (R363, R364). -/
def execCrcCfgWrite (dt : Nat) (n : Fin 16) (v : BitVec 32) (s : State) : Host.Outcome State Fault Refusal :=
  next (onBar (crcCfg n.val v.toNat) (advance dt s))

/-- CRC_STATn is returned, then cleared (R362). -/
def crcStat (n : Nat) (s : State) : State :=
  let c := s.crcCh n
  emit (.readData (some (le 4 c.statWord))) (setCrc n { c with skips := 0, repeats := 0, mismatches := 0 } s)

/-- CRC_STATn read. -/
def execCrcStatRead (dt : Nat) (n : Fin 16) (s : State) : Host.Outcome State Fault Refusal :=
  next (onBar (crcStat n.val) (advance dt s))

end Sys2Proof.Machine
end

