-- ==== Sys2Proof/Machine/Inflate.lean ====
section
/-! DEFINITION. Raw DEFLATE (RFC 1951) as an inflate unit decodes it (R101). -/

namespace Sys2Proof.Machine

/-- The bits of a stream, each byte from its least significant bit. -/
def bitStream (bs : Bytes) : List Bool :=
  (bs.foldl (fun acc b => (List.range 8).foldl (fun a i => bitOf b.toNat i :: a) acc) []).reverse

/-- n bits from the front, least significant first, and the rest; none where the stream ends first. -/
def takeBits : Nat → List Bool → Option (Nat × List Bool)
  | 0, bits => some (0, bits)
  | _ + 1, [] => none
  | n + 1, b :: bits => (takeBits n bits).map (fun r => (b2n b + 2 * r.1, r.2))

/-- How many symbols of a code have length n. -/
def lenCount (lens : List Nat) (n : Nat) : Nat := lens.countP (fun l => l == n)

/-- The k-th symbol of length n. -/
def symbolOf (lens : List Nat) (n k : Nat) : Nat := ((lens.zipIdx.filter (fun l => l.1 == n)).getD k (0, 0)).2

/-- Decodes one symbol of the code with these lengths: n is the length tried, code the bits so far, first the first code of
that length. -/
def decodeFrom (lens : List Nat) : List Bool → Nat → Nat → Nat → Nat → Option (Nat × List Bool)
  | _, 0, _, _, _ => none
  | [], _, _, _, _ => none
  | b :: bits, f + 1, n, code, first =>
    let c := code + b2n b
    let m := lenCount lens n
    if c < first + m then some (symbolOf lens n (c - first), bits)
    else decodeFrom lens bits f (n + 1) (2 * c) (2 * (first + m))

/-- The next symbol and the bits after it. -/
def decodeSym (lens : List Nat) (bits : List Bool) : Option (Nat × List Bool) := decodeFrom lens bits 15 1 0 0

/-- 2^15 times the Kraft sum of a set of lengths. -/
def kraft (lens : List Nat) : Nat := sumN (lens.map (fun l => if l = 0 then 0 else 2 ^ (15 - l)))

/-- A complete code. -/
def completeCode (lens : List Nat) : Bool := kraft lens == 32768

/-- A distance code: complete, one code of one bit, or none at all (RFC 1951, 3.2.7). -/
def distanceCode (lens : List Nat) : Bool := completeCode lens || lens.all (fun l => l == 0) || (kraft lens == 16384 && lenCount lens 1 == 1)

/-- Base and extra bits of the length symbols 257-285. -/
def lengthBase : List (Nat × Nat) :=
  [(3, 0), (4, 0), (5, 0), (6, 0), (7, 0), (8, 0), (9, 0), (10, 0), (11, 1), (13, 1), (15, 1), (17, 1), (19, 2), (23, 2), (27, 2),
   (31, 2), (35, 3), (43, 3), (51, 3), (59, 3), (67, 4), (83, 4), (99, 4), (115, 4), (131, 5), (163, 5), (195, 5), (227, 5), (258, 0)]

/-- Base and extra bits of the distance symbols 0-29. -/
def distanceBase : List (Nat × Nat) :=
  [(1, 0), (2, 0), (3, 0), (4, 0), (5, 1), (7, 1), (9, 2), (13, 2), (17, 3), (25, 3), (33, 4), (49, 4), (65, 5), (97, 5), (129, 6),
   (193, 6), (257, 7), (385, 7), (513, 8), (769, 8), (1025, 9), (1537, 9), (2049, 10), (3073, 10), (4097, 11), (6145, 11),
   (8193, 12), (12289, 12), (16385, 13), (24577, 13)]

/-- How far an inflation has come: the bits not yet read, and the output so far, newest byte first, with its length. -/
structure Inflated where
  bits : List Bool
  out : Bytes
  len : Nat
  deriving DecidableEq, Repr

/-- n bytes copied from a distance back. -/
def copyBack (dist n : Nat) (out : Bytes) : Bytes :=
  let back := (out.take dist).reverse
  ((List.replicate (n / dist + 1) back).flatten.take n).reverse ++ out

/-- The symbols of a block up to its end, with at most limit bytes of output. -/
def inflateCodes (lit dist : List Nat) (limit : Nat) : Nat → Inflated → Option Inflated
  | 0, _ => none
  | f + 1, x =>
    match decodeSym lit x.bits with
    | none => none
    | some (sym, r) =>
      if sym = 256 then some { x with bits := r }
      else if sym < 256 then
        if limit ≤ x.len then none else inflateCodes lit dist limit f ⟨r, BitVec.ofNat 8 sym :: x.out, x.len + 1⟩
      else
        match lengthBase[sym - 257]? with
        | none => none
        | some (base, extra) =>
          match takeBits extra r with
          | none => none
          | some (le_, r1) =>
            match decodeSym dist r1 with
            | none => none
            | some (ds, r2) =>
              match distanceBase[ds]? with
              | none => none
              | some (dbase, dextra) =>
                match takeBits dextra r2 with
                | none => none
                | some (de, r3) =>
                  let n := base + le_
                  let d := dbase + de
                  if x.len < d ∨ limit < x.len + n then none
                  else inflateCodes lit dist limit f ⟨r3, copyBack d n x.out, x.len + n⟩

/-- Lengths of the code-length code, in the order RFC 1951 sends them. -/
def lengthOrder : List Nat := [16, 17, 18, 0, 8, 7, 9, 6, 10, 5, 11, 4, 12, 3, 13, 2, 14, 1, 15]

/-- The code lengths of a dynamic block, n in all, decoded from the bits. -/
def readLengths (cl : List Nat) (n : Nat) : Nat → List Bool → List Nat → Option (List Nat × List Bool)
  | 0, _, _ => none
  | f + 1, bits, got =>
    if n = got.length then some (got, bits)
    else
      match decodeSym cl bits with
      | none => none
      | some (sym, r) =>
        let rep (v base extra : Nat) : Option (List Nat × List Bool) :=
          match takeBits extra r with
          | none => none
          | some (e, r1) =>
            if n < got.length + base + e then none else readLengths cl n f r1 (got ++ List.replicate (base + e) v)
        if sym < 16 then readLengths cl n f r (got ++ [sym])
        else if sym = 16 then
          match got.getLast? with
          | none => none
          | some v => rep v 3 2
        else if sym = 17 then rep 0 3 3
        else rep 0 11 7

/-- n three-bit numbers. -/
def takeTriples : Nat → List Bool → Option (List Nat × List Bool)
  | 0, bits => some ([], bits)
  | n + 1, bits =>
    match takeBits 3 bits with
    | none => none
    | some (v, r) => (takeTriples n r).map (fun x => (v :: x.1, x.2))

/-- The literal/length and distance codes of a dynamic block, its header next, and the bits after it. -/
def dynamicCodes (bits : List Bool) : Option (List Nat × List Nat × List Bool) :=
  match takeBits 14 bits with
  | none => none
  | some (h, r) =>
    let nlit := 257 + h % 32
    let ndist := 1 + h / 32 % 32
    let ncl := 4 + h / 1024
    match takeTriples ncl r with
    | none => none
    | some (ts, r1) =>
      let cl := (List.range 19).map (fun s =>
        match lengthOrder.findIdx? (fun o => o == s) with
        | some i => ts.getD i 0
        | none => 0)
      if decide (286 < nlit) || !completeCode cl then none
      else
        match readLengths cl (nlit + ndist) (nlit + ndist + 1) r1 [] with
        | none => none
        | some (ls, r2) =>
          let lit := ls.take nlit
          let dist := ls.drop nlit
          if completeCode lit && distanceCode dist then some (lit, dist, r2) else none

/-- The fixed codes. -/
def fixedLit : List Nat := List.replicate 144 8 ++ List.replicate 112 9 ++ List.replicate 24 7 ++ List.replicate 8 8

/-- n bytes from the bits, the last one first, before out. -/
def takeBytes : Nat → List Bool → Bytes → Option (Bytes × List Bool)
  | 0, bits, out => some (out, bits)
  | n + 1, bits, out =>
    match takeBits 8 bits with
    | none => none
    | some (b, r) => takeBytes n r (BitVec.ofNat 8 b :: out)

/-- A stored block after its header bits: what is left of their byte is skipped. -/
def inflateStored (limit : Nat) (x : Inflated) : Option Inflated :=
  match takeBits 32 (x.bits.drop (x.bits.length % 8)) with
  | none => none
  | some (h, r) =>
    let n := h % 65536
    if h / 65536 ≠ 65535 - n ∨ limit < x.len + n then none
    else (takeBytes n r x.out).map (fun y => ⟨y.2, y.1, x.len + n⟩)

/-- Blocks up to the final one. -/
def inflateBlocks (limit fuel : Nat) : Nat → Inflated → Option Inflated
  | 0, _ => none
  | f + 1, x =>
    match takeBits 3 x.bits with
    | none => none
    | some (h, r) =>
      let block := match h / 2 with
        | 0 => inflateStored limit { x with bits := r }
        | 1 => inflateCodes fixedLit (List.replicate 32 5) limit fuel { x with bits := r }
        | 2 =>
          match dynamicCodes r with
          | none => none
          | some (lit, dist, q) => inflateCodes lit dist limit fuel { x with bits := q }
        | _ => none
      match block with
      | none => none
      | some y => if h % 2 = 1 then some y else inflateBlocks limit fuel f y

/-! What a deflate unit writes (R103) -/

/-- The blocks of a stream as a deflate unit emits them: dynamic ones only, each for 65,536 bytes but the last, which alone has
BFINAL. -/
def dynamicBlocks (limit fuel : Nat) : Nat → Inflated → Option Inflated
  | 0, _ => none
  | f + 1, x =>
    match takeBits 3 x.bits with
    | none => none
    | some (h, r) =>
      match dynamicCodes r with
      | none => none
      | some (lit, dist, q) =>
        match inflateCodes lit dist limit fuel { x with bits := q } with
        | none => none
        | some y =>
          if h / 2 ≠ 2 ∨ y.len ≠ min limit (x.len + 65536) ∨ decide (h % 2 = 1) ≠ decide (y.len = limit) then none
          else if h % 2 = 1 then some y else dynamicBlocks limit fuel f y

/-- The stream is one a deflate unit may emit for these bytes. No match of RFC 1951 reaches back beyond 32 KiB. -/
def emits (orig out : Bytes) : Bool :=
  match dynamicBlocks orig.length (8 * out.length + 1) (8 * out.length + 1) ⟨bitStream out, [], 0⟩ with
  | none => false
  | some y => decide (y.bits.length < 8) && y.out.reverse == orig

/-- n bits of a number, the most significant first, as a code goes into the stream; and the least significant first. -/
def codeBits (n v : Nat) : List Bool := ((List.range n).map (bitOf v)).reverse
def fieldBits (n v : Nat) : List Bool := (List.range n).map (bitOf v)

/-- The bits in bytes, the last byte filled up with zeros. -/
def packBits : Nat → List Bool → Bytes
  | 0, _ => []
  | n + 1, bits => BitVec.ofNat 8 (sumN ((bits.take 8).zipIdx.map (fun p => b2n p.1 * 2 ^ p.2))) :: packBits n (bits.drop 8)

/-- One dynamic block of literals: 255 codes of 8 bits, those of byte 255 and of the block's end with 9, no distance code. -/
def literalBlock (last : Bool) (bs : Bytes) : List Bool :=
  let head := [last, false, true] ++ fieldBits 14 3072
  let cl := [0, 0, 0, 2, 1, 0, 2].flatMap (fieldBits 3)
  let lens := List.replicate 255 false ++ [true, true, true, true, true, false]
  head ++ cl ++ lens ++ bs.flatMap (fun b => if b.toNat = 255 then codeBits 9 510 else codeBits 8 b.toNat) ++ codeBits 9 511

/-- The blocks of n times 65,536 bytes at most. -/
def literalBlocks : Nat → Bytes → List Bool
  | 0, _ => []
  | n + 1, bs =>
    let last := decide (bs.length ≤ 65536)
    literalBlock last (bs.take 65536) ++ (if last then [] else literalBlocks n (bs.drop 65536))

/-- The literals of bs without any match. -/
def literalStream (bs : Bytes) : Bytes :=
  let bits := literalBlocks (bs.length / 65536 + 1) bs
  packBits ((bits.length + 7) / 8) bits

/-- What a deflate unit writes for these bytes: the stream left open, held to R103. The literals alone stand in where the free
value is no such stream. -/
def deflated (level : Nat) (orig : Bytes) : Bytes :=
  if emits orig (Config.deflate level orig) then Config.deflate level orig else literalStream orig

/-- What a raw stream inflates to, at most limit bytes; none where the stream fails (R101). -/
def inflate (bs : Bytes) (limit : Nat) : Option Bytes :=
  match inflateBlocks limit (8 * bs.length + 1) (8 * bs.length + 1) ⟨bitStream bs, [], 0⟩ with
  | none => none
  | some y => if y.bits.length < 8 then some y.out.reverse else none

end Sys2Proof.Machine
end

