-- ==== Sys2Proof/Machine/Compose.lean ====
section
/-! DEFINITION. Hanging plans as read, and the composition of a line (R111-R120). -/

namespace Sys2Proof.Machine

/-! A plan's fields -/

/-- A placement record (R114). -/
structure Placement where
  kind   : Nat
  blend  : Nat
  z      : Nat
  grid   : Bool
  source : Nat
  value  : Nat
  column : Nat
  line   : Nat
  width  : Nat
  height : Nat
  acrossCount : Nat
  acrossStep  : Nat
  downStep    : Nat
  deriving DecidableEq, Repr

/-- A plane record (R114). -/
structure Plane where
  sx    : Nat
  sy    : Nat
  input : Nat
  background : Nat
  places : List Placement
  deriving DecidableEq, Repr

/-- The placement record at offset o of a plan. -/
def placementAt (bs : Bytes) (o : Nat) : Placement :=
  { kind := byteAt bs o, blend := byteAt bs (o + 1), z := byteAt bs (o + 2), grid := bitOf (byteAt bs (o + 3)) 0
    source := leAt bs (o + 4) 4, value := byteAt bs (o + 8), column := leAt bs (o + 12) 4, line := leAt bs (o + 16) 4
    width := leAt bs (o + 20) 4, height := leAt bs (o + 24) 4, acrossCount := leAt bs (o + 28) 2
    acrossStep := leAt bs (o + 30) 2, downStep := leAt bs (o + 32) 4 }

/-- The plane record at offset o. -/
def planeAt (bs : Bytes) (o : Nat) : Plane :=
  { sx := byteAt bs (o + 2), sy := byteAt bs (o + 3), input := byteAt bs (o + 4), background := byteAt bs (o + 5)
    places := (List.range (leAt bs o 2)).map (fun q => placementAt bs (o + 16 + 40 * q)) }

/-- Header fields of a plan's bytes (R113). -/
def planEndless (bs : Bytes) : Bool := bitOf (leAt bs 6 2) 0
/-- EXTENT. -/
def planExtent (bs : Bytes) : Nat := leAt bs 8 4
/-- REPEAT_PITCH. -/
def planPitch (bs : Bytes) : Nat := leAt bs 12 4
/-- ACROSS. -/
def planAcross (bs : Bytes) : Nat := leAt bs 16 2
/-- ACROSS_PITCH. -/
def planCellPitch (bs : Bytes) : Nat := leAt bs 20 4
/-- ACROSS_ORIGIN. -/
def planOrigin (bs : Bytes) : Nat := leAt bs 24 4
/-- PLANE_OFFSET of gallery g. -/
def planOffset (bs : Bytes) (g : Nat) : Nat := leAt bs (32 + 4 * g) 4

/-- The plane of gallery g in a plan: a pair's plane is that of gallery 2j (R115). -/
def State.planeOf (s : State) (bs : Bytes) (g : Nat) : Option Plane :=
  let h := if s.paired g then g / 2 * 2 else g
  if planOffset bs h = 0 then none else some (planeAt bs (planOffset bs h))

/-! Governance (R116) -/

/-- Lines from a plan's switch line to line n, modulo 2^32. -/
def Plan.rel (p : Plan) (n : Nat) : Nat := usg 32 ((n : Int) - p.switch)

/-- The plan of the two live ones with the latest switch line at or before n (R116). -/
def State.governor (s : State) (n : Nat) : Option Plan :=
  match s.plans.armed, s.plans.active with
  | some q, some p =>
    if 0 ≤ serial32 n q.switch then some q else if 0 ≤ serial32 n p.switch then some p else none
  | some q, none => if 0 ≤ serial32 n q.switch then some q else none
  | none, some p => if 0 ≤ serial32 n p.switch then some p else none
  | none, none => none

/-- Whether line n lies beyond the plan's extent (R116). -/
def Plan.past (p : Plan) (n : Nat) : Bool := !planEndless p.bytes && planExtent p.bytes ≤ p.rel n

/-- The plan and plane that govern line n of gallery g, if any (R116). -/
def State.governed (s : State) (g n : Nat) : Option (Plan × Plane) :=
  match s.governor n with
  | none => none
  | some p =>
    if p.past n then none
    else
      match s.planeOf p.bytes g with
      | none => none
      | some pl => some (p, pl)

/-- The instance a print record names: that of cell 0 of the row that holds n (R131). -/
def Plan.rowInstance (p : Plan) (n : Nat) : Nat :=
  (p.base + p.rel n / planPitch p.bytes * planAcross p.bytes) % 2 ^ 32

/-! Rectangles on a line -/

/-- A rectangle that covers line n: its placement, first column, the line within it, and its instance (R117, R120). -/
structure Rect where
  place : Placement
  x0    : Nat
  y     : Nat
  inst  : Nat
  deriving DecidableEq, Repr

/-- The rectangles of a placement on the line rel lines after S, by down copy, then across copy (R114, R117). -/
def Plan.rectsOf (p : Plan) (rel : Nat) (q : Placement) : List Rect :=
  if q.grid then
    let pitch := planPitch p.bytes
    let r := rel / pitch
    let y := rel % pitch
    if q.line ≤ y ∧ y - q.line < q.height then
      (List.range (planAcross p.bytes)).map (fun a =>
        ⟨q, planOrigin p.bytes + a * planCellPitch p.bytes + q.column, y - q.line,
          (p.base + r * planAcross p.bytes + a) % 2 ^ 32⟩)
    else []
  else if rel < q.line then []
  else
    let z := rel - q.line
    let copies :=
      if q.downStep = 0 then (if z < q.height then [0] else [])
      else
        let first := (z + 1 + q.downStep - 1 - min (z + 1) q.height) / q.downStep
        (List.range (z / q.downStep + 1 - first)).map (fun i => first + i)
    copies.flatMap (fun d => (List.range q.acrossCount).map (fun a => ⟨q, q.column + a * q.acrossStep, z - d * q.downStep, 0⟩))

/-- Placements in the order they are applied: ascending by (Z, record order) (R117). -/
def zInsert (q : Placement) : List Placement → List Placement
  | [] => [q]
  | p :: ps => if q.z < p.z then q :: p :: ps else p :: zInsert q ps

/-- A stable sort by Z. -/
def zSort (qs : List Placement) : List Placement := qs.foldl (fun acc q => zInsert q acc) []

/-- Every rectangle on line n, in the order of application. -/
def Plan.rects (p : Plan) (pl : Plane) (n : Nat) : List Rect := (zSort pl.places).flatMap (p.rectsOf (p.rel n))

/-! Samples (R118) -/

/-- The mean of two pixels (R6, R118). -/
def mean2 (a b : Nat) : Nat := (rneDiv (a + b : Nat) 2).toNat

/-- The mean of four pixels, given by two sums of two. -/
def mean4 (ab cd : Nat) : Nat := (rneDiv (ab + cd : Nat) 4).toNat

/-- The right neighbours of a row's pixels: they wrap within a TILE and stop at a caption's last column (R118). -/
def rightOf (wraps : Bool) (a : List Nat) : List Nat :=
  a.drop 1 ++ (if wraps then a.take 1 else a.drop (a.length - 1))

/-- Two lists of one length, an element of each in turn. -/
def interleave : List Nat → List Nat → List Nat
  | a :: as, b :: bs => a :: b :: interleave as bs
  | _, _ => []

/-- The values of a tile's row across the columns it covers once: a is the row of pixels, b the row below it where the line
takes the mean of both (R118). -/
def spread (sx : Nat) (linear wraps : Bool) (a : List Nat) (b : Option (List Nat)) : List Nat :=
  let base := match b with | some bs => List.zipWith mean2 a bs | none => a
  if sx ≤ 1 then base
  else
    let sums (r : List Nat) : List Nat := List.zipWith (fun p q => p + q) r (rightOf wraps r)
    let odd := if linear then (match b with
      | some bs => List.zipWith mean4 (sums a) (sums bs)
      | none => List.zipWith mean2 a (rightOf wraps a)) else base
    interleave base odd

/-- One row of a tile's pixels from a reader of its segment's bytes, bits wide each and packed least significant bit first
on a drop plane (R111, R153). -/
def tilePixels (input : Nat) (m : Nat → Nat → Bytes) (w j : Nat) : List Nat :=
  if input = 0 then (m (16 + j * w) w).map BitVec.toNat
  else
    let bits := byteAt (m 5 1) 0
    let v := ofLe (m (16 + j * ((w * bits + 7) / 8)) ((w * bits + 7) / 8))
    (List.range w).map (fun (i : Nat) => v / 2 ^ (bits * i) % 2 ^ bits)

/-- The values of line y of a rectangle whose tile has the rows px, h of them (R118). -/
def tileLine (sx sy : Nat) (linear wraps : Bool) (h : Nat) (px : Nat → List Nat) (y : Nat) : List Nat :=
  let j := y / sy % h
  let below := if wraps then (j + 1) % h else min (j + 1) (h - 1)
  spread sx linear wraps (px j) (if linear && y % sy == 1 then some (px below) else none)

/-- A reader of the bytes of a TILE placement's segment: the tile cache, or its COMMITTED segment; none where it is in
neither (R111, R119, R153, R385). -/
def State.tileOf (s : State) (cached : List (Nat × Bytes)) (input id : Nat) : Option (Nat → Nat → Bytes) :=
  match cached.find? (fun c => c.1 == id) with
  | some c => some (fun o n => sliceB c.2 o n)
  | none =>
    match s.committed id (if input = 0 then 1 else 2) with
    | none => none
    | some g => some (fun o n => s.resRead (g.offset + o) n)

/-- Row j of the tile of a caption instance on queue q (R112, R121). -/
def State.captionRow (s : State) (q inst j : Nat) : List Nat :=
  let w := s.val (0x6210 + q) 2
  (sliceB (tget [] (s.queue q).tiles inst) (j * w) w).map BitVec.toNat

/-- What a rectangle paints a line with: a fixed value, or a tile's values, over and over. -/
inductive Paint where
  | fixed (v : Nat)
  | tile (vs : List Nat)

/-- What a rectangle paints its line with: none where its segment is gone (R118, R122). -/
def State.paintOf (s : State) (cached : List (Nat × Bytes)) (pl : Plane) (linear : Bool) (r : Rect) : Option Paint :=
  match r.place.kind with
  | 1 =>
    (s.tileOf cached pl.input r.place.source).map (fun m =>
      .tile (tileLine pl.sx pl.sy linear true (leAt (m 12 4) 0 4) (tilePixels pl.input m (leAt (m 8 4) 0 4)) r.y))
  | 2 =>
    if tget false (s.queue r.place.source).decided r.inst then some (.fixed r.place.value)
    else some (.tile (tileLine pl.sx pl.sy linear false (s.val (0x6210 + r.place.source) 3) (s.captionRow r.place.source r.inst) r.y))
  | _ => some (.fixed r.place.value)

/-- One blend (R117). -/
def blend (mode old new : Nat) : Nat :=
  match mode with
  | 0 => new
  | 1 => if new = 0 then old else new
  | 2 => max old new
  | _ => min 255 (old + new)

/-- n values of a paint from column u of its rectangle. -/
def Paint.span (p : Paint) (u n : Nat) : List Nat :=
  match p with
  | .fixed v => List.replicate n v
  | .tile vs =>
    let k := vs.length
    if k = 0 then List.replicate n 0 else (((List.replicate ((u % k + n) / k + 1) vs).flatten).drop (u % k)).take n

/-- A painted rectangle over the columns from start (R117). -/
def paintRow (start : Nat) (out : List Nat) (r : Rect × Paint) : List Nat :=
  let lo := max r.1.x0 start
  let hi := min (r.1.x0 + r.1.place.width) (start + out.length)
  if hi ≤ lo then out
  else
    out.take (lo - start) ++
      (List.zipWith (blend r.1.place.blend) ((out.drop (lo - start)).take (hi - lo)) (r.2.span (lo - r.1.x0) (hi - lo)) ++
        out.drop (hi - start))

/-- The composed values of n columns from start: each painted rectangle, in order, over the background (R117). -/
def composeSpan (pl : Plane) (rs : List (Rect × Paint)) (start n : Nat) : List Nat :=
  rs.foldl (paintRow start) (List.replicate n pl.background)

/-- The rectangles of a line with their paints; none where one of its segments is gone (R385). -/
def State.painted (s : State) (cached : List (Nat × Bytes)) (pl : Plane) (linear : Bool) : List Rect → Option (List (Rect × Paint))
  | [] => some []
  | r :: rs =>
    match s.paintOf cached pl linear r, s.painted cached pl linear rs with
    | some p, some ps => some ((r, p) :: ps)
    | _, _ => none

/-! Instances on a line (R120, R122) -/

/-- The caption instances that line n of a plane composes: queue and instance. -/
def Plan.captionsOn (p : Plan) (pl : Plane) (n : Nat) : List (Nat × Nat) :=
  ((p.rects pl n).filter (fun r => r.place.kind == 2)).map (fun r => (r.place.source, r.inst))

/-- A gallery whose lines lie step web lines apart has none in placement q after line y of a row. -/
def Placement.behind (q : Placement) (step y : Nat) : Bool :=
  decide (q.line + q.height ≤ y + step * max 1 ((q.line - y + step - 1) / step))

/-- Those of which line n is, for a gallery whose lines lie step web lines apart, the last one in any slot of the plane on the
instance's queue (R123). -/
def Plan.captionsEnding (p : Plan) (pl : Plane) (step n : Nat) : List (Nat × Nat) :=
  ((p.rects pl n).filter (fun r => r.place.kind == 2 &&
    pl.places.all (fun q => q.kind != 2 || q.source != r.place.source || q.behind step (r.place.line + r.y)))).map
      (fun r => (r.place.source, r.inst))

end Sys2Proof.Machine
end

