-- ==== Sys2Proof/Machine/Path.lean ====
section
/-! DEFINITION. The nozzle path: linearisation, compensation, retouch, screening, stitch mask, ladders and bay packing
(R134-R154, R234-R236). -/

namespace Sys2Proof.Machine

/-! Nozzle table entries (R135, R136) -/

/-- The reset entry. -/
def resetEntry : Nat := 0x4000 + 0x80 * 2 ^ 40 + 0x80 * 2 ^ 48

/-- Entry n of a table. -/
def NozTable.ent (t : NozTable) (n : Nat) : Nat := tget resetEntry t.entries n

/-- Entry n takes a value; a reset entry is not listed. -/
def NozTable.put (t : NozTable) (n e : Nat) : NozTable :=
  { t with entries := if e = resetEntry then terase t.entries n else tset t.entries n e }

/-- GAIN. -/
def entGain (e : Nat) : Nat := e % 65536
/-- OFFSET. -/
def entOffset (e : Nat) : Int := sgn 16 (e / 65536)
/-- STATE: 0 GOOD, 1 WEAK, 2 MISSING. -/
def entState (e : Nat) : Nat := e / 4294967296 % 4
/-- STITCH. -/
def entStitch (e : Nat) : Bool := e.testBit 34
/-- W_LEFT. -/
def entLeft (e : Nat) : Nat := e / 2 ^ 40 % 256
/-- W_RIGHT. -/
def entRight (e : Nat) : Nat := e / 2 ^ 48 % 256
/-- A malformed entry: STATE 3, or a reserved bit set. -/
def entBad (e : Nat) : Bool := entState e == 3 || e / 2 ^ 35 % 32 != 0 || e / 2 ^ 56 != 0

/-- The entry with GAIN g. -/
def entSetGain (e g : Nat) : Nat := e / 65536 * 65536 + g % 65536
/-- The entry with STATE st and STITCH b. -/
def entSetState (e st : Nat) (b : Bool) : Nat := setBit (e - entState e * 4294967296 + st % 4 * 4294967296) 34 b

/-- The table in force for web line m: while a swap still holds the previous table as the spare, the lines before S_w
read it (R140). -/
def Nozzle.tableFor (z : Nozzle) (m : Nat) : NozTable :=
  match z.swap with
  | some w => if w.done && serial32 m w.line < 0 then z.spare else z.active
  | none => z.active

/-- The table in force for line m has an uncorrectable error, or the threshold array has (R156). -/
def Nozzle.badFor (z : Nozzle) (m : Nat) : Bool :=
  z.arrayBad ||
  match z.swap with
  | some w => if w.done && serial32 m w.line < 0 then z.spareBad else z.tableBad
  | none => z.tableBad

/-! Ladders (R234-R236) -/

/-- LADDER_ROWS, ROW_LINES, LEVEL, EVERY, LINE of a line's settings. -/
def PathSet.lad (y : PathSet) (i : Nat) : Nat := y.ladder.getD i 0

/-- The ladder occurrence that web line m belongs to under a plan, and the line within it. -/
def PathSet.ladderPart (y : PathSet) (p : Plan) (m : Nat) : Option (Nat × Nat) :=
  let rel := p.rel m
  let period := y.lad 3 * planPitch p.bytes
  if !y.ladderOn || p.past m || rel < y.lad 4 || period = 0 then none
  else
    let t := (rel - y.lad 4) % period
    if t < 2 * y.lad 0 * y.lad 1 then some ((rel - y.lad 4) / period, t) else none

/-- The gallery of a pair that prints occurrence q; any gallery otherwise. -/
def State.printsLadder (s : State) (g q : Nat) : Bool := !s.paired g || g % 2 == q % 2

/-- The level of column x of bay k on ladder line t of an occurrence. -/
def PathSet.ladderLevel (y : PathSet) (bits t k x : Nat) : Nat :=
  if t / y.lad 1 = y.lad 0 * (k % 2) + x % y.lad 0 then
    (if y.lad 2 = 0 then 2 ^ bits - 1 else min (y.lad 2) (2 ^ bits - 1))
  else 0

/-! Bays on a line -/

/-- Where a bay's values on its web line come from: nothing, a composed contone line, a composed drop plane, or a ladder. -/
inductive LineSource where
  | blank
  | contone (col : Nat → Nat)
  | bypass (col : Nat → Nat)
  | ladder (level : Nat → Nat)

/-- A populated bay in the frame of a line: its number in the gallery, first column, nozzle count, the web line it
prints, the table in force for that line, and its source (R151, R160). -/
structure PathBay where
  k      : Nat
  start  : Nat
  cnt    : Nat
  line   : Nat
  table  : NozTable
  source : LineSource

/-- COLUMN_START of bay b. -/
def State.colStart (s : State) (b : Nat) : Nat := s.val (0x4000 + b) 2

/-- The bay is inserted by ascending column start. -/
def insertBay (s : State) (b : Nat) : List Nat → List Nat
  | [] => [b]
  | c :: cs => if s.colStart b < s.colStart c then b :: c :: cs else c :: insertBay s b cs

/-- The populated bays of gallery g in order of column start (R149). -/
def State.baysByColumn (s : State) (g : Nat) : List Nat := (s.popBays g).foldl (fun acc b => insertBay s b acc) []

/-- The state with the plans that were live when a line started. -/
def Line.withPlans (y : Line) (s : State) : State :=
  { s with plans := { s.plans with active := y.active, armed := y.armed } }

/-- The source of web line m for bay k of gallery g, n columns from start, in the state s with a line's plans. -/
def State.sourceOf (s : State) (g k : Nat) (y : Line) (m start n : Nat) : LineSource :=
  match s.governed g m with
  | none => .blank
  | some (p, pl) =>
    match (if y.prints then y.set_.ladderPart p m else none) with
    | some (q, t) =>
      .ladder (fun x => if s.printsLadder g q then y.set_.ladderLevel (s.bitsOf g) t k x else 0)
    | none =>
      match s.painted (tget [] p.cached g) pl (s.val (0x3010 + 0x100 * g) 1 == 1) (p.rects pl m) with
      | none => .blank
      | some rs =>
        let vs := composeSpan pl rs start n
        let col (x : Nat) : Nat := vs.getD (x - start) 0
        if pl.input = 0 then .contone col else .bypass col

/-- The populated bays in the frame of a line, in order of column start. -/
def State.pathBays (s : State) (g : Nat) (y : Line) : List PathBay :=
  let s' := y.withPlans s
  (s.baysByColumn g).map (fun b =>
    let m := s.webLine g y.line b
    { k := b % 64, start := s.colStart b, cnt := s.nozzles b, line := m
      table := (s.gal g).noz.tableFor m, source := s'.sourceOf g (b % 64) y m (s.colStart b) (s.nozzles b) })

/-! Stages 1 to 3 (R134, R142-R144) -/

/-- Stage 1: entry c of the tone curve. -/
def linearise (y : PathSet) (c : Nat) : Nat := leAt y.curve (2 * c) 2

/-- The effective gain of an entry (R142). -/
def effectiveGain (y : PathSet) (e : Nat) : Int :=
  if entState e = 1 then min (rne ((entGain e : Int) * (y.boost : Nat)) 14) (y.ceiling : Nat) else (entGain e : Int)

/-- Stage 2: the corrected value of a linearised value (R142). -/
def corrected (y : PathSet) (e v : Nat) : Int :=
  clampI 0 4095 (rne (effectiveGain y e * (v : Int) + entOffset e * 64) 14)

/-- The bay covers press column x. -/
def PathBay.covers (p : PathBay) (x : Nat) : Bool := p.start ≤ x && x < p.start + p.cnt

/-- The entry of nozzle j of the bay in a table. -/
def PathBay.entry (p : PathBay) (t : NozTable) (j : Nat) : Nat := t.ent (2048 * p.k + j)

/-- The adjacent bay that shares press column x with bay p (R149). -/
def partnerOf (ps : List PathBay) (p : PathBay) (x : Nat) : Option PathBay :=
  ps.find? (fun q => q.k != p.k && q.covers x)

/-- A MISSING nozzle whose partner prints its column, judged under one table (R144). -/
def stitchCovered (ps : List PathBay) (t : NozTable) (p : PathBay) (j : Nat) : Bool :=
  entState (p.entry t j) == 2 && entStitch (p.entry t j) &&
  match partnerOf ps p (p.start + j) with
  | none => false
  | some q => entState (q.entry t (p.start + j - q.start)) != 2

/-- vp of nozzle j. -/
def PathBay.vp (y : PathSet) (col : Nat → Nat) (p : PathBay) (j : Nat) : Int :=
  corrected y (p.entry p.table j) (linearise y (col (p.start + j)))

/-- What a MISSING nozzle j gives with weight w; nothing when it is stitch-covered or not MISSING (R143, R144). -/
def PathBay.share (y : PathSet) (col : Nat → Nat) (ps : List PathBay) (p : PathBay) (j w : Nat) : Int :=
  if entState (p.entry p.table j) = 2 ∧ stitchCovered ps p.table p j = false then
    rne ((w : Int) * p.vp y col j) 8
  else 0

/-- Stage 3: nozzle j's value with what its neighbours give it, clamped (R143). -/
def PathBay.retouched (y : PathSet) (col : Nat → Nat) (ps : List PathBay) (p : PathBay) (j : Nat) : Int :=
  let own := p.vp y col j
  if entState (p.entry p.table j) = 2 then min own 4095
  else
    let fromRight := if j + 1 < p.cnt then p.share y col ps (j + 1) (entLeft (p.entry p.table (j + 1))) else 0
    let fromLeft := if 0 < j then p.share y col ps (j - 1) (entRight (p.entry p.table (j - 1))) else 0
    min (own + fromRight + fromLeft) 4095

/-! Stage 4 (R145) -/

/-- The 16-bit numbers that bytes spell. -/
def u16s : Bytes → List Nat
  | a :: b :: rest => (a.toNat + 256 * b.toNat) :: u16s rest
  | _ => []

/-- The thresholds of the cells of a row of the array, 256 cells of 2^BITS - 1 each. -/
def Nozzle.row (z : Nozzle) (r : Nat) : List Nat :=
  let t := 2 ^ z.thresholdBits - 1
  u16s (sliceB z.thresholds (512 * t * r) (512 * t))

/-- Thresholds of a column's cell in a row that are at or below c. -/
def Nozzle.screen (z : Nozzle) (row : List Nat) (column : Nat) (c : Int) : Nat :=
  let t := 2 ^ z.thresholdBits - 1
  (((row.drop (t * column)).take t).filter (fun (h : Nat) => decide ((h : Int) ≤ c))).length

/-- The row of the array that a bay's web line screens with. -/
def PathBay.row (y : PathSet) (z : Nozzle) (p : PathBay) : List Nat :=
  match p.source with
  | .contone _ => z.row ((p.line + y.phaseY) % 256)
  | _ => []

/-- The level of nozzle j of a bay on a contone plane, before the stitch mask. -/
def PathBay.screened (y : PathSet) (z : Nozzle) (row : List Nat) (col : Nat → Nat) (ps : List PathBay) (p : PathBay) (j : Nat) : Nat :=
  if entState (p.entry p.table j) = 2 then 0
  else z.screen row ((p.start + j + y.phaseX) % 256) (p.retouched y col ps j)

/-! Stage 5 (R149, R151) -/

/-- The right bay q of the overlap prints column x on web line m, by the mask and, on a contone plane, stitch cover. -/
def rightPrints (ps : List PathBay) (mask : Bytes) (cover : Bool) (t : NozTable) (m : Nat) (p q : PathBay) (x : Nat) : Bool :=
  if cover && stitchCovered ps t p (x - p.start) then true
  else if cover && stitchCovered ps t q (x - q.start) then false
  else bitOf (leAt mask (2 * (x - q.start)) 2) (m % 16)

/-- Bay p keeps its level at column x. -/
def PathBay.keeps (ps : List PathBay) (mask : Bytes) (cover : Bool) (p : PathBay) (x : Nat) : Bool :=
  match partnerOf ps p x with
  | none => true
  | some q =>
    if p.start < q.start then !(rightPrints ps mask cover p.table p.line p q x)
    else rightPrints ps mask cover p.table p.line q p x

/-- The drop level of nozzle j of a bay in the frame (R151, R152, R235). -/
def PathBay.level (y : PathSet) (z : Nozzle) (row : List Nat) (bits : Nat) (ps : List PathBay) (p : PathBay) (j : Nat) : Nat :=
  let x := p.start + j
  match p.source with
  | .blank => 0
  | .ladder lvl => lvl x
  | .contone col => if p.keeps ps y.mask true x then p.screened y z row col ps j else 0
  | .bypass col => if p.keeps ps y.mask false x then min (col x) (2 ^ bits - 1) else 0

/-- How many nozzles of a bay have a drop-plane value above the highest level (R152). -/
def PathBay.clamped (bits : Nat) (p : PathBay) : Nat :=
  match p.source with
  | .bypass col => ((List.range p.cnt).filter (fun j => 2 ^ bits - 1 < col (p.start + j))).length
  | _ => 0

/-! Stage 6 (R154) -/

/-- Levels packed, least significant bit first, eight nozzles at a time. -/
def packLevels (bits : Nat) (level : Nat → Nat) : Nat → Nat → Bytes
  | _, 0 => []
  | j, n + 1 =>
    le bits (sumN ((List.range 8).map (fun i => level (j + i) * 2 ^ (bits * i)))) ++ packLevels bits level (j + 8) n

/-- The drop data of every populated bay in the frame of a line, by bay, and the values clamped. -/
def State.linePath (s : State) (g : Nat) (y : Line) : Tab Bytes × Nat :=
  let ps := s.pathBays g y
  let bits := s.bitsOf g
  let z := (s.gal g).noz
  (ps.foldl (fun acc p =>
    let row := p.row y.set_ z
    tset acc p.k (packLevels bits (p.level y.set_ z row bits ps) 0 (p.cnt / 8))) [],
   sumN (ps.map (fun p => p.clamped bits)))

/-- The segments that are LOST and that web line m of gallery g needs (R385). -/
def State.lostFor (s : State) (g m : Nat) : List Nat :=
  match s.governed g m with
  | none => []
  | some (p, pl) =>
    ((p.rects pl m).filter (fun r => r.place.kind == 1 && (s.tileOf (tget [] p.cached g) pl.input r.place.source).isNone)).map
      (fun r => r.place.source)

end Sys2Proof.Machine
end

