-- ==== Sys2Proof/Machine/Lines.lean ====
section
/-! DEFINITION. The master tick and what it starts: the fire-at predictor, table swaps, the changeover and the lines
(R16-R21, R67, R116, R122, R128, R140, R162). -/

namespace Sys2Proof.Machine

/-! Helpers -/

/-- The galleries in PRINT. -/
def State.printing (s : State) : List Nat := (List.range 8).filter (fun g => s.inPrint g)

/-- A blank-line event: a standby counts its causes and raises none (R283). -/
def raiseBlank (code source : Nat) (arg : Bytes) (s : State) : State := if s.inControl then raise code source arg s else s

/-- An argument whose byte 0 is a number and whose bytes 4-7 are another. -/
def argB4 (b v : Nat) : Bytes := le 1 b ++ zeros 3 ++ le 4 v

/-! The predictor (R162, R164) -/

/-- The predictor takes master tick m with tick time t, in device time (R162). -/
def Pred.tick (c : Pred) (period shift m : Nat) (t : Int) : Pred :=
  let p : Int := period * 4096
  if !c.valid || p == 0 then { c with p := p, phi := t, valid := p != 0, mPhi := m }
  else
    let pr := c.phi + p * serial32 m c.mPhi
    { c with p := p, phi := pr + (t - pr) / (2 ^ shift : Nat), mPhi := m }

/-- The predictor loses its validity and every line of the galleries in PRINT that fires later is cancelled (R164). -/
def predictorLost (s : State) : State :=
  cancelGalleries 2 s.now s.printing { s with pred := { s.pred with valid := false } }

/-! Swaps (R140) -/

/-- The spare of gallery g becomes active when line S_w begins: at master tick S_w + B_g - L_g. -/
def swapAt (m g : Nat) (s : State) : State :=
  let x := s.gal g
  match x.noz.swap with
  | none => s
  | some w =>
    if !w.done && 0 ≤ serial32 (s.lineAtTick g m) w.line then
      let z := x.noz
      let z1 := { z with
        active := z.spare, spare := z.active, swap := some { w with done := true }
        history := (w.line :: z.history).take 16, swapCount := wrapAdd 32 z.swapCount 1, lastSwap := w.line
        tableBad := false, spareBad := z.tableBad }
      raiseAt s.lc.lastTickAt 0x0601 (0x0100 + g) ([BitVec.ofNat 8 g, BitVec.ofNat 8 w.owner, 0, 0] ++ le 4 w.line) (setGal g { x with noz := z1 } s)
    else s

/-! The changeover (R128) -/

/-- Gallery g begins the armed plan. -/
def switchAt (m g : Nat) (s : State) : State :=
  match s.plans.armed with
  | none => s
  | some q =>
    if !bitOf s.plans.switched g && 0 ≤ serial32 (s.lineAtTick g m) q.switch then
      raiseAt s.lc.lastTickAt 0x0502 (0x0100 + g) (le 4 q.id ++ le 1 g) { s with plans := { s.plans with switched := setBit s.plans.switched g true } }
    else s

/-- The largest bar offset of GALLERY_SET. -/
def State.maxOffset (s : State) : Nat := maxN (s.gallerySet.map s.barOffset)

/-- The master tick at which an armed plan becomes active. -/
def State.completeTickOf (s : State) (switch : Nat) : Nat := usg 32 ((switch : Int) - 1 + s.maxOffset)

/-- At the complete tick the armed plan becomes active and the previous one retires. -/
def activateAt (m : Nat) (s : State) : State :=
  match s.plans.armed with
  | none => s
  | some q =>
    if 0 ≤ serial32 m s.plans.completeTick && s.plans.switched != 0 then
      let old := match s.plans.active with | some p => p.id | none => 0
      raiseAt s.lc.lastTickAt 0x0503 0 (le 4 q.id ++ le 4 old)
        { s with plans := { s.plans with
            active := some q, armed := none, switched := 0
            switchCount := wrapAdd 32 s.plans.switchCount 1, lastSwitch := time96 s.lc.lastTickAt } }
    else s

/-! Captions (R122, R123) -/

/-- The starvation decision for instance i of queue q, made by gallery g when it has not been made (R122). -/
def decideCaption (g : Nat) (qi : Nat × Nat) (s : State) : State :=
  let q := qi.1
  let i := qi.2
  let c := s.queue q
  if thas c.decided i then s
  else
    let starved := serial32 c.next i ≤ 0 || serial32 i c.base < 0 || !thas c.tiles i
    let s1 := setQueue q { c with decided := tset c.decided i starved } s
    let s2 :=
      if starved then
        raiseBlank 0x0505 (0x0100 + g) (le 4 i ++ le 1 q ++ le 1 g)
          (bump (0x3010 + 0x100 * g) 4 32
            (setQueue q { s1.queue q with starved := wrapAdd 32 c.starved 1, lastStarved := i } s1))
      else s1
    if s.pair.role == .active then emit (.pair (.decision q i starved)) s2 else s2

/-- The galleries of GALLERY_SET whose plane in plan p has a slot on queue q (R123). -/
def State.slotGalleries (s : State) (p : Plan) (q : Nat) : List Nat :=
  s.gallerySet.filter (fun g =>
    match s.planeOf p.bytes g with
    | none => false
    | some pl => pl.places.any (fun r => r.kind == 2 && r.source == q))

/-- Line n is governed by plan p, as far as the plans themselves go (R116). -/
def State.under (s : State) (p : Plan) (n : Nat) : Bool :=
  match s.governor n with
  | none => false
  | some q => q.id == p.id && q.switch == p.switch && !p.past n

/-- Line n lies after the lines that plan p governs, not before its switch line. -/
def State.beyond (s : State) (p : Plan) (n : Nat) : Bool := decide (0 ≤ serial32 n p.switch) && !s.under p n

/-- Gallery g composes no line under plan p any more: none of its lines yet to complete or yet to start. -/
def State.pastPlan (s : State) (p : Plan) (g : Nat) : Bool :=
  s.beyond p (s.lagLine g (s.lineAtTick g (s.lc.lastTick + 1))) &&
    !(s.gal g).lines.any (fun y => y.drops.isNone && !y.late && (y.withPlans s).under p (s.lagLine g y.line))

/-- Every gallery that composes a slot on queue q under plan p is in the mask of those that have composed the last line of
an instance's slot, or is past the plan (R123). -/
def State.allFinished (s : State) (p : Plan) (q mask : Nat) : Bool :=
  (s.slotGalleries p q).all (fun h => bitOf mask h || s.pastPlan p h)

/-- Gallery g has composed the last line of an instance's slot; the tile is retired once every gallery that composes the
slot has, or has left the plan (R123). -/
def finishCaption (p : Plan) (g : Nat) (qi : Nat × Nat) (s : State) : State :=
  let q := qi.1
  let c := s.queue q
  let mask := setBit (tget 0 c.finished qi.2) g true
  let s1 := setQueue q { c with finished := tset c.finished qi.2 mask } s
  if s1.allFinished p q mask then retireTile q qi.2 s1 else s1

/-- Instance i lies in a row of plan p whose first line the plan governs (R120). -/
def State.instanceOf (s : State) (p : Plan) (i : Nat) : Bool :=
  let k := usg 32 ((i : Int) - p.base)
  s.under p ((p.switch + k / max 1 (planAcross p.bytes) * planPitch p.bytes) % 4294967296)

/-- Line y's gallery has left plan p: the tiles of instances whose slots it cut short are retired once every gallery has
finished with them (R123). -/
def leavePlan (y : Line) (p : Plan) (s : State) : State :=
  forEach (List.range 64) (fun q s =>
    forEach (s.queue q).decided (fun d s =>
      if !d.2 && (y.withPlans s).instanceOf p d.1 && s.allFinished p q (tget 0 (s.queue q).finished d.1) then retireTile q d.1 s else s) s) s

/-! Starting a line (R17, R37) -/

/-- The value of a DOMAIN or OCTETS entry that shapes a line. -/
def identityCurve : Bytes := (List.range 256).flatMap (fun (i : Nat) => le 2 (rneDiv (i * 4095) 255).toNat)

/-- Rows of the stitch ramp, in order (R150). -/
def rampOrder : List Nat := [0, 8, 4, 12, 2, 10, 6, 14, 1, 9, 5, 13, 3, 11, 7, 15]

/-- The default stitch mask (R150). -/
def rampMask : Bytes :=
  (List.range 64).flatMap (fun i =>
    le 2 (if i < 32 then sumN ((rampOrder.take ((2 * i + 1) / 4)).map (fun r => 2 ^ r)) else 0xFFFF))

/-- The entries that shape a line of gallery g, as they stand. A pair's ladder is that of gallery 2j (R236). -/
def State.pathSet (s : State) (g : Nat) : PathSet :=
  let i := 0x3020 + 0x100 * g
  let h := 0x3040 + 0x100 * (if s.paired g then g / 2 * 2 else g)
  { curve := s.dom i 2 identityCurve, boost := s.val i 3, ceiling := s.val i 4
    phaseX := s.val i 5, phaseY := s.val i 6, mask := s.dom i 10 rampMask
    ladderOn := s.flag h 1
    ladder := [s.val h 2, s.val h 3, s.val h 4, s.val h 5, s.val h 6] }

/-- W_SET of gallery g (R339). -/
def State.wSet (s : State) (g : Nat) : Nat := (s.popBays g).foldl (fun acc b => setBit acc (s.alongLines b) true) 0

/-- The SWAP_COUNT of the table in force for line n (R339). -/
def Nozzle.swapsFor (z : Nozzle) (n : Nat) : Nat :=
  match z.swap with
  | some w => if w.done && serial32 n w.line < 0 then wrapAdd 32 z.swapCount 0xFFFFFFFF else z.swapCount
  | none => z.swapCount

/-- The boundary of the tick n + B_g, whole counts, as the line clock stands when line n starts, its own tick's boundary
not yet moved on. -/
def State.boundaryAhead (s : State) (ticks : Nat) : Int :=
  s.lc.bInt + ((s.lc.bFrac + ticks * s.val 0x2100 2) / 4294967296 : Nat)

/-- D(n) of a line with no fire-at: the gallery's tick n - 2, as last predicted; with no prediction made since reset the spec
gives no moment, and the model takes the present one (DESIGN CHOICE, log entry 62). The tick's own time replaces it when the
tick comes. -/
def State.unfiredDeadline (s : State) (g n : Nat) : Nat :=
  if s.pred.p = 0 then s.now else (s.tickTime (n + s.barOffset g) - 2 * s.pred.p).toNat

/-- Line n of gallery g as it starts. -/
def State.newLine (s : State) (g n : Nat) : Line :=
  let gov := s.governed g n
  { line := n, prints := s.inPrint g, set_ := s.pathSet g, drops := none, late := false
    reasons := (if gov.isNone then 64 else 0) + (if (s.lostFor g n).isEmpty then 0 else 2048)
    fireAt := none
    deadline := if s.pred.valid then (s.deadlineOf g n).toNat else s.unfiredDeadline g n
    lanes := 0, active := s.plans.active, armed := s.plans.armed
    plan := match gov with | some (p, _) => p.id | none => 0
    inst := match gov with | some (p, _) => p.rowInstance n | none => 0xFFFFFFFF
    position := s.boundaryAhead (s.lead g)
    wSet := s.wSet g, swaps := (s.gal g).noz.swapsFor n }

/-- PLAN_RUNOUT at the first line past a plan's extent, once per gallery (R116). -/
def runout (g n : Nat) (s : State) : State :=
  match s.governor n with
  | none => s
  | some p =>
    if p.past n && !bitOf p.runout g then
      let mk (x : Option Plan) : Option Plan :=
        x.map (fun q => if q.id == p.id && q.switch == p.switch then { q with runout := setBit q.runout g true } else q)
      raiseBlank 0x0504 (0x0100 + g) (le 4 p.id ++ le 1 g)
        { s with plans := { s.plans with active := mk s.plans.active, armed := mk s.plans.armed } }
    else s

/-- A ladder occurrence begins (R237). -/
def countLadder (g n : Nat) (y : Line) (s : State) : State :=
  match s.governed g n with
  | none => s
  | some (p, _) =>
    match y.set_.ladderPart p n with
    | none => s
    | some (q, t) =>
      let first := usg 32 ((n : Int) - t)
      let x := s.gal g
      if y.prints && s.printsLadder g q && x.ladderAt != some first then
        bump (0x3040 + 0x100 * g) 7 32 (setGal g { x with ladderAt := some first } s)
      else s

/-- SEGMENT_LOST at a gallery's first line that needs a LOST segment, then at most once per second per segment (R385). A standby
raises none (R283). -/
def noteLost (g : Nat) (id : Nat) (s : State) : State :=
  let once := 4294967296 * (g + 1) + id
  if !s.inControl then s
  else if s.prov.marks.any (fun m => m.code == 0x1004 && m.object == once) then
    raiseLimited (sCk 1) 0x1004 id (0x0100 + g) (le 4 id ++ le 1 g) s
  else
    raiseOnce 0x1004 once (0x0100 + g) (le 4 id ++ le 1 g)
      { s with prov := { s.prov with marks := mark s.prov.marks 0x1004 id s.clk.core } }

/-- The lines a gallery keeps: the newest 64, which the ring holds, and any older one whose print record is still due. -/
def State.keepLines (s : State) (g : Nat) (ys : List Line) : List Line :=
  ys.take 64 ++ (ys.drop 64).filter (fun y => y.prints && bitOf (s.val 0x1500 3) g && s.inControl)

/-- Line n of gallery g starts (R17): starvation decisions, the runout, and the line itself. -/
def startLine (g n : Nat) (s : State) : State :=
  let caps := match s.governed g n with | some (p, pl) => p.captionsOn pl n | none => []
  let s1 := forEach caps (decideCaption g) (runout g n s)
  let y := s1.newLine g n
  let s2 := countLadder g n y (forEach (s1.lostFor g n) (noteLost g) s1)
  let s3 := if bitOf y.reasons 6 then s2 else bump (0x3010 + 0x100 * g) 3 32 s2
  let x := s3.gal g
  setGal g { x with lines := s3.keepLines g (y :: x.lines) } s3

/-- The line that gallery g starts at master tick m starts: one of its own lines, while it is in READY or PRINT (R15,
R17, R426). -/
def startAt (m g : Nat) (s : State) : State :=
  let n := s.lineAtTick g m
  if s.inReadyPrint g && (!s.paired g || n % 2 == g % 2) then startLine g n s else s

/-! The master tick (R67) -/

/-- The tick's time enters the measured period while the clock runs (R69). -/
def LineClock.timed (c : LineClock) (t : Nat) : LineClock := { c with times := (t :: c.times).take 17 }

/-- The next boundary moves on by one line (R67). -/
def LineClock.advance (c : LineClock) (cpl : Nat) : LineClock :=
  let f := c.bFrac + cpl % 4294967296
  { c with bFrac := f % 4294967296, bInt := wrap48 (c.bInt + (cpl / 4294967296 + f / 4294967296 : Nat)) }

/-- The tick N - 2 of a line with no fire-at is its deadline (R18, R339). -/
def noteDeadline (m g : Nat) (s : State) : State :=
  let x := s.gal g
  setGal g { x with lines := x.lines.map (fun y =>
    if y.fireAt.isNone && usg 32 ((y.line : Int) + s.barOffset g - 2) == m then { y with deadline := s.lc.lastTickAt } else y) } s

/-- A master tick with tick time t, a core clock: the predictor, the speed warning, swaps, the changeover and the lines
that start at it, and the boundary moves on. -/
def masterTick (t : Nat) (s : State) : State :=
  let m := (s.lc.lastTick + 1) % 4294967296
  let c1 := { s.lc.timed t with lastTick := m, lastTickAt := s.timeAt t, ticked := true }
  let s1 := { s with lc := c1, pred := s.pred.tick c1.period (s.val 0x2110 1) m (s.timeAt t : Int) }
  let s2 := forEach (List.range 8) (swapAt m) (forEach (List.range 8) (noteDeadline m) (speedWarnAt (s.timeAt t) s1))
  let s3 := activateAt m (forEach s2.gallerySet (switchAt m) s2)
  let s4 := forEach s3.gallerySet (startAt m) s3
  { s4 with lc := s4.lc.advance (s4.val 0x2100 2) }

end Sys2Proof.Machine
end

