-- ==== Sys2Proof/Machine/Handover.lean ====
section
/-! DEFINITION. The old unit's part of a commanded handover: YIELD on every lane, then STANDBY (R291). -/

namespace Sys2Proof.Machine

/-- The lanes that take part: the head-link lanes in RUN. -/
def State.runLanes (s : State) : List Nat := (List.range 32).filter s.running

/-- n_y of gallery g: the last line of its parity not later than M_h - B_g. -/
def State.lastOldLine (s : State) (g mh : Nat) : Nat :=
  let n := usg 32 ((mh : Int) - s.barOffset g)
  if s.paired g && n % 2 != g % 2 then usg 32 ((n : Int) - 1) else n

/-- YIELD leaves on lane l with the last line of this reign to fire (R184). -/
def sendYield (l line : Nat) (s : State) : State :=
  sendFrame l { type := 0x21, line := line } s

/-- The reign after r, skipping 0 (R289). -/
def nextReign (r : Nat) : Nat := if r = 65535 then 1 else r + 1

/-- When the last YIELD has left: ACTIVE_N is released, the old unit enters STANDBY, the operation ends and both units
raise HANDOVER_DONE. -/
def finishYield (h : HandPlan) (s : State) : State :=
  let s1 := emit (.pair .yielded) { s with pair := { s.pair with
    role := .standby, activeN := false, hand := none, mirrorNext := some s.pair.mirrorSeq
    aligned := false, delta := 0, timeLocked := true } }
  let s2 := raise 0x0C06 0 (le 2 (nextReign s.pair.reign) ++ zeros 2 ++ le 4 h.mh) s1
  if (s2.slot h.slot).active then endOp h.slot .done 0 s2 else s2

/-- Lane l's YIELD has left: its port carries IDLE from now on. -/
def yieldSent (l : Nat) (s : State) : State :=
  match s.pair.hand with
  | none => s
  | some h =>
    if h.taking then s
    else
      let x := s.lane l
      let s1 := setLane l { x with train := { x.train with state := .shadow, txPreset := 4 }, ctrlQueue := [], outstanding := [] } s
      let h1 := { h with lanesDone := setBit h.lanesDone l true }
      let s2 := { s1 with pair := { s1.pair with hand := some h1 } }
      if s2.runLanes.isEmpty then finishYield h1 s2 else s2

/-- The line after which lane l yields, while this unit hands over and the peer has confirmed. -/
def State.yieldAfter (s : State) (l : Nat) : Option Nat :=
  match s.pair.hand with
  | some h => if h.taking || !h.confirmed || bitOf h.lanesDone l then none else some (tget 0 h.ny (l / 4))
  | none => none

/-- Lane l yields: with n_y of its gallery, or, in a mode without line frames, with the last line sent on it; where none has
been sent the spec gives the field no value: a free value. -/
def yieldLane (l : Nat) (s : State) : State :=
  match s.yieldAfter l with
  | none => s
  | some k =>
    if s.inReadyPrint (l / 4) then sendYield l k s
    else sendYield l ((s.lane l).lastLine.getD ((Config.freeValue s.free).toNat % 4294967296)) (draw s)

/-- The lane has sent the frame of n_y, or its mode sends no line frames. -/
def State.mayYield (s : State) (l : Nat) : Bool :=
  match s.yieldAfter l with
  | none => false
  | some k =>
    (s.lane l).sending.isNone && (!s.inReadyPrint (l / 4) ||
      (match (s.lane l).lastLine with | some n => decide (0 ≤ serial32 n k) | none => false))

/-- The peer has confirmed M_h: lanes that can yield do so at once, and with no lane in RUN nothing is left to yield. -/
def handConfirmed (h : HandPlan) (s : State) : State :=
  let h1 := { h with confirmed := true }
  let s1 := { s with pair := { s.pair with hand := some h1 } }
  if s1.runLanes.isEmpty then finishYield h1 s1
  else forEach s1.runLanes (fun l s => if s.mayYield l then yieldLane l s else s) s1

/-- The peer has refused M_h: the handover ends, and control stays. -/
def handRefused (h : HandPlan) (s : State) : State :=
  endOp h.slot .failed 0xAB0C0006 { s with pair := { s.pair with hand := none } }

end Sys2Proof.Machine
end

