-- ==== Sys2Proof/Machine/Frames.lean ====
section
/-! DEFINITION. A line's completion in the ring, its frames, its lateness and its print record (R17-R21, R154, R156,
R163, R171, R181, R186-R188, R339). -/

namespace Sys2Proof.Machine

/-! Captions and lateness -/

/-- A live plan of line y no longer governs it: the gallery has left that plan. -/
def leftPlan (g : Nat) (y : Line) (x : Option Plan) (s : State) : State :=
  match x with
  | some p => if (y.withPlans s).beyond p (s.lagLine g y.line) then leavePlan y p s else s
  | none => s

/-- The caption tiles whose last line the gallery has now composed on every bay are retired (R123). -/
def finishCaptions (g : Nat) (y : Line) (s : State) : State :=
  let m := s.lagLine g y.line
  leftPlan g y y.armed (leftPlan g y y.active (match (y.withPlans s).governed g m with
    | none => s
    | some (p, pl) => forEach (p.captionsEnding pl (s.step g) m) (finishCaption p g) s))

/-- Line y of gallery g is late: the work is discarded and DATA_LATE raised (R19). Its caption tiles count as composed, as they
already do once the line is complete. -/
def lineLate (g : Nat) (y : Line) (s : State) : State :=
  let s1 := bump (0x3030 + 0x100 * g) 9 32 (putLine g { y.because 0 with late := true, drops := none } s)
  raiseBlank 0x0705 (0x0100 + g) (argB4 g y.line) (if y.drops.isSome then s1 else finishCaptions g y s1)

/-- T_frame of gallery g in core clocks: one full-population LINE frame on its slowest lane that carries a populated bay (R23,
R179). -/
def State.fullFrameCk (s : State) (g : Nat) : Nat :=
  maxN ((lanesOf g).map (fun l => if s.popMask l = 0 then 0 else s.frameCk l (32 + 4096 * s.bitsOf g)))

/-- Line y of gallery g, not yet complete, can no longer leave every lane that still has it to send by D(N) (R19). -/
def State.missesDeadline (s : State) (g : Nat) (y : Line) : Bool :=
  s.tooLate g y 0 ||
    (lanesOf g).any (fun l => s.running l && s.popMask l != 0 && s.sendable l y && s.tooLate g y (s.laneFrameCk l))

/-- A table that line y reads, or the threshold array, has an uncorrectable error (R156). -/
def State.pathBad (s : State) (g : Nat) (y : Line) : Bool :=
  (s.baysByColumn g).any (fun b => (s.gal g).noz.badFor (s.webLine g y.line b)) || (s.gal g).noz.badFor y.line

/-- Line y goes out as BLANK whatever its bays do. -/
def State.goesBlank (s : State) (g : Nat) (y : Line) : Bool :=
  y.blanked || s.pathBad g y || s.gateHolds || (y.fireAt.isNone && !s.pred.valid) || !y.prints || !s.inPrint g || s.sys.latch || y.drops.isNone

/-! The active's digests (R285) -/

/-- A line of gallery g agreed with the active's digest, or did not: sixteen mismatches in a row diverge. -/
def judgeDigest (g n : Nat) (same : Bool) (s : State) : State :=
  let k := if same then 0 else tget 0 s.pair.mismatchRun g + 1
  let s1 := { s with pair := { s.pair with
    mismatches := wrapAdd 32 s.pair.mismatches (b2n !same), mismatchRun := tset s.pair.mismatchRun g (k % 16) } }
  if k = 16 then becomeStale 4 (raise 0x0C07 0 (argB4 g n) s1) else s1

/-- Line y as this standby made it, its drop data given, against a digest of the active's that has arrived; a line sent blank is
not compared. -/
def compareDigest (g : Nat) (y : Line) (bytes : Bytes) (s : State) : State :=
  match s.pair.digests.find? (fun d => d.gal == g && d.line == y.line) with
  | none => s
  | some d =>
    let s1 := { s with pair := { s.pair with
      digests := s.pair.digests.filter (fun e => !(e.gal == g && serial32 e.line y.line ≤ 0)) } }
    if s1.pair.role != .standby || s1.goesBlank g { y with drops := some [] } then s1 else judgeDigest g y.line (d.crc == crc32c bytes) s1

/-! LINE_COMPLETE -/

/-- An uncorrectable error of the nozzle path: counted and raised, and, in a nozzle table or a line buffer, a cause to give up
control (R156, R286). -/
def pathEcc (g structure_ line : Nat) (s : State) : State :=
  (if structure_ = 2 ∨ structure_ = 4 then id else giveUp 2) (raiseBlank 0x0602 (0x0100 + g) ([BitVec.ofNat 8 g, BitVec.ofNat 8 structure_, 0, 0] ++ le 4 line)
    (bump (0x3020 + 0x100 * g) 13 32 s))

/-- The active table, or the one the line reads, has an uncorrectable error (R156). -/
def tableError (g : Nat) (y : Line) (s : State) : State :=
  let x := s.gal g
  let old := match x.noz.swap with | some w => w.done && serial32 y.line w.line < 0 | none => false
  pathEcc g (if old then 1 else 0) y.line
    (setGal g { x with noz := if old then { x.noz with spareBad := true } else { x.noz with tableBad := true } } s)

/-- The spare table of gallery g has an uncorrectable error (R156): a LOAD under way fails, a spare not yet swapped in returns to
EMPTY with its swap cancelled, and the previous table of a done swap blanks the lines that still read it. -/
def spareError (g : Nat) (y : Line) (s : State) : State :=
  let x := s.gal g
  let z := x.noz
  let done := match z.swap with | some w => w.done | none => false
  let s1 := pathEcc g 1 y.line
    (setGal g { x with noz := if done then { z with spareBad := true } else { z with spareState := .empty, swap := none } } s)
  match s.opOf (0x3021 + 0x100 * g) 1 with
  | some k => if z.spareState == .loading && !done then endOp k .failed 0xAB060009 s1 else s1
  | none => s1

/-- Line y is blank on every lane of its gallery for an error of the nozzle path. -/
def pathBlank (g : Nat) (y : Line) (s : State) : State :=
  match (s.gal g).find y.line with
  | some z => putLine g (z.because 7) s
  | none => s

/-- What the path's memories reported in line y's work (R156): errors corrected are counted, an uncorrectable one acts by where it
stands. -/
def applyEcc (g : Nat) (y : Line) (obs : EccObs) (s : State) : State :=
  let s1 := bumpBy (0x3020 + 0x100 * g) 12 32 obs.corrected s
  match obs.bad with
  | none => s1
  | some .lineBuffer => pathEcc g 3 y.line s1
  | some .table => tableError g y s1
  | some .threshold =>
    let x := s1.gal g
    pathEcc g 2 y.line (setGal g { x with noz := { x.noz with arrayBad := true } } s1)
  | some .spare => spareError g y s1
  | some .dropRing => pathBlank g y (pathEcc g 4 y.line s1)

/-- LEVEL_CLAMPED: n values of a drop plane were above the highest level (R152). -/
def noteClamped (g n : Nat) (s : State) : State :=
  if n = 0 then s
  else
    let s1 := bumpBy (0x3020 + 0x100 * g) 11 32 n s
    raiseLimited (sCk 1) 0x0603 g (0x0100 + g) (argB4 g (s1.val (0x3020 + 0x100 * g) 11)) s1

/-- The reasons found when line y is complete: an error of the path, or a segment lost meanwhile. -/
def State.completeReasons (s : State) (g : Nat) (y : Line) (obs : EccObs) : Nat :=
  let r1 := if obs.bad == some .lineBuffer || obs.bad == some .dropRing || s.pathBad g y then setBit y.reasons 7 true else y.reasons
  if ((y.withPlans s).lostFor g y.line).isEmpty then r1 else setBit r1 11 true

/-- The drop data of a line in ascending bay order, as its digest covers it. -/
def dropBytes (t : Tab Bytes) : Bytes := t.flatMap (fun p => p.2)

/-- Line n of gallery g is complete in the ring (R17, R154). -/
def doLineComplete (g n : Nat) (obs : EccObs) (s : State) : State :=
  match (s.gal g).find n with
  | none => s
  | some y =>
    if y.drops.isSome || y.late then s
    else
      let s1 := applyEcc g y obs s
      let out := s1.linePath g y
      let y1 := { y with drops := some out.1, reasons := s1.completeReasons g y obs }
      compareDigest g y1 (dropBytes out.1) (finishCaptions g y1 (noteClamped g out.2 (putLine g y1 s1)))

/-- LINE_COMPLETE. -/
def execLineComplete (dt : Nat) (g : Fin 8) (line : BitVec 32) (obs : EccObs) (s : State) : Host.Outcome State Fault Refusal :=
  next (doLineComplete g.val line.toNat obs (advance dt s))

/-! DATA_LATE -/

/-- Line n of gallery g is late when it is not complete and can no longer leave every lane by D(n) (R19). -/
def doDataLate (g n : Nat) (s : State) : State :=
  match (s.gal g).find n with
  | none => s
  | some y =>
    if y.pending && (!s.pred.valid || s.missesDeadline g y) then lineLate g y s else s

/-- DATA_LATE. -/
def execDataLate (dt : Nat) (g : Fin 8) (line : BitVec 32) (s : State) : Host.Outcome State Fault Refusal :=
  next (doDataLate g.val line.toNat (advance dt s))

/-! LINE_FRAME_START -/

/-- Lane l of a standby shadows a lane in RUN under the active (R283, R290). -/
def State.shadows (s : State) (l : Nat) : Bool :=
  s.pair.role == .standby && (s.lane l).train.state == .shadow && (s.lane l).peerRun

/-- Bay b may be sent for firing on lane l as far as its head and lane go (R196, R210). -/
def State.fireable (s : State) (l b : Nat) : Bool :=
  let x := s.bay b
  s.populated b && (x.idState == .accepted || x.idState == .overridden) && !x.heldOut && !x.inkCold && ((s.lane l).linkTime || s.shadows l)

/-- The spacing since bay b last fired is below its minimum fire period (R171). -/
def State.tooSoon (s : State) (b : Nat) (fire : Int) : Bool :=
  match (s.bay b).lastFire with
  | none => false
  | some f => (fire - f) * (s.bayLimit b : Nat) < 65536000000000000

/-- Bay b in the frame of line y: it fires, or it is cleared for overspeed, and counted (R171). A line blank for another reason
has its overspeed counted and listed as well (R21), and fires nothing. -/
def fireBay (g b : Nat) (y : Line) (fire : Int) (blank : Bool) (s : State) : State :=
  if s.tooSoon b fire then
    let x := s.gal g
    let s1 := bump (0x4000 + b) 0x10 32 s
    let s2 := if x.overLine == some y.line then s1
      else setGal g { s1.gal g with overLine := some y.line } (bump (0x3030 + 0x100 * g) 10 32 s1)
    let s3 := match (s2.gal g).find y.line with
      | some z => putLine g (z.because 3) s2
      | none => s2
    if s3.inControl then
      raiseLimited (sCk 1) 0x0704 g (0x0100 + g) ([BitVec.ofNat 8 g, 0] ++ le 2 b ++ le 4 y.line) s3
    else s3
  else if blank then s
  else setBay b { s.bay b with lastFire := some fire } s

/-- The bay positions of lane l that line y's frame fires. -/
def State.fireMask (s : State) (l : Nat) (fire : Int) : Nat :=
  sumN ((List.range 16).map (fun i =>
    if s.fireable l (16 * l + i) && !s.tooSoon (16 * l + i) fire then 2 ^ i else 0))

/-- WAVE_SETS of lane l: the band of each position (R168, R182). -/
def State.waveSets (s : State) (l : Nat) : Nat :=
  sumN ((List.range 16).map (fun i => (s.bay (16 * l + i)).band % 4 * 4 ^ i))

/-- The payload of a LINE frame: sixteen trims, then the data of every masked bay (R186). -/
def State.linePayload (s : State) (l mask : Nat) (drops : Tab Bytes) : Bytes :=
  (List.range 16).flatMap (fun i => le 2 (s.bay (16 * l + i)).trim) ++
  (onesOf 16 mask).flatMap (fun i => tget [] drops ((16 * l + i) % 64))

/-- The frame of line y on lane l: a LINE, or a BLANK with the line's fire-at (R163, R182, R186, R187). -/
def State.lineFrame (s : State) (l : Nat) (y : Line) (mask : Nat) : Frame :=
  let fa := match y.fireAt with | some f => usg 64 f | none => 0
  let fv := b2n y.fireAt.isSome
  if mask = 0 then { type := 0x02, flags := fv, line := y.line, fireAt := fa }
  else
    { type := 0x01, flags := fv, line := y.line, fireAt := fa, bayMask := mask, bits := s.bitsOf (l / 4)
      waveSets := s.waveSets l, payload := s.linePayload l mask (y.drops.getD []) }

/-- D(N) of a line whose frame starts with no fire-at: its tick N - 2, once it has come, and until then as last predicted (R339). -/
def State.deadlineNow (s : State) (g : Nat) (y : Line) : Nat :=
  if s.tickPassed g y.line then y.deadline else s.unfiredDeadline g y.line

/-- What the first frame of a line fixes: its fire-at, or that there is no prediction; a gate that holds firing; lanes
that are down; a nozzle path that is FAULTED (R156, R163, R172, R174). -/
def fixLine (g : Nat) (y : Line) (s : State) : State :=
  if y.lanes != 0 then s
  else
    let y1 :=
      if s.pred.valid then { y with fireAt := some (s.fireAt g y.line), deadline := (s.deadlineOf g y.line).toNat }
      else { y.because 1 with deadline := s.deadlineNow g y }
    let y2 := if s.gateHolds then y1.because 5 else y1
    let y3 := if (lanesOf g).any (fun l => s.popMask l != 0 && !s.running l && !s.shadows l) then y2.because 8 else y2
    let y4 := if (s.popBays g).any (fun b => (s.bay b).inkCold) then y3.because 4 else y3
    let y5 := if s.pathBad g y then y4.because 7 else y4
    let s1 := if s.pred.valid || y.shadowed then s else bump (0x3030 + 0x100 * g) 11 32 s
    let s2 := if s.gateHolds && !y.shadowed then bump (0x3030 + 0x100 * g) 12 32 s1 else s1
    putLine g y5 s2

/-- The bays that line y's frame on lane l would fire, at the fire-at that is fixed or predicted for it. -/
def State.maskFor (s : State) (l : Nat) (y : Line) : Nat :=
  if s.goesBlank (l / 4) y then 0 else s.fireMask l (y.fireAt.getD (s.fireAt (l / 4) y.line))

/-- Core clocks of line y's frame on lane l as it would go out now. -/
def State.lineCk (s : State) (l : Nat) (y : Line) : Nat :=
  let mask := s.maskFor l y
  s.frameCk l (if mask = 0 then 0 else (s.linePayload l mask (y.drops.getD [])).length)

/-- The digest of a line goes to the standby as its first frame starts, where it is not sent blank: a line that either unit sent
blank is not compared (R279, R285; DEDUCED, log entry 65). -/
def sendDigest (g : Nat) (y : Line) (s : State) : State :=
  if s.pair.role == .active && y.lanes == 0 && !s.goesBlank g y then emit (.pair (.digest g y.line (crc32c (dropBytes (y.drops.getD []))))) s
  else s

/-- Line y's frame starts on lane l. -/
def startFrame (l : Nat) (y : Line) (s : State) : State :=
  let g := l / 4
  let mask := s.maskFor l y
  let s1 := match y.fireAt with
    | some fire =>
      if y.prints then
        forEach ((List.range 16).filter (fun i => s.fireable l (16 * l + i)))
          (fun i => fireBay g (16 * l + i) y fire (s.goesBlank g y)) s
      else s
    | none => s
  let s2 := match (s1.gal g).find y.line with
    | some z => putLine g { z with lanes := setBit z.lanes (l % 4) true } s1
    | none => s1
  let s3 := sendDigest g y (match y.fireAt with
    | some f => setGal g { s2.gal g with lastFire := f } s2
    | none => s2)
  sendFrame l (s.lineFrame l y mask) (setLane l { s3.lane l with lastLine := some y.line } s3)

/-- The drop ring's data of line y is read for its frame on lane l, unless the frame carries none; an uncorrectable error in it
makes the line blank on every lane still to come (R156). -/
def readRing (l : Nat) (y : Line) (ring : EccObs) (s : State) : State :=
  if s.maskFor l y = 0 then s else applyEcc (l / 4) y ring s

/-- The frame of line y on lane l can no longer meet D(N): a line still to be completed by the length of its full frame, one
complete and not blank by the length it has (R18, R19). -/
def State.missed (s : State) (l : Nat) (y : Line) : Bool :=
  if y.pending then s.tooLate (l / 4) y (s.laneFrameCk l)
  else s.maskFor l y != 0 && s.tooLate (l / 4) y (s.lineCk l y)

/-- On a standby, the moment at which line y's frame would start: its causes of being blank are counted, and nothing is sent
(R283). -/
def shadowLine (l : Nat) (y : Line) (s : State) : State :=
  let g := l / 4
  if y.shadowed || !s.deadlinePassed g (usg 32 ((y.line : Int) - s.step g)) || (y.pending && !s.missed l y) then s
  else
    let s1 := if s.missed l y then lineLate g y s else s
    match (s1.gal g).find y.line with
    | none => s1
    | some y1 =>
      let s2 := fixLine g y1 s1
      match (s2.gal g).find y.line with
      | none => s2
      | some y2 =>
        let s3 := putLine g { y2 with shadowed := true } s2
        match y2.fireAt with
        | none => s3
        | some fire =>
          if y2.prints then
            forEach (lanesOf g) (fun l s => forEach ((List.range 16).filter (fun i => s.fireable l (16 * l + i)))
              (fun i => fireBay g (16 * l + i) y2 fire (s.goesBlank g y2)) s) s3
          else s3

/-- The frame of line n on lane l starts, once the lane is free, the line before it is past its deadline and the line is
complete; a line that can no longer meet D is late and goes out as BLANK (R18, R19, R188). The BLANK itself leaves even after D
(DEDUCED, log entry 60). -/
def doLineFrame (l n : Nat) (ring : EccObs) (s : State) : State :=
  let g := l / 4
  let x := s.lane l
  match (s.gal g).find n with
  | none => s
  | some y =>
    if s.shadows l then shadowLine l y s
    else if !s.running l || x.sending.isSome || !s.sendable l y || !s.deadlinePassed g (usg 32 ((n : Int) - s.step g)) then s
    else if y.pending && !s.missed l y then s
    else
        let s1 := if s.missed l y then lineLate g y s else readRing l y ring s
        match (s1.gal g).find n with
        | none => s1
        | some y1 =>
          let s2 := fixLine g y1 s1
          match (s2.gal g).find n with
          | none => s2
          | some y2 => startFrame l y2 s2

/-- LINE_FRAME_START. -/
def execLineFrameStart (dt : Nat) (lane : Fin 32) (line : LineRead) (s : State) : Host.Outcome State Fault Refusal :=
  next (doLineFrame lane.val line.line.toNat line.ring (advance dt s))

/-! LANE_FRAME_SENT and TIME_PERIODIC -/

/-- A TIME ordered set leaves lane l (R181, R189). -/
def sendTime (l : Nat) (s : State) : State :=
  sendLink l (.time (s.now % 2 ^ 64)) (setLane l { s.lane l with timeAt := s.clk.core } s)

/-- The frame on lane l has ended with its IDLE: TIME follows, then the next frame under R188, or a YIELD that is due
(R181, R291). A lane that has left RUN carries IDLE only (R287). -/
def doFrameSent (l : Nat) (s : State) : State :=
  match (s.lane l).sending with
  | none => s
  | some f =>
    if s.clk.core < f.endsAt then s
    else
      let s0 := setLane l { s.lane l with sending := none } s
      let s1 := if s0.sendsTime l then sendTime l s0 else s0
      if f.frame.type = 0x21 then yieldSent l s1
      else
        match s1.yieldAfter l with
        | some k =>
          if s1.inReadyPrint (l / 4) && !((f.frame.type == 1 || f.frame.type == 2) && f.frame.flags / 2 == 0 && decide (0 ≤ serial32 f.frame.line k))
          then pumpLane l s1
          else yieldLane l s1
        | none => pumpLane l s1

/-- LANE_FRAME_SENT. -/
def execLaneFrameSent (dt : Nat) (link : Link) (s : State) : Host.Outcome State Fault Refusal :=
  next (doFrameSent (linkKey link) (advance dt s))

/-- With no frame on lane l in RUN, a TIME is sent where it ends before the next frame may start (R181). -/
def doTimePeriodic (l : Nat) (s : State) : State :=
  if s.sendsTime l && (s.lane l).sending.isNone && s.timeFits l then pumpLane l (sendTime l s) else s

/-- TIME_PERIODIC. -/
def execTimePeriodic (dt : Nat) (link : Link) (s : State) : Host.Outcome State Fault Refusal :=
  next (doTimePeriodic (linkKey link) (advance dt s))

/-! TICK_OVERDUE -/

/-- No master tick by phi + 2p: the predictor is invalid and later lines are cancelled (R164). -/
def doTickOverdue (s : State) : State :=
  if s.pred.valid && s.pred.phi + 2 * s.pred.p ≤ (s.now : Int) then
    predictorLost (raiseBlank 0x0707 0x0010 (le 4 s.pred.mPhi ++ le 4 s.lc.period)
      { s with pred := { s.pred with overdue := wrapAdd 32 s.pred.overdue 1 } })
  else s

/-- TICK_OVERDUE. -/
def execTickOverdue (dt : Nat) (s : State) : Host.Outcome State Fault Refusal := next (doTickOverdue (advance dt s))

/-! PRINT_RECORD_WRITE -/

/-- The timestamp of a line's print record: its fire-at, or its deadline (R339). -/
def Line.stamp (y : Line) : Nat := match y.fireAt with | some f => f.toNat | none => y.deadline

/-- The detail slot of a print record (R339). -/
def Line.detail (y : Line) (r : Rec) : Bytes :=
  le 6 (usg 48 y.position) ++ le 2 y.reasons ++ le 4 y.wSet ++ le 2 0x0E11 ++ le 2 r.source ++ le 4 r.sequence ++
  le 4 y.plan ++ le 4 y.swaps ++ le 2 r.reign ++ le 1 r.flags ++ le 1 r.order

/-- The print record of a line: two adjacent slots of ring 1 (R339). -/
def writePrintRecord (g : Nat) (y : Line) (s : State) : State :=
  let r := mkRec y.stamp 0x0E10 (0x0800 + g) (le 4 y.line ++ le 4 y.inst) s
  noteOverwritten 1 (ringPut 1 (.detail (y.detail r)) (ringPut 1 (.head r) (countRec y.stamp (0x0800 + g) s)))

/-- Line y with reason "lane down" where a lane with a populated bay is down, or went down, without having sent it (R21, R197). -/
def State.withLanesDown (s : State) (g : Nat) (y : Line) : Line :=
  if (lanesOf g).any (fun l => s.popMask l != 0 && !bitOf y.lanes (l % 4) && (!s.running l || bitOf y.barred (l % 4))) then y.because 8
  else y

/-- The print record of line n of gallery g is written 2 ms after its fire-at or deadline, while the gallery's bit of
PRINT_RECORDS is set and the unit is ACTIVE or SINGLE; the line has then left the machine (R339). -/
def doPrintRecord (g n : Nat) (s : State) : State :=
  match (s.gal g).find n with
  | none => s
  | some y =>
    if y.prints && bitOf (s.val 0x1500 3) g && s.inControl && y.stamp + usT 2000 ≤ s.now then
      let s1 := writePrintRecord g (s.withLanesDown g y) s
      setGal g { s1.gal g with lines := (s1.gal g).lines.filter (fun z => z.line != n) } s1
    else s

/-- PRINT_RECORD_WRITE. -/
def execPrintRecordWrite (dt : Nat) (g : Fin 8) (line : BitVec 32) (s : State) : Host.Outcome State Fault Refusal :=
  next (doPrintRecord g.val line.toNat (advance dt s))

end Sys2Proof.Machine
end

