-- ==== Sys2Proof/Machine/Thermal.lean ====
section
/-! DEFINITION. Temperature sensors, their threshold states and throttling (R388-R393, R267). Temperatures are in 0.1
degrees C. -/

namespace Sys2Proof.Machine

/-- Sensor id. -/
def State.sensor (s : State) (id : Nat) : Sensor := tget {} s.therm.sensors id

/-- Sensor id takes a new content. -/
def setSensor (id : Nat) (x : Sensor) (s : State) : State :=
  { s with therm := { s.therm with sensors := tset s.therm.sensors id x } }

/-- LOW_TRIP, LOW_WARN, HIGH_WARN, HIGH_TRIP and H of a class (R390). -/
structure Thresholds where
  lowTrip  : Int
  lowWarn  : Int
  highWarn : Int
  highTrip : Int
  h        : Int
  deriving DecidableEq, Repr

/-- The thresholds of class k as they stand. -/
def State.thresholds (s : State) (k : Nat) : Thresholds :=
  let i := 0x1910 + k
  ⟨s.ival i 1 2, s.ival i 2 2, s.ival i 3 2, s.ival i 4 2, s.val i 5⟩

/-- Steps back from a warning or trip that a reading allows, in turn. -/
def Thresholds.relax (th : Thresholds) (st : SensState) (t : Int) : SensState :=
  let a := if st == .highTrip && decide (t < th.highTrip - th.h) then .highWarn else st
  let b := if a == .highWarn && decide (t < th.highWarn - th.h) then .normal else a
  let c := if b == .lowTrip && decide (th.lowTrip + th.h < t) then .lowWarn else b
  if c == .lowWarn && decide (th.lowWarn + th.h < t) then .normal else c

/-- The most severe state that a reading enters. -/
def Thresholds.enter (th : Thresholds) (st : SensState) (t : Int) : SensState :=
  if st == .highTrip || st == .lowTrip then st
  else if th.highTrip ≤ t then .highTrip
  else if st != .highWarn && decide (th.highWarn ≤ t) then .highWarn
  else if t ≤ th.lowTrip then .lowTrip
  else if st != .lowWarn && decide (t ≤ th.lowWarn) then .lowWarn
  else st

/-- The state after a reading of a valid sensor (R390). -/
def Thresholds.after (th : Thresholds) (st : SensState) (t : Int) : SensState := th.enter (th.relax st t) t

/-- THERMAL_STATE (R407). -/
def raiseThermal (id : Nat) (old new : SensState) (t : Int) (s : State) : State :=
  raise 0x1101 0 (le 2 id ++ le 1 new.code ++ le 1 old.code ++ le 2 (usg 16 t)) s

/-- What entry to a state does (R391): HIGH_TRIP of a die or DRAM sensor sets the SAFE latch, and a die sensor's is cause 6. -/
def thermalAction (id : Nat) (new : SensState) (s : State) : State :=
  if new == .highTrip && decide (id / 4096 ≤ 1) then
    safeSet 3 (if id / 4096 = 0 then giveUp 6 s else s)
  else s

/-- A valid sensor takes a reading (R390, R391). -/
def sampleSensor (id : Nat) (t : Int) (s : State) : State :=
  let x := s.sensor id
  let from_ := if x.state == .unknown then .normal else x.state
  let new := (s.thresholds (id / 4096)).after from_ t
  let s1 := setSensor id { x with state := new, reading := t, at_ := s.clk.core } s
  if new = from_ then s1 else thermalAction id new (raiseThermal id x.state new t s1)

/-- A sensor that is no longer valid takes UNKNOWN (R388). -/
def forgetSensor (id : Nat) (s : State) : State := setSensor id { s.sensor id with state := .unknown } s

/-- The throttle factor of a temperature, in 2^-16 (R267). -/
def Thresholds.factor (th : Thresholds) (t : Int) : Nat :=
  (clampI 0 65536 ((th.highTrip - t) * 65536 / (th.highWarn - th.highTrip).natAbs)).toNat

/-! Die sensors (R389) -/

/-- A conversion in range. -/
def goodDie (t : Int) : Bool := -550 ≤ t && t ≤ 1500

/-- Die sensors that are FAILED. -/
def State.failedDies (s : State) : Nat := ((List.range 12).filter (fun d => (s.sensor d).state == .failed)).length

/-- Die sensor d becomes FAILED; with the third, the SAFE latch is set. -/
def failDie (d : Nat) (t : Int) (s : State) : State :=
  let x := s.sensor d
  let s1 := setSensor d { x with state := .failed, reading := t, good := 0 } s
  let s2 := if x.state == .failed then s1 else raiseThermal d x.state .failed t s1
  if x.state != .failed && decide (3 ≤ s2.failedDies) then safeSet 3 s2 else s2

/-- A good conversion of a FAILED die sensor: the hundredth in a row returns it to service. -/
def recoverDie (d : Nat) (t : Int) (s : State) : State :=
  let x := s.sensor d
  if 99 ≤ x.good then
    let new := (s.thresholds 0).after .normal t
    thermalAction d new (raiseThermal d .failed new t
      (setSensor d { x with state := new, reading := t, at_ := s.clk.core, good := 0 } s))
  else setSensor d { x with good := x.good + 1, reading := t, at_ := s.clk.core } s

/-- One conversion of die sensor d. -/
def convertDie (d : Nat) (t : Int) (s : State) : State :=
  if !goodDie t then failDie d t { s with therm := { s.therm with sensors := tset s.therm.sensors d { s.sensor d with at_ := s.clk.core } } }
  else if (s.sensor d).state == .failed then recoverDie d t s
  else sampleSensor d t s

/-- The hottest die reading in service, if any. -/
def State.hottestDie (s : State) : Option Int :=
  (List.range 12).foldl (fun acc d =>
    let x := s.sensor d
    if x.state == .failed || x.state == .unknown then acc
    else some (match acc with | some m => max m x.reading | none => x.reading)) none

/-- f_die is recomputed; THERMAL_THROTTLE tells of its leaving and reaching 65,536 (R392). With no die sensor in service the
last factor stands. -/
def setFactor (s : State) : State :=
  match s.hottestDie with
  | none => s
  | some t =>
    let f := (s.thresholds 0).factor t
    let s1 := { s with therm := { s.therm with hottest := t, fDie := f } }
    if decide (f < 65536) == decide (s.therm.fDie < 65536) then s1
    else raise 0x1102 0 (le 1 (b2n (f < 65536)) ++ zeros 3 ++ le 4 f) s1

/-- DIE_SENSOR_SAMPLE: the twelve die sensors' conversions, none where one gave none (R388, R390). -/
def doDieSample (readings : List (Option Int)) (s : State) : State :=
  if s.sys.mode == .boot then s
  else
    setFactor (forEach (List.range 12) (fun d s =>
      match readings.getD d none with
      | some t => convertDie d t s
      | none => s) s)

/-- DIE_SENSOR_SAMPLE. -/
def execDieSensorSample (dt : Nat) (readings : List (Option Int)) (s : State) : Host.Outcome State Fault Refusal :=
  next (doDieSample readings (advance dt s))

/-- No conversion of die sensor d for 10 ms (R389). -/
def doDieSilent (d : Nat) (s : State) : State :=
  if s.sys.mode == .boot || s.clk.core < (s.sensor d).at_ + msCk 10 then s
  else setFactor (failDie d (s.sensor d).reading s)

/-- DIE_SENSOR_SILENT. -/
def execDieSensorSilent (dt : Nat) (d : Fin 12) (s : State) : Host.Outcome State Fault Refusal :=
  next (doDieSilent d.val (advance dt s))

/-- A die or DRAM sensor stands at LOW_TRIP (R391). -/
def State.coldTrip (s : State) : Bool :=
  s.therm.sensors.any (fun p => p.1 / 4096 ≤ 1 && p.2.state == .lowTrip)

/-- LEVEL_CAP of R392. -/
def levelCap (f : Nat) : Nat := max 1 ((9 * f + 65535) / 65536)

end Sys2Proof.Machine
end

