-- ==== Sys2Proof/Machine/Lanes.lean ====
section
/-! DEFINITION. Training of a link, entry to RUN and leaving it, test modes and link quality (R192-R200, R202, R215,
R279). The two lanes of the pair link are kept beside the head-link lanes, as lanes 32 and 33. -/

namespace Sys2Proof.Machine

/-! Objects -/

/-- Lane k's training takes a new content. -/
def setTrain (k : Nat) (t : Training) (s : State) : State := setLane k { s.lane k with train := t } s

/-- RATE of lane k; the pair link runs at code 0. -/
def State.rateOf (s : State) (k : Nat) : Nat := if k < 32 then s.val (0x5000 + k) 2 else 0

/-- AUTO_RETRAIN of lane k; the pair link retrains by itself. -/
def State.autoRetrain (s : State) (k : Nat) : Bool := 32 ≤ k || s.flag (0x5000 + k) 11

/-- A TRAIN ordered set with a state, a value and the preset asked of the partner (R193). -/
def sendTrain (k st value preset : Nat) (s : State) : State :=
  sendLink k (.trainSet st value (preset + 16 * s.rateOf k)) s

/-- The bays of lane l that are POPULATED. -/
def State.laneBays (s : State) (l : Nat) : List Nat := ((List.range 16).map (fun i => 16 * l + i)).filter s.populated

/-- DELAY in ps, in the entry's range (R6, R215). -/
def delayPs (d : Int) : Nat := (clampI 0 0xFFFFFFFF (rneDiv (d * 1000) 65536)).toNat

/-! What the active tells its peer (R279, R283) -/

/-- BAY_STATE of bay b. -/
def State.bayState (s : State) (b : Nat) : BayState :=
  let x := s.bay b
  let l := s.lane (b / 16)
  { lane := BitVec.ofNat 8 l.train.state.code, caps := BitVec.ofNat 32 l.caps, idState := BitVec.ofNat 8 x.idState.code
    record := x.record, temp := BitVec.ofInt 16 x.temp, supply := BitVec.ofNat 16 x.supply
    band := BitVec.ofNat 8 x.band, trim := BitVec.ofNat 16 x.trim, inkCold := x.inkCold }

/-- The active unit sends the BAY_STATE of lane l's bays. -/
def sendBays (l : Nat) (s : State) : State :=
  if s.pair.role == .active then forEach (s.laneBays l) (fun b s => emit (.pair (.bayState b (s.bayState b))) s) s else s

/-! INK_COLD (R170) -/

/-- INK_COLD from the lane of bay b, with its temperature or none; a standby raises none (R283). -/
def raiseCold (b : Nat) (t : Option Int) (s : State) : State :=
  if s.inControl then
    raise 0x0706 (0x0200 + b / 16) (le 2 b ++ le 2 (match t with | some x => usg 16 x | none => 0x8000)) s
  else s

/-- Bay b enters INK_COLD; an entry raises the event. -/
def enterCold (b : Nat) (t : Option Int) (s : State) : State :=
  let x := s.bay b
  if x.inkCold then s else raiseCold b t (setBay b { x with inkCold := true } s)

/-! Long operations that wait for a lane (R204, R215) -/

/-- RETRAIN operations of lane l end, unless they are being aborted. -/
def endRetrains (l : Nat) (st : LState) (result : Nat) (s : State) : State :=
  forEach (s.lane l).retrains (fun k s => if (s.slot k).state == .running then endOp k st result s else s)
    (setLane l { s.lane l with retrains := [] } s)

/-- The WAVE_LOAD operations among a lane's control transactions fail with a code. -/
def failWaveLoads (cs : List Ctrl) (code : Nat) (s : State) : State :=
  forEach cs (fun c s =>
    match c.user with
    | .waveLoad k _ => if (s.slot k).state == .running then endOp k .failed code s else s
    | _ => s) s

/-! Training states -/

/-- Lane k starts DETECT, sending IDLE. -/
def startDetect (k : Nat) (s : State) : State :=
  let t := (s.lane k).train
  sendLink k .idle
    (setLane k { s.lane k with
      hold := false, train := { state := .detect, since := s.clk.core, timeouts := t.timeouts, fom := t.fom } } s)

/-- Lane k enters FAILED; a head-link lane raises TRAIN_FAILED with its last state and a cause, 0 for a timeout (R192). -/
def enterFailed (k last cause : Nat) (s : State) : State :=
  let s1 := sendLink k .electricalIdle
    (setTrain k { (s.lane k).train with state := .failed, since := s.clk.core, timeouts := 0 } s)
  if k < 32 then
    endRetrains k .failed 0xAB080007 (raise 0x0809 (0x0200 + k) (le 1 k ++ le 1 last ++ le 1 cause) s1)
  else s1

/-- Lane k enters DISABLED: electrical idle, nothing under way. -/
def disableLane (k : Nat) (hold : Bool) (s : State) : State :=
  sendLink k .electricalIdle
    (setLane k { s.lane k with hold := hold, train := { (s.lane k).train with state := .disabled, timeouts := 0 } } s)

/-- LANE_UP of a lane that enters RUN (R192, R217). -/
def raiseLaneUp (l : Nat) (s : State) : State :=
  let x := s.lane l
  raise 0x0801 (0x0200 + l) (le 1 l ++ le 1 (s.rateOf l) ++ le 1 x.train.fom ++ zeros 1 ++ le 4 (delayPs x.lastDelay)) s

/-- A head-link lane may train as far as its entries and the mode go (R192). -/
def State.eligible (s : State) (l : Nat) : Bool :=
  s.flag (0x5000 + l) 1 && s.popMask l != 0 &&
    (s.sys.mode == .idle || s.sys.mode == .service || s.sys.mode == .ready || s.sys.mode == .print)

/-! Leaving RUN (R197) -/

/-- A line frame cut off in flight leaves its line blank on the lane. -/
def cutFrame (l : Nat) (s : State) : State :=
  match (s.lane l).sending with
  | none => s
  | some f =>
    if (f.frame.type = 1 ∨ f.frame.type = 2) ∧ f.frame.flags / 2 % 4 = 0 then
      let g := l / 4
      let x := s.gal g
      setGal g { x with lines := x.lines.map (fun y =>
        if y.line == f.frame.line then { y with reasons := setBit y.reasons 8 true } else y) } s
    else s

/-- Shots of a sweep on lane l do not count (R248). -/
def spoilShots (p : Shot → Bool) (s : State) : State :=
  match s.sweep with
  | none => s
  | some w => { s with sweep := some { w with shots := w.shots.map (fun h => if p h then { h with spoilt := true } else h) } }

/-- The lane of a shot's nozzle: nozzle n of a gallery is nozzle n mod 2048 of its bay n / 2048. -/
def Shot.lane (h : Shot) : Nat := 4 * h.gal + h.nozzle / 2048 / 16

/-- The lines of lane l's gallery that meet p and whose frame has not started on the lane are never sent there: its bays are
blank for them, with reason "lane down" where it has any (R197). -/
def barLines (l : Nat) (p : Line → Bool) (s : State) : State :=
  let x := s.gal (l / 4)
  setGal (l / 4) { x with lines := x.lines.map (fun y =>
    if p y && !bitOf y.lanes (l % 4) then
      { (if s.popMask l = 0 then y else y.because 8) with barred := setBit y.barred (l % 4) true }
    else y) } s

/-- Lane l stops its frames: everything queued or outstanding on it is dropped, and no line already begun starts on it any more
(R197). -/
def leaveRun (l : Nat) (s : State) : State :=
  let x := s.lane l
  let s1 := spoilShots (fun h => h.lane == l) (barLines l (fun _ => true) (cutFrame l s))
  let s2 := setLane l { s1.lane l with
    sending := none, ctrlQueue := [], outstanding := [], cancel := none, cancelShot := none, resync := false
    syncs := [], syncQueue := 0, linkTime := false, aliveRx := none, badRun := 0, settingUp := false } s1
  let s3 := forEach (s2.laneBays l) (fun b s =>
    forgetSensor (0x2000 + b) (forgetSensor (0x3000 + b) (setBay b { s.bay b with reading := [] } s))) s2
  failWaveLoads (x.ctrlQueue ++ x.outstanding) 0xAB080002 s3

/-- Lane l in RUN goes down with a cause (R197, R191). -/
def laneDown (l cause : Nat) (s : State) : State :=
  if !s.running l then s
  else
    let s1 := leaveRun l s
    let n := wrapAdd 32 (s.lane l).downCount 1
    let s2 := raise 0x0802 (0x0200 + l) (le 1 l ++ le 1 cause ++ zeros 2 ++ le 4 n)
      (setLane l { s1.lane l with downCount := n, downCause := cause } s1)
    let s3 :=
      if cause = 7 then enterFailed l 5 7 s2
      else if s2.autoRetrain l || cause = 6 then startDetect l s2
      else disableLane l true s2
    sendBays l s3

/-- A lane of the pair link leaves RUN (R279). -/
def pairLaneDown (k : Nat) (s : State) : State :=
  if !s.running k then s
  else
    let s1 := startDetect k (setLane k { s.lane k with sending := none, syncs := [], syncQueue := 0, delay := none } s)
    let s2 := if s1.linkState = 0 then { s1 with pair := { s1.pair with downAt := some s1.clk.core, imageAt := none } } else s1
    if s2.linkState = 1 then raise 0x0C04 0 (le 1 1) s2 else s2

/-- A link in RUN goes down with a cause. -/
def linkDown (k cause : Nat) (s : State) : State := if k < 32 then laneDown k cause s else pairLaneDown k s

/-! Entry to RUN (R196) -/

/-- ID_READ of n bytes at an address of the head in bay b (R207). -/
def readHead (b addr n : Nat) (s : State) : State :=
  queueCtrl (b / 16) 0x13 (fun tag => le 1 (b % 16) ++ zeros 1 ++ le 2 tag ++ le 4 addr ++ le 2 n ++ zeros 6) (.identity b addr) s

/-- The lane's bays lose their STATUS and are INK_COLD until one arrives. -/
def coldBays (l : Nat) (s : State) : State :=
  forEach (s.laneBays l) (fun b s =>
    enterCold b none (setBay b { s.bay b with missing := false, statusAt := s.clk.core, reading := [] } s)) s

/-- A lane that enters RUN carries only lines whose D has not passed (R197). -/
def barPassed (l : Nat) (s : State) : State := barLines l (fun y => s.deadlinePassed (l / 4) y.line) s

/-- Steps 1 and 2 of R196: RESYNC, then MOD_CAPS, MOD_ID and MOD_VERSION are read. -/
def enterRun (l : Nat) (s : State) : State :=
  let x := s.lane l
  let x1 := { x with
    train := { x.train with state := .run, timeouts := 0, marginal := false }, moduleMarginal := false
    delay := none, linkTime := false, aliveTx := 0, aliveRx := none, badRun := 0, validAt := s.clk.core
    syncs := [], syncQueue := 0, syncDue := s.clk.core + msCk (s.val (0x5000 + l) 13), timeAt := s.clk.core
    sending := none, lastLine := none, lastShot := none, cancel := none, cancelShot := none, resync := true
    ctrlQueue := [], outstanding := [], settingUp := false, moduleLost := none }
  let s1 := raiseLaneUp l (barPassed l (setLane l x1 s))
  let s2 := ctrlRead l 8 4 .version (ctrlRead l 0 4 .modId (ctrlRead l 4 4 .caps (pumpLane l (coldBays l s1))))
  sendBays l (endRetrains l .done 0 s2)

/-- WAVE_MAP of the lane's gallery is written to its module (R168). -/
def writeWaveMap (l : Nat) (s : State) : State :=
  if s.running l then ctrlWrite l 0x0010 (le 28 (s.val (0x3030 + 0x100 * (l / 4)) 8)) .waveMap s else s

/-- Step 4 of R196: WAVE_MAP, and in SERVICE, READY and PRINT HEAD_POWER, are written (R168, R202). -/
def writeModule (l : Nat) (s : State) : State :=
  let powered := s.sys.mode == .service || s.sys.mode == .ready || s.sys.mode == .print
  let s1 := writeWaveMap l s
  if powered then writeHeadPower l (s1.popMask l) s1 else s1

/-- n TIME_SYNCs are due on lane l. -/
def queueSyncs (l n : Nat) (s : State) : State := pumpLane l (setLane l { s.lane l with syncQueue := (s.lane l).syncQueue + n } s)

/-- Steps 4 and 5 of R196, behind the second TIME_SYNC: the module's registers, then the identity record of every populated bay. -/
def finishSetup (l : Nat) (s : State) : State :=
  let s1 := writeModule l (setLane l { s.lane l with settingUp := false } s)
  forEach (s1.laneBays l) (fun b s => readHead b 0 256 s) s1

/-- Step 3 of R196: the first TIME_SYNC, whose answer gives the DELAY that the second one carries and on which the rest follows;
where a DELAY has been measured already, both go out at once. -/
def configureLane (l : Nat) (s : State) : State :=
  if (s.lane l).delay.isSome then finishSetup l (queueSyncs l 2 s)
  else queueSyncs l 1 (setLane l { s.lane l with settingUp := true } s)

/-- A lane of the pair link enters RUN: the active starts its TIME_SYNCs on it, and a unit that waits for the link resynchronises
(R279, R281, R284). -/
def enterPairRun (k : Nat) (s : State) : State :=
  let x := s.lane k
  let s0 := setLane k { x with
    train := { x.train with state := .run, timeouts := 0 }, delay := none, sending := none, syncs := [], syncQueue := 0
    syncDue := s.clk.core } s
  let s1 := if s.pair.role == .active then queueSyncs k 1 s0 else s0
  let s2 := { s1 with pair := { s1.pair with downAt := none } }
  let s3 := if s2.linkState = 1 then raise 0x0C04 0 (le 1 1) s2 else s2
  if s3.pair.role == .stale || s3.pair.role == .syncing then startResync s3 else s3

/-- Link k enters RUN. -/
def linkUp (k : Nat) (s : State) : State := if k < 32 then enterRun k s else enterPairRun k s

/-! Where a lane belongs (R192, R283) -/

/-- Lane l takes the place that its entries, the mode and the unit's role give it: DISABLED, training, or SHADOW. -/
def placeLane (l : Nat) (s : State) : State :=
  let st := (s.lane l).train.state
  if st == .test then s
  else if !s.eligible l then
    if st == .disabled then setLane l { s.lane l with hold := false } s
    else endRetrains l .failed 0xAB080007 (disableLane l false (if st == .run then leaveRun l s else s))
  else if s.inControl then
    if st == .disabled && !(s.lane l).hold then startDetect l s else s
  else if st == .shadow then s
  else
    sendLink l .idle
      (setTrain l { (s.lane l).train with state := .shadow, txPreset := 4 } (if st == .run then leaveRun l s else s))

/-- A lane of the pair link trains on a pair member in every mode but BOOT and TEST; a link that has never been up is down from
then on (R279, R281). -/
def placePairLane (k : Nat) (s : State) : State :=
  let st := (s.lane k).train.state
  if s.pair.member && s.sys.mode != .boot && s.sys.mode != .test then
    if st == .disabled then
      let s1 := startDetect k s
      if s1.linkState = 0 && s1.pair.downAt.isNone then { s1 with pair := { s1.pair with downAt := some s1.clk.core } } else s1
    else s
  else if st == .disabled then s
  else disableLane k false s

/-- Every link takes its place; after SHUTDOWN they stay in electrical idle (R438). -/
def placeLanes (s : State) : State :=
  if s.sys.shutdownReady then s
  else placePairLane 33 (placePairLane 32 (forEach (List.range 32) placeLane s))

/-! TRAIN_RECEIVED, EQ_PRESET_STEP, VERIFY_PRBS_END (R193-R195) -/

/-- VERIFY is done once both ends have counted no error. -/
def checkVerify (k : Nat) (s : State) : State :=
  let t := (s.lane k).train
  if t.state == .verify && t.prbs == some 0 && t.partnerPrbs == some 0 then linkUp k s else s

/-- EQ_DONE sent and received: VERIFY begins with PRBS31. -/
def checkEqualised (k : Nat) (s : State) : State :=
  let t := (s.lane k).train
  if t.state == .equalise && t.eqSent && t.eqSeen then
    sendLink k (.prbs 31 28 0) (setTrain k { t with state := .verify, since := s.clk.core, prbs := none, partnerPrbs := none } s)
  else s

/-- Alignment at both ends: EQUALISE begins by asking for preset 0. -/
def checkAligned (k : Nat) (s : State) : State :=
  let t := (s.lane k).train
  if t.state == .align && t.aligned && t.partnerAligned then
    sendTrain k 2 t.fom 0 (setTrain k { t with
      state := .equalise, since := s.clk.core, stepAt := s.clk.core, asking := 0, measuring := false, best := 0, bestFom := 0
      chosen := false, eqSent := false, eqSeen := false } s)
  else s

/-- A TRAIN ordered set arrives: its state, value and request, and whether the receiver is aligned. The preset that it requests
is applied in every training state (R194). -/
def doTrain (k : Nat) (localOk : Bool) (st value request : Nat) (s : State) : State :=
  let t := { (s.lane k).train with txPreset := request % 8 }
  if st = 0 ∨ 4 < st then s
  else
    match t.state with
    | .align =>
      let t1 := { t with aligned := t.aligned || localOk, partnerAligned := t.partnerAligned || st != 1 || value == 1 }
      let s1 := setTrain k t1 s
      checkAligned k (if t1.aligned && !t.aligned then sendTrain k 1 1 4 s1 else s1)
    | .equalise =>
      let t1 := { t with eqSeen := t.eqSeen || (st == 3 && decide (96 ≤ value)) }
      checkEqualised k (setTrain k t1 s)
    | .verify => checkVerify k (setTrain k { t with partnerPrbs := if st = 4 then some value else t.partnerPrbs } s)
    | _ => s

/-- TRAIN_RECEIVED. -/
def execTrainReceived (dt : Nat) (link : Link) (localOk : Bool) (st value request : Byte) (s : State) :
    Host.Outcome State Fault Refusal :=
  next (doTrain (linkKey link) localOk st.toNat value.toNat request.toNat (advance dt s))

/-- FOM of an eye w/64 UI wide and h/128 of full scale high (R195). -/
def fomOf (w h : Nat) : Nat := min 255 (w * h / 16)

/-- An adapt or measure interval of EQUALISE ends; at the end of a measure interval the FOM is fom (R195). -/
def doEqStep (k fom : Nat) (s : State) : State :=
  let t := (s.lane k).train
  if t.state != .equalise || t.eqSent || decide (s.clk.core < t.stepAt + usCk 500) then s
  else if !t.measuring then setTrain k { t with measuring := true, stepAt := s.clk.core } s
  else if t.chosen then
    if 96 ≤ fom then checkEqualised k (sendTrain k 3 fom t.asking (setTrain k { t with fom := fom, eqSent := true } s))
    else setTrain k { t with fom := fom, stepAt := s.clk.core } s
  else
    let better := t.asking == 0 || decide (t.bestFom < fom)
    let best := if better then t.asking else t.best
    let ask := if t.asking = 7 then best else t.asking + 1
    sendTrain k 2 fom ask (setTrain k { t with
      fom := fom, best := best, bestFom := if better then fom else t.bestFom, asking := ask, chosen := t.asking == 7
      measuring := false, stepAt := s.clk.core } s)

/-- EQ_PRESET_STEP. -/
def execEqPresetStep (dt : Nat) (link : Link) (eye : Eye) (s : State) : Host.Outcome State Fault Refusal :=
  next (doEqStep (linkKey link) (fomOf eye.width.val eye.height.val) (advance dt s))

/-- The 10 ms of PRBS31 end with a count of errors, which TRAIN(RESULT) tells the partner (R193). -/
def doVerifyEnd (k errors : Nat) (s : State) : State :=
  let t := (s.lane k).train
  if t.state != .verify || t.prbs.isSome || decide (s.clk.core < t.since + msCk 10) then s
  else checkVerify k (sendTrain k 4 (clampN 255 errors) t.asking (setTrain k { t with prbs := some (clampN 255 errors) } s))

/-- VERIFY_PRBS_END. -/
def execVerifyPrbsEnd (dt : Nat) (link : Link) (errors : Nat) (s : State) : Host.Outcome State Fault Refusal :=
  next (doVerifyEnd (linkKey link) errors (advance dt s))

/-! LANE_DETECT, TRAIN_TIMEOUT, AUTO_RETRAIN (R192) -/

/-- The receiver has been out of electrical idle for 100 microseconds. -/
def doDetect (k : Nat) (s : State) : State :=
  let t := (s.lane k).train
  if t.state != .detect || decide (s.clk.core < t.since + usCk 100) then s
  else sendTrain k 1 0 4 (setTrain k { t with state := .align, since := s.clk.core, aligned := false, partnerAligned := false } s)

/-- LANE_DETECT. -/
def execLaneDetect (dt : Nat) (link : Link) (s : State) : Host.Outcome State Fault Refusal := next (doDetect (linkKey link) (advance dt s))

/-- The timeout of a training state, ms. -/
def trainLimit : LaneState → Option Nat
  | .align => some 2
  | .equalise => some 12
  | .verify => some 12
  | _ => none

/-- A training state times out: DETECT again, or FAILED at the third in a row. -/
def doTrainTimeout (k : Nat) (s : State) : State :=
  let t := (s.lane k).train
  match trainLimit t.state with
  | none => s
  | some n =>
    if s.clk.core < t.since + msCk n then s
    else if 2 ≤ t.timeouts then enterFailed k t.state.code 0 s
    else startDetect k (setTrain k { t with timeouts := t.timeouts + 1 } s)

/-- TRAIN_TIMEOUT. -/
def execTrainTimeout (dt : Nat) (link : Link) (s : State) : Host.Outcome State Fault Refusal :=
  next (doTrainTimeout (linkKey link) (advance dt s))

/-- One second in FAILED with AUTO_RETRAIN. -/
def doAutoRetrain (k : Nat) (s : State) : State :=
  let t := (s.lane k).train
  if t.state == .failed && s.autoRetrain k && decide (t.since + sCk 1 ≤ s.clk.core) then startDetect k s else s

/-- AUTO_RETRAIN. -/
def execAutoRetrain (dt : Nat) (link : Link) (s : State) : Host.Outcome State Fault Refusal :=
  next (doAutoRetrain (linkKey link) (advance dt s))

/-! FOM_MEASURE (R195) -/

/-- Whether a FOM raises LINK_MARGINAL, and whether the mark stands after it. -/
def marginal (was : Bool) (fom : Nat) : Bool × Bool := (decide (fom < 64) && !was, if fom < 64 then true else if 72 ≤ fom then false else was)

/-- LINK_MARGINAL of an end: 0 the engine's receiver, 1 the module's. -/
def noteMargin (l fom side : Nat) (was : Bool) (s : State) : State :=
  if (marginal was fom).1 then raise 0x0803 (0x0200 + l) (le 1 l ++ le 1 fom ++ le 1 side) s else s

/-- In RUN, the receiver's FOM is measured again. -/
def doFom (l fom : Nat) (s : State) : State :=
  let t := (s.lane l).train
  if s.running l then
    noteMargin l fom 0 t.marginal (setTrain l { t with fom := fom, marginal := (marginal t.marginal fom).2 } s)
  else s

/-- FOM_MEASURE. -/
def execFomMeasure (dt : Nat) (lane : Fin 32) (eye : Eye) (s : State) : Host.Outcome State Fault Refusal :=
  next (doFom lane.val (fomOf eye.width.val eye.height.val) (advance dt s))

/-! The down causes (R197) -/

/-- The code groups received on link k, at most 1,024 of them, with the disparity that stood before them and whether a frame was
open: sixteen code errors among them take the link down (R180, R197). -/
def doCodeErrors (k : Nat) (groups : List (BitVec 10)) (inFrame positive : Bool) (s : State) : State :=
  if 16 ≤ codeErrors (groups.take 1024) inFrame positive then linkDown k 1 s else s

/-- CODE_ERROR_LIMIT. -/
def execCodeErrorLimit (dt : Nat) (run : CodeRun) (s : State) : Host.Outcome State Fault Refusal :=
  next (doCodeErrors (linkKey run.link) run.groups run.inFrame run.positive (advance dt s))

/-- COMMA_LOSS: no K28.5 for 4,096 symbols. -/
def execCommaLoss (dt : Nat) (link : Link) (s : State) : Host.Outcome State Fault Refusal :=
  next (linkDown (linkKey link) 2 (advance dt s))

/-- Eight bad frames in a row; on the pair link, whose messages this model takes whole, the command says so. -/
def doBadRun (k : Nat) (s : State) : State :=
  if 32 ≤ k ∨ 8 ≤ (s.lane k).badRun then linkDown k 3 s else s

/-- BAD_FRAME_RUN. -/
def execBadFrameRun (dt : Nat) (link : Link) (s : State) : Host.Outcome State Fault Refusal :=
  next (doBadRun (linkKey link) (advance dt s))

/-- No valid upstream frame for UPSTREAM_TIMEOUT. -/
def doUpstreamSilent (l : Nat) (s : State) : State :=
  if (s.lane l).validAt + msCk (s.val (0x5000 + l) 12) ≤ s.clk.core then laneDown l 4 s else s

/-- UPSTREAM_SILENT. -/
def execUpstreamSilent (dt : Nat) (lane : Fin 32) (s : State) : Host.Outcome State Fault Refusal :=
  next (doUpstreamSilent lane.val (advance dt s))

/-- Three TIME_SYNCs in a row without DELAY_RESP; the answer to the newest is due 10 microseconds after it (R190, R214). -/
def doUnanswered (l : Nat) (s : State) : State :=
  match (s.lane l).syncs with
  | (_, t1) :: rest => if 2 ≤ rest.length ∧ t1 + (usT 10 : Nat) ≤ (s.now : Int) then linkDown l 5 s else s
  | [] => s

/-- TIME_SYNC_UNANSWERED. -/
def execTimeSyncUnanswered (dt : Nat) (link : Link) (s : State) : Host.Outcome State Fault Refusal :=
  next (doUnanswered (linkKey link) (advance dt s))

/-- TIME_SYNC_PERIOD has passed on a lane in RUN: a TIME_SYNC is queued (R190). -/
def doSyncDue (l : Nat) (s : State) : State :=
  let x := s.lane l
  if s.sendsTime l && decide (x.syncDue ≤ s.clk.core) && x.syncQueue == 0 then pumpLane l (setLane l { x with syncQueue := 1 } s) else s

/-- TIME_SYNC_SEND. -/
def execTimeSyncSend (dt : Nat) (link : Link) (s : State) : Host.Outcome State Fault Refusal :=
  next (doSyncDue (linkKey link) (advance dt s))

/-- No STATUS for bay b for UPSTREAM_TIMEOUT while its lane is in RUN (R197). -/
def doStatusMissing (b : Nat) (s : State) : State :=
  let x := s.bay b
  let l := b / 16
  if s.running l && s.populated b && !x.inkCold && decide (x.statusAt + msCk (s.val (0x5000 + l) 12) ≤ s.clk.core) then
    raise 0x080A (0x0200 + l) (le 2 b)
      (forgetSensor (0x2000 + b) (forgetSensor (0x3000 + b) (enterCold b none (setBay b { x with missing := true } s))))
  else s

/-- STATUS_MISSING. -/
def execStatusMissing (dt : Nat) (bay : Fin 512) (s : State) : Host.Outcome State Fault Refusal :=
  next (doStatusMissing bay.val (advance dt s))

/-! RETRAIN (R215) -/

/-- What an accepted RETRAIN of lane l does, its operation in slot k: the lane trains from DETECT; an operation on a lane
that may not train fails at once. -/
def retrain (l k : Nat) (s : State) : State :=
  if (s.lane l).train.state == .test || !s.eligible l || !s.inControl then endOp k .failed 0xAB080007 s
  else
    let s1 := setLane l { s.lane l with retrains := (s.lane l).retrains ++ [k], hold := false } s
    if s1.running l then laneDown l 6 s1
    else startDetect l (setTrain l { (s1.lane l).train with timeouts := 0 } s1)

/-! Test modes (R198-R200) -/

/-- TEST_MODE of lane l is refused while the lane carries a bay of a gallery in READY or PRINT. -/
def checkTestMode (l : Nat) (s : State) : Nat := if s.popMask l != 0 && s.inReadyPrint (l / 4) then 0xAB080008 else 0

/-- What lane l sends in its TEST_MODE under an INJECT value (R199, R200): the pins carry electrical idle in mode 5. -/
def testPattern (mode inject : Nat) : LinkOut :=
  match mode with
  | 1 => .prbs 7 6 inject
  | 2 => .prbs 15 14 inject
  | 3 => .prbs 23 18 inject
  | 4 => .prbs 31 28 inject
  | 5 => .electricalIdle
  | _ => .loopback

/-- What a write of TEST_MODE does. -/
def writeTestMode (l : Nat) (s : State) : State :=
  let v := s.val (0x5000 + l) 0x13
  let st := (s.lane l).train.state
  let cleared (s : State) : State := setLane l { s.lane l with prbsAt := none, prbsErrors := 0, injectAt := s.clk.core } s
  if v = 0 then
    if st == .test then placeLane l (disableLane l false (cleared s)) else cleared s
  else
    let s1 := endRetrains l .failed 0xAB080007 (cleared (if st == .run then leaveRun l s else s))
    let s2 := setTrain l { (s1.lane l).train with state := .test } s1
    sendLink l (testPattern v (s.val (0x5000 + l) 0x14)) (sendBays l s2)

/-- PRBS_LOCK: the checker of a lane in modes 1-5 has seen 64 error-free bits; once locked, it has counted so many more errors in
what it received. -/
def doPrbsLock (l errors : Nat) (s : State) : State :=
  let x := s.lane l
  let v := s.val (0x5000 + l) 0x13
  if x.train.state == .test && decide (1 ≤ v ∧ v ≤ 5) then
    match x.prbsAt with
    | none => setLane l { x with prbsAt := some s.clk.core, injectAt := s.clk.core } s
    | some _ => setLane l { x with prbsErrors := wrapAdd 64 x.prbsErrors errors } s
  else s

/-- PRBS_LOCK. -/
def execPrbsLock (dt : Nat) (check : PrbsCheck) (s : State) : Host.Outcome State Fault Refusal :=
  next (doPrbsLock check.lane.val check.errors (advance dt s))

/-- 10-bit words sent on lane l since core clock k. -/
def State.wordsSince (s : State) (l k : Nat) : Nat := (s.clk.core - k) * 10 / s.symbolTenths l

/-- Bits that INJECT value v inverts in n words: B + 1 in every Nth word, one where B is 0 (R200). -/
def injected (v n : Nat) : Nat := if bitOf v 31 && field v 23 0 != 0 then n / field v 23 0 * (field v 29 24 + 1) else 0

/-- PRBS_ERRORS under INJECT value v: in near-end loopback the checker sees every injected bit. -/
def State.prbsErrors (s : State) (l v : Nat) : Nat :=
  let x := s.lane l
  if s.val (0x5000 + l) 0x13 = 5 ∧ x.prbsAt.isSome then x.prbsErrors + injected v (s.wordsSince l x.injectAt) else x.prbsErrors

/-- PRBS_BITS, with PRBS_LOCK in bit 63 (R215). -/
def State.prbsBits (s : State) (l : Nat) : Nat :=
  match (s.lane l).prbsAt with
  | some k => s.wordsSince l k * 10 % 2 ^ 63 + 2 ^ 63
  | none => 0

/-- A write of INJECT over value old: injection counts afresh from now, and a lane in modes 1-4 sends its sequence with it. -/
def writeInject (l old : Nat) (s : State) : State :=
  let s1 := setLane l { s.lane l with prbsErrors := s.prbsErrors l old, injectAt := s.clk.core } s
  let v := s.val (0x5000 + l) 0x13
  if (s.lane l).train.state == .test && decide (1 ≤ v ∧ v ≤ 4) then sendLink l (testPattern v (s.val (0x5000 + l) 0x14)) s1 else s1

end Sys2Proof.Machine
end

