-- ==== Sys2Proof/Machine/Upstream.lean ====
section
/-! DEFINITION. What modules send: STATUS, FAULT, DELAY_RESP, answers to control transactions and to identity reads, and
what the engine does when none comes (R185, R190, R201-R211). A command carries the frame's bytes, header to CRC, and stands
at the end of its EOF. -/

namespace Sys2Proof.Machine

/-! Acceptance (R185) -/

/-- Payload bytes of a frame. -/
def payloadOf (bs : Bytes) : Bytes := (bs.drop 32).take (bs.length - 36)

/-- The payload length that an upstream type and its fields require, and whether its encodings are defined. -/
def upstreamLength (type : Nat) (p : Bytes) : Option Nat :=
  match type with
  | 0x81 => some 160
  | 0x90 => if leAt p 2 2 ≤ 4 then some 8 else none
  | 0x91 =>
    if leAt p 2 2 = 0 then (if leAt p 6 2 ≤ 256 ∧ 4 ≤ leAt p 6 2 ∧ leAt p 6 2 % 4 = 0 then some (8 + leAt p 6 2) else none)
    else if leAt p 2 2 ≤ 4 then some 8 else none
  | 0x93 =>
    if 15 < byteAt p 0 then none
    else if byteAt p 1 = 0 then (if 1 ≤ leAt p 8 2 ∧ leAt p 8 2 ≤ 256 then some (16 + leAt p 8 2) else none)
    else if byteAt p 1 ≤ 3 then some 16 else none
  | 0xA0 => if (byteAt p 2 ≤ 15 ∨ byteAt p 2 = 0xFF) ∧ 1 ≤ leAt p 0 2 ∧ leAt p 0 2 ≤ 6 then some 16 else none
  | 0xB0 => some 24
  | _ => none

/-- The frame passes the CRC, the length, the encodings and the lane check. -/
def goodFrame (l type : Nat) (bs : Bytes) : Bool :=
  let n := bs.length
  decide (36 ≤ n) && byteAt bs 0 == type && byteAt bs 3 == l % 32 && leAt bs 6 2 == n - 36 &&
    upstreamLength type (payloadOf bs) == some (n - 36) && crc32c (bs.take (n - 4)) == leAt bs (n - 4) 4

/-- A frame discarded as bad. -/
def badFrame (l : Nat) (s : State) : State :=
  let x := s.lane l
  setLane l { x with badFrames := wrapAdd 32 x.badFrames 1, badRun := x.badRun + 1 } s

/-- A frame discarded and counted without entering the run of bad frames (R201, R205). -/
def countBad (l : Nat) (s : State) : State :=
  setLane l { s.lane l with badFrames := wrapAdd 32 (s.lane l).badFrames 1 } s

/-- ALIVE a is accepted: the expectation moves past it, with n frames counted as lost. -/
def acceptAlive (l a n : Nat) (s : State) : State :=
  let x := s.lane l
  let s1 := setLane l { x with
    aliveRx := some ((a + 1) % 256), badRun := 0, framesLost := wrapAdd 32 x.framesLost n } s
  if n = 0 then s1 else raise 0x0804 (0x0200 + l) (le 1 l ++ le 1 1 ++ le 1 n) s1

/-- A frame of a type arrives on lane l: whether it is accepted, and the state after the checks of R185. -/
def receive (l type : Nat) (bs : Bytes) (s : State) : Bool × State :=
  if !s.running l then (false, s)
  else if !goodFrame l type bs then (false, badFrame l s)
  else
    let a := byteAt bs 2
    match (s.lane l).aliveRx with
    | none => (true, acceptAlive l a 0 s)
    | some e =>
      if (a + 1) % 256 = e then
        (false, raise 0x0805 (0x0200 + l) (le 1 l ++ le 1 1 ++ le 1 a) (setLane l { s.lane l with badRun := 0 } s))
      else (true, acceptAlive l a ((a + 256 - e) % 256) s)

/-- A valid upstream frame restarts UPSTREAM_TIMEOUT (R197); one that R213 lets start later does not shorten it. -/
def heard (l : Nat) (s : State) : State :=
  setLane l { s.lane l with validAt := max (s.lane l).validAt s.clk.core } s

/-- The effect of an accepted frame, f of its payload. -/
def onFrame (l type : Nat) (bs : Bytes) (f : Bytes → State → State) (s : State) : State :=
  let r := receive l type bs s
  if r.1 then f (payloadOf bs) (heard l r.2) else r.2

/-! STATUS (R168-R170, R205) -/

/-- BAND_EDGE k of the gallery of bay b. -/
def State.bandEdge (s : State) (b k : Nat) : Int := s.ival (0x3030 + 0x100 * (b / 64)) (4 + k) 2

/-- The band after a report of temperature t (R168). -/
def State.bandFor (s : State) (b band : Nat) (t : Int) : Nat :=
  let up := (List.range 3).foldl (fun n _ => if n < 3 && decide (s.bandEdge b (n + 1) ≤ t) then n + 1 else n) band
  if up ≠ band then up
  else (List.range 3).foldl (fun n _ => if 0 < n && decide (t < s.bandEdge b n - 10) then n - 1 else n) band

/-- The band of bay b is updated; a change raises WAVE_BAND. -/
def updateBand (b : Nat) (t : Int) (s : State) : State :=
  let x := s.bay b
  let n := s.bandFor b x.band t
  if n = x.band then s
  else raise 0x0709 (0x0200 + b / 16) (le 2 b ++ le 1 n ++ zeros 1 ++ le 2 (usg 16 t)) (setBay b { x with band := n } s)

/-- The width trim before clamping (R169). -/
def State.trimOf (s : State) (b : Nat) (t : Int) (v : Nat) : Int :=
  let i := 0x4000 + b
  32768 + rne (s.ival i 5 2 * (t - s.ival i 7 2)) 9 + rne (s.ival i 6 2 * ((v : Int) - s.val i 8)) 9

/-- The trim of bay b is recomputed; beyond 12 percent it is clamped and TRIM_CLAMPED raised. -/
def updateTrim (b : Nat) (t : Int) (v : Nat) (s : State) : State :=
  let w := s.trimOf b t v
  let out := decide (w < 28836) || decide (36700 < w)
  let s1 := setBay b { s.bay b with trim := (clampI 28836 36700 w).toNat, clamped := out } s
  if out then raiseLimited (sCk 1) 0x070A b (0x0200 + b / 16) (le 2 b ++ zeros 2 ++ le 4 (usg 32 w)) s1 else s1

/-- INK_COLD after a report (R170). -/
def updateCold (b : Nat) (t : Int) (s : State) : State :=
  let limit := s.ival (0x4000 + b) 9 2
  let x := s.bay b
  if t < limit then enterCold b (some t) s
  else if x.inkCold && decide (limit + 10 ≤ t) then setBay b { x with inkCold := false } s
  else s

/-- Bay b at position i takes its part of a STATUS. -/
def statusBay (p : Bytes) (b i : Nat) (s : State) : State :=
  let t := sgn 16 (leAt p (32 + 8 * i) 2)
  let ink := sgn 16 (leAt p (34 + 8 * i) 2)
  let v := leAt p (36 + 8 * i) 2
  let x := s.bay b
  let s1 := setBay b { x with
    temp := t, inkTemp := ink, supply := v, missing := false, statusAt := max x.statusAt s.clk.core
    wavesLoaded := bitOf (leAt p 2 2) i } s
  sampleSensor (0x3000 + b) ink (sampleSensor (0x2000 + b) t (updateCold b t (updateTrim b t v (updateBand b t s1))))

/-- The module's FRAMES_LOST has risen since its last STATUS: frames sent down the lane were lost (R185, R205, R217). -/
def noteModuleLost (l : Nat) (before : Option Nat) (lost : Nat) (s : State) : State :=
  match before with
  | none => s
  | some n => if lost = n then s else raise 0x0804 (0x0200 + l) (le 1 l ++ le 1 0 ++ le 1 (usg 32 ((lost : Int) - n))) s

/-- An accepted STATUS payload (R205): a report too soon after the last is discarded and counted. -/
def doStatus (l : Nat) (p : Bytes) (s : State) : State :=
  let x := s.lane l
  if (match x.statusAt with | some t => decide (s.clk.core < t + usCk 100) | none => false) then countBad l s
  else
    let fom := byteAt p 24
    let s1 := heard l (setLane l { x with
      statusAt := some s.clk.core, fomModule := fom, moduleMarginal := (marginal x.moduleMarginal fom).2
      moduleLost := some (leAt p 20 4) } s)
    let s2 := noteModuleLost l x.moduleLost (leAt p 20 4) (noteMargin l fom 1 x.moduleMarginal s1)
    sendBays l (forEach (s2.laneBays l) (fun b s => statusBay p b (b % 16) s) s2)

/-- STATUS_RECEIVED. A STATUS discarded for its rate neither counts toward a run of bad frames nor ends it, and is no valid
frame. -/
def doStatusFrame (l : Nat) (bs : Bytes) (s : State) : State :=
  let r := receive l 0x81 bs s
  if !r.1 then r.2
  else
    let early := match (s.lane l).statusAt with | some t => decide (s.clk.core < t + usCk 100) | none => false
    doStatus l (payloadOf bs) (if early then setLane l { r.2.lane l with badRun := (s.lane l).badRun } r.2 else r.2)

/-- STATUS_RECEIVED. -/
def execStatusReceived (dt : Nat) (lane : Fin 32) (frame : Bytes) (s : State) : Host.Outcome State Fault Refusal :=
  next (doStatusFrame lane.val frame (advance dt s))

/-! FAULT (R206) -/

/-- An accepted FAULT payload with the header's LINE. -/
def doFault (l line : Nat) (p : Bytes) (s : State) : State :=
  let code := leAt p 0 2
  let pos := byteAt p 2
  let g := l / 4
  if code = 1 then
    let x := s.gal g
    let s1 := setGal g { x with lines := x.lines.map (fun y =>
      if y.line == line then { y with reasons := setBit y.reasons 9 true } else y) } s
    raise 0x0807 (0x0200 + l) (le 1 l ++ le 1 pos ++ zeros 2 ++ le 4 line)
      (setLane l { s1.lane l with lateCount := wrapAdd 32 (s1.lane l).lateCount 1 } s1)
  else raise 0x0808 (0x0200 + l) (le 1 l ++ le 1 pos ++ le 2 code ++ le 4 line) s

/-- A sweep's shot that the module reports with FAULT does not count (R248). -/
def faultShot (l line : Nat) (s : State) : State :=
  match s.sweep with
  | none => s
  | some _ => spoilShots (fun h => h.lane == l && h.line == line) s

/-- FAULT_RECEIVED. -/
def execFaultReceived (dt : Nat) (lane : Fin 32) (frame : Bytes) (s : State) : Host.Outcome State Fault Refusal :=
  next (onFrame lane.val 0xA0 frame (fun p s =>
    faultShot lane.val (leAt frame 8 4) (doFault lane.val (leAt frame 8 4) p s)) (advance dt s))

/-! DELAY_RESP (R190, R191) -/

/-- Device-time units of one 10-bit symbol of lane l. -/
def State.symbolT (s : State) (l : Nat) : Nat := nsT (2 ^ s.rateOf l)

/-- DELAY from the four stamps and ASYM (R190). -/
def delayOf (t1 t2 t3 t4 asym : Int) : Int := rne ((t4 - t1) - (t3 - t2)) 1 + rneDiv (asym * 65536) 1000

/-- An accepted DELAY_RESP: the DELAY of its TIME_SYNC; the first of a RUN above 300 ns fails the training. T4 is when its
62 symbols began to arrive. -/
def doDelayResp (l : Nat) (p : Bytes) (s : State) : State :=
  let x := s.lane l
  match x.syncs.find? (fun q => q.1 == leAt p 0 2) with
  | none => s
  | some (seq, t1) =>
    let t4 : Int := s.now - 62 * s.symbolT l
    let t2 : Int := leAt p 8 8
    let d := delayOf t1 0 (sgn 64 (usg 64 ((leAt p 16 8 : Int) - t2))) t4 (s.ival (0x5000 + l) 8 2)
    let first := x.delay.isNone
    let x1 := { x with
      delay := some d, lastDelay := d, syncs := x.syncs.takeWhile (fun q => q.1 != seq)
      syncQueue := if first then x.syncQueue + 1 else x.syncQueue }
    let s1 := setLane l x1 s
    if first && decide ((nsT 300 : Nat) < d) then linkDown l 7 s1
    else if x.settingUp then finishSetup l (pumpLane l s1)
    else pumpLane l s1

/-- DELAY_RESP_RECEIVED. -/
def execDelayRespReceived (dt : Nat) (link : Link) (frame : Bytes) (s : State) : Host.Outcome State Fault Refusal :=
  next (onFrame (linkKey link) 0xB0 frame (doDelayResp (linkKey link)) (advance dt s))

/-! Head identity (R207-R211) -/

/-- The fields of the identity record that are checked, in offset order: each with its first byte and whether it passes. -/
def recordChecks (r : Bytes) : List (Nat × Bool) :=
  let u (o n : Nat) : Nat := leAt r o n
  let i (o : Nat) : Int := sgn 16 (leAt r o 2)
  [(0, u 0 4 == 0x44494448), (4, u 4 1 == 1), (5, decide (u 5 1 ≤ 3)), (6, decide (1 ≤ u 6 2 ∧ u 6 2 ≤ 0xFFFE)),
   (8, [1024, 1280, 1536, 2048].contains (u 8 2)), (10, u 10 2 == 64), (12, decide (1000 ≤ u 12 4 ∧ u 12 4 ≤ 160000)),
   (16, padded (sliceB r 16 16)), (32, (List.range 6).all (fun k => decide (u (32 + 2 * k) 2 ≤ u (34 + 2 * k) 2))),
   (46, u 46 2 == 0), (52, decide (-400 ≤ i 52 ∧ i 52 ≤ 1500)), (54, decide (1 ≤ u 54 2 ∧ u 54 2 ≤ 60000)),
   (56, (sliceB r 56 28).all (fun b => decide (b.toNat ≤ 15))), (84, decide (i 84 < i 86)),
   (86, decide (-400 ≤ i 86 ∧ i 86 ≤ 1500)), (88, decide (u 88 2 ≤ 16)), (90, u 90 2 == 0),
   (92, decide (u 92 4 ≤ 16384) && (u 88 2 != 0 || u 92 4 == 0))]
where
  /-- Printable ASCII padded with 0x00. -/
  padded (bs : Bytes) : Bool :=
    let rest := bs.dropWhile (fun b => b != 0)
    (bs.takeWhile (fun b => b != 0)).all (fun b => decide (0x20 ≤ b.toNat ∧ b.toNat ≤ 0x7E)) && allZero rest

/-- ID_FAULT of a record as read: 0xFF for its CRC, else the first failing field's offset (R209); none if it passes. -/
def recordFault (r : Bytes) : Option Nat :=
  if crc32c (r.take 252) != leAt r 252 4 then some 0xFF
  else ((recordChecks r).find? (fun c => !c.2)).map (·.1)

/-- HEAD_ID_INVALID with a reason (R210, R217). -/
def raiseIdInvalid (b reason : Nat) (s : State) : State :=
  raise 0x0806 (0x0200 + b / 16) (le 2 b ++ le 1 reason ++ le 1 (s.val (0x4000 + b) 0x13)) s

/-- Record r of bay b, read while its gallery is in READY or PRINT, differs from the one last accepted (R210). -/
def State.recordChanged (s : State) (b : Nat) (r : Bytes) : Bool :=
  s.inReadyPrint (b / 64) && !(s.bay b).accepted.isEmpty && (s.bay b).accepted != r

/-- Bay b's record fails, or none was answered (ID_FAULT 0xFE): overridden, or kept out (R209, R210). -/
def failIdentity (b fault : Nat) (r : Bytes) (s : State) : State :=
  let x := s.bay b
  let st := if s.flag (0x4000 + b) 0x13 then IdState.overridden else if fault = 0xFE then .noAnswer else .disabled
  let changed := fault != 0xFE && s.recordChanged b r
  let s1 := raiseIdInvalid b fault
    (setBay b { x with
      idState := st, idFault := fault, record := r, reading := [], extension := [], extInvalid := false, heldOut := x.heldOut || changed } s)
  sendBays (b / 16) (if changed then raiseIdInvalid b 0xFD s1 else s1)

/-- K_T, K_V, T_REF and V_REF of an accepted record enter bay b's entries (R209). -/
def takeCoefficients (b : Nat) (r : Bytes) (s : State) : State :=
  let i := 0x4000 + b
  setVal i 8 (leAt r 54 2) (setVal i 7 (leAt r 52 2) (setVal i 6 (leAt r 50 2) (setVal i 5 (leAt r 48 2) s)))

/-- The record of bay b passes: its coefficients enter the bay's entries; one that differs from the record last accepted
keeps the bay out while its gallery is in READY or PRINT (R209, R210). -/
def acceptIdentity (b : Nat) (r : Bytes) (s : State) : State :=
  let x := s.bay b
  let changed := s.recordChanged b r
  let s1 := setBay b { x with
    idState := .accepted, idFault := if changed then 0xFD else 0, record := r, accepted := r, reading := []
    extension := [], extInvalid := false, heldOut := x.heldOut || changed } s
  let s2 := takeCoefficients b r s1
  sendBays (b / 16) (if changed then raiseIdInvalid b 0xFD s2 else s2)

/-- The extension blocks from offset o of the bytes read: n of them, each with a matching length and CRC (R208). -/
def goodBlocks (nozzles : Nat) (bs : Bytes) : Nat → Nat → Bool
  | 0, _ => true
  | n + 1, o =>
    let len := leAt bs (o + 4) 4
    decide (o + 16 + len ≤ bs.length) && crc32c (sliceB bs (o + 16) len) == leAt bs (o + 8) 4 &&
      (leAt bs o 2 != 1 || len == nozzles) && goodBlocks nozzles bs n (o + 16 + len)

/-- The extension of bay b has been read whole. -/
def finishExtension (b : Nat) (bs : Bytes) (s : State) : State :=
  let x := s.bay b
  setBay b { x with extension := bs, reading := [], extInvalid := !(goodBlocks (leAt x.record 8 2) bs (leAt x.record 88 2) 0) } s

/-- The next bytes of bay b's extension are asked for, or it is complete. -/
def readExtension (b : Nat) (s : State) : State :=
  let x := s.bay b
  let total := leAt x.record 92 4
  if total ≤ x.reading.length then finishExtension b (x.reading.take total) s
  else readHead b (256 + x.reading.length) (min 256 (total - x.reading.length)) s

/-- An answer to the identity read of bay b at an address: RESULT 0 and its data, or a failure. -/
def doIdentity (b address : Nat) (p : Bytes) (s : State) : State :=
  if address = 0 then
    if byteAt p 1 ≠ 0 ∨ leAt p 8 2 ≠ 256 then failIdentity b 0xFE [] s
    else
      let r := sliceB p 16 256
      match recordFault r with
      | some f => failIdentity b f r s
      | none =>
        let s1 := acceptIdentity b r s
        if leAt r 92 4 = 0 then s1 else readExtension b s1
  else
    let x := s.bay b
    if byteAt p 1 ≠ 0 then setBay b { x with extension := x.reading, reading := [], extInvalid := true } s
    else readExtension b (setBay b { x with reading := x.reading ++ p.drop 16 } s)

/-! Answers (R201, R207) -/

/-- The outstanding transaction of lane l with a TAG whose frame has one of the types, and the lane without it; a resend of it that
waits goes with it. -/
def State.answered (s : State) (l tag : Nat) (types : List Nat) : Option (Ctrl × Lane) :=
  let x := s.lane l
  (takeFirst (fun c : Ctrl => c.tag == tag && types.contains c.frame.type) x.outstanding).map
    (fun r => (r.1, { x with outstanding := r.2, ctrlQueue := x.ctrlQueue.filter (fun d => d.tag != tag) }))

/-- The REG_DATA transaction that waits has its answer (R215). -/
def answerReg (result : Nat) (data : Bytes) (s : State) : State :=
  match s.cat.reg with
  | none => s
  | some w => { s with cat := { s.cat with reg := some { w with result := some (result, data) } } }

/-- ID_DATA. -/
def doIdData (l : Nat) (p : Bytes) (s : State) : State :=
  match s.answered l (leAt p 2 2) [0x13] with
  | none => countBad l s
  | some (c, x) =>
    let s1 := setLane l x s
    pumpLane l (match c.user with
      | .identity b address => doIdentity b address p s1
      | _ => s1)

/-- ID_DATA_RECEIVED. -/
def execIdDataReceived (dt : Nat) (lane : Fin 32) (frame : Bytes) (s : State) : Host.Outcome State Fault Refusal :=
  next (onFrame lane.val 0x93 frame (doIdData lane.val) (advance dt s))

/-- MOD_CAPS as read: a module without 4 lines of buffer or without the lane's RATE is refused (R196). -/
def capsRead (l caps : Nat) (s : State) : State :=
  let s1 := setLane l { s.lane l with caps := caps } s
  if field caps 23 20 < 4 ∨ !bitOf caps (16 + s.rateOf l) then laneDown l 8 s1 else configureLane l s1

/-- CTRL_DATA. -/
def doCtrlData (l : Nat) (p : Bytes) (s : State) : State :=
  match s.answered l (leAt p 0 2) [0x11] with
  | none => countBad l s
  | some (c, x) =>
    let s1 := setLane l x s
    let ok := leAt p 2 2 = 0
    let v := leAt p 8 4
    pumpLane l (match c.user with
      | .caps => if ok then capsRead l v s1 else configureLane l s1
      | .version => if ok then setLane l { x with version := v } s1 else s1
      | .modId => if ok then setLane l { x with modId := v } s1 else s1
      | .regRead => if ok then answerReg 0 (sliceB p 8 4) s1 else answerReg 0xAB080004 [] s1
      | _ => s1)

/-! Waveform tables (R203, R204) -/

/-- The offset after n waveform records from offset o, if they are well formed, with each INDEX and total duration in ns. -/
def waveRecords (bs : Bytes) : Nat → Nat → Option (Nat × Tab Nat)
  | 0, o => some (o, [])
  | n + 1, o =>
    let points := byteAt bs (o + 1)
    let times := (List.range points).map (fun i => leAt bs (o + 4 + 4 * i) 2)
    if byteAt bs o ≤ 15 ∧ 1 ≤ points ∧ points ≤ 32 ∧ o + 4 + 4 * points ≤ bs.length ∧ times.all (fun d => d != 0) = true ∧
        leAt bs (o + 2 + 4 * points) 2 = 0 then
      match waveRecords bs n (o + 4 + 4 * points) with
      | none => none
      | some (e, t) => if thas t (byteAt bs o) then none else some (e, tset t (byteAt bs o) (sumN times))
    else none

/-- The waveforms of a table that meets R203. -/
def waveTable (bs : Bytes) : Option (Tab Nat) :=
  if leAt bs 0 4 = 0x54574241 ∧ byteAt bs 4 = 1 ∧ 1 ≤ byteAt bs 5 ∧ byteAt bs 5 ≤ 16 then
    match waveRecords bs (byteAt bs 5) 32 with
    | some (e, t) => if e = bs.length then some t else none
    | none => none
  else none

/-- The table that WAVE_LOAD of bay b names, if its segment, form and HEAD_TYPE allow it (R204). -/
def State.waveSegment (s : State) (b id : Nat) : Option Bytes :=
  match s.committed id 7 with
  | none => none
  | some g =>
    let bs := s.segBytes g
    if (waveTable bs).isSome && (s.flag (0x4000 + b) 0x13 || leAt bs 6 2 == leAt (s.bay b).record 6 2) then some bs else none

/-- The WAVE_LOAD frame for the bytes from an offset of a table. -/
def wavePayload (b : Nat) (bs : Bytes) (o tag : Nat) : Bytes :=
  let data := sliceB bs o 2048
  let last := bs.length ≤ o + 2048
  le 1 (b % 16) ++ le 1 (b2n (o == 0) + 2 * b2n last) ++ le 2 tag ++ le 4 o ++ le 2 data.length ++ zeros 2 ++
    le 4 (if last then crc32c bs else 0) ++ data

/-- Bay of a WAVE_LOAD operation, by its entry. -/
def LSlot.bay (x : LSlot) : Nat := x.kindIndex - 0x4000

/-- The WAVE_LOAD frame from offset o of the table of slot k's operation is queued; the operation fails where the table can
no longer be had. -/
def sendWave (k o : Nat) (s : State) : State :=
  let x := s.slot k
  let b := x.bay
  match s.waveSegment b (ofLe x.arg) with
  | none => endOp k .failed 0xAB080001 s
  | some bs =>
    if s.running (b / 16) then queueCtrl (b / 16) 0x12 (wavePayload b bs o) (.waveLoad k o) s
    else endOp k .failed 0xAB080002 s

/-- A WAVE_LOAD frame of slot k from offset o is acknowledged with a RESULT. -/
def waveAcked (k o result : Nat) (s : State) : State :=
  let x := s.slot k
  if x.state != .running || decide (x.kindIndex / 512 ≠ 0x20) then s
  else if result ≠ 0 then endOp k .failed 0xAB080004 s
  else
    match s.waveSegment x.bay (ofLe x.arg) with
    | none => endOp k .failed 0xAB080001 s
    | some bs =>
      if bs.length ≤ o + 2048 then
        endOp k .done 0 (setBay x.bay { s.bay x.bay with wavesLoaded := true, waves := (waveTable bs).getD [] } s)
      else sendWave k (o + 2048) (progressOp k ((o + 2048) * 10000 / bs.length) s)

/-- CTRL_ACK. -/
def doCtrlAck (l : Nat) (p : Bytes) (s : State) : State :=
  match s.answered l (leAt p 0 2) [0x10, 0x12] with
  | none => countBad l s
  | some (c, x) =>
    let s1 := setLane l x s
    let result := leAt p 2 2
    pumpLane l (match c.user with
      | .regWrite => answerReg (if result = 0 then 0 else 0xAB080004) [] s1
      | .waveLoad k o => waveAcked k o result s1
      | _ => s1)

/-! Retries -/

/-- A transaction of lane l is to go out again under its TAG, ahead of the queue; it stays outstanding meanwhile. -/
def resend (l : Nat) (c : Ctrl) (x : Lane) (s : State) : State :=
  let d := { c with resends := c.resends + 1 }
  pumpLane l (setLane l { x with ctrlQueue := d :: x.ctrlQueue, outstanding := d :: x.outstanding } s)

/-- A resend of the transaction with a TAG waits on lane l. -/
def State.resending (s : State) (l tag : Nat) : Bool := (s.lane l).ctrlQueue.any (fun d => d.tag == tag)

/-- What becomes of a transaction that the module did not answer (R201). -/
def ctrlTimeout (l : Nat) (c : Ctrl) (s : State) : State :=
  let address := if c.frame.type = 0x12 then 0 else leAt c.frame.payload 2 2
  let s1 := raise 0x080B (0x0200 + l) (le 1 l ++ zeros 1 ++ le 2 c.tag ++ le 2 address) s
  match c.user with
  | .caps => configureLane l s1
  | .regRead => answerReg 0xAB080003 [] s1
  | .regWrite => answerReg 0xAB080003 [] s1
  | .waveLoad k _ => if (s1.slot k).state == .running then endOp k .failed 0xAB080003 s1 else s1
  | _ => s1

/-- A control transaction unanswered for 1 ms is sent again, three times, and then times out. -/
def doCtrlRetry (l tag : Nat) (s : State) : State :=
  match s.answered l tag [0x10, 0x11, 0x12] with
  | none => s
  | some (c, x) =>
    if !s.running l || s.resending l tag || decide (s.clk.core < c.sentAt + msCk 1) then s
    else if c.resends < 3 then resend l c x s
    else pumpLane l (ctrlTimeout l c (setLane l x s))

/-- An ID_READ unanswered for 50 ms is sent again, three times; then the bay gives no answer (R207, R209). -/
def doIdRetry (l tag : Nat) (s : State) : State :=
  match s.answered l tag [0x13] with
  | none => s
  | some (c, x) =>
    if !s.running l || s.resending l tag || decide (s.clk.core < c.sentAt + msCk 50) then s
    else if c.resends < 3 then resend l c x s
    else
      let s1 := setLane l x s
      pumpLane l (match c.user with
        | .identity b 0 => failIdentity b 0xFE [] s1
        | .identity b _ => setBay b { s1.bay b with extension := (s1.bay b).reading, reading := [], extInvalid := true } s1
        | _ => s1)

/-- ID_READ_RETRY. -/
def execIdReadRetry (dt : Nat) (lane : Fin 32) (tag : BitVec 16) (s : State) : Host.Outcome State Fault Refusal :=
  next (doIdRetry lane.val tag.toNat (advance dt s))

end Sys2Proof.Machine
end

