-- ==== Sys2Proof/Machine/Plans.lean ====
section
/-! DEFINITION. Arming and disarming a hanging plan, with its checks and budgets, and the caption queues' commands (R111,
R112, R115, R119, R121, R123-R127, R129, R153). -/

namespace Sys2Proof.Machine

/-! Form (R113-R115) -/

/-- lo ≤ x ≤ hi. -/
def inR (lo hi x : Nat) : Bool := decide (lo ≤ x) && decide (x ≤ hi)

/-- The header of a plan is well formed (R113, R115). -/
def headerOk (bs : Bytes) : Bool :=
  decide (64 ≤ bs.length) && leAt bs 0 4 == 0x50484241 && byteAt bs 4 == 1 && byteAt bs 5 == 0 && decide (leAt bs 6 2 < 2) &&
    (planEndless bs || inR 1 0x7FFFFFFF (planExtent bs)) && inR 1 1048576 (planPitch bs) && inR 1 256 (planAcross bs) &&
    leAt bs 18 2 == 0 && inR 1 262144 (planCellPitch bs) && decide (planOrigin bs ≤ 262143) && leAt bs 28 4 == 0

/-- The placement record at offset o is in its ranges, for a plane of sx and sy (R114, R115). -/
def placementOk (bs : Bytes) (sx sy o : Nat) : Bool :=
  let q := placementAt bs o
  let even2 (n x : Nat) : Bool := n == 1 || x % 2 == 0
  inR 1 3 q.kind && decide (q.blend ≤ 3) && decide (byteAt bs (o + 3) < 2) && leAt bs (o + 9) 3 == 0 && leAt bs (o + 36) 4 == 0 &&
    inR 1 262144 q.width && inR 1 0x7FFFFFFF q.height &&
    (match q.kind with
      | 1 => q.value == 0
      | 2 => decide (q.source ≤ 63) && q.grid
      | _ => q.source == 0) &&
    (if q.grid then
      leAt bs (o + 28) 8 == 0 && decide (q.column + q.width ≤ planCellPitch bs) && decide (q.line + q.height ≤ planPitch bs)
     else
      decide (q.column ≤ 262143) && decide (q.line ≤ 0x7FFFFFFF) && inR 1 4096 q.acrossCount && even2 sx q.acrossStep &&
        even2 sy q.downStep && even2 sx q.column && even2 sx q.width && even2 sy q.line && even2 sy q.height)

/-- The plane record at offset o is well formed (R114, R115). -/
def planeOk (bs : Bytes) (o : Nat) : Bool :=
  let n := leAt bs o 2
  let pl := planeAt bs o
  decide (64 ≤ o) && o % 8 == 0 && inR 1 256 n && decide (o + 16 + 40 * n ≤ bs.length) && inR 1 2 pl.sx && inR 1 2 pl.sy &&
    decide (pl.input ≤ 1) && allZero (sliceB bs (o + 6) 10) &&
    (List.range n).all (fun i => placementOk bs pl.sx pl.sy (o + 16 + 40 * i)) &&
    (pl.sy == 1 || planPitch bs % 2 == 0 || pl.places.all (fun q => !q.grid)) &&
    (pl.input == 0 || (pl.sx == 1 && pl.sy == 1 && pl.places.all (fun q => q.kind != 2 && q.blend == 0)))

/-- The galleries that have a plane record of their own. -/
def planGalleries (bs : Bytes) : List Nat := (List.range 8).filter (fun g => planOffset bs g != 0)

/-- No two plane records overlap. -/
def planesApart (bs : Bytes) : Bool :=
  let size (g : Nat) : Nat := 16 + 40 * leAt bs (planOffset bs g) 2
  (planGalleries bs).all (fun g => (planGalleries bs).all (fun h =>
    g == h || decide (planOffset bs g + size g ≤ planOffset bs h) || decide (planOffset bs h + size h ≤ planOffset bs g)))

/-- The plan is well formed for this press (R115). -/
def State.planOk (s : State) (bs : Bytes) : Bool :=
  headerOk bs && (planGalleries bs).all (fun g => planeOk bs (planOffset bs g)) && planesApart bs &&
    (planGalleries bs).all (fun g => !(s.paired g && g % 2 == 1)) &&
    (List.range 8).all (fun g => match s.planeOf bs g with
      | none => true
      | some pl => pl.input == 0 || pl.places.all (fun q => q.kind != 3 || decide (q.value ≤ 2 ^ (s.bitsOf g) - 1)))

/-! References (R126 check 4) -/

/-- A contone tile meets R111. -/
def contoneOk (bs : Bytes) : Bool :=
  let w := leAt bs 8 4
  let h := leAt bs 12 4
  decide (16 ≤ bs.length) && leAt bs 0 4 == 0x54434241 && byteAt bs 4 == 1 && inR 1 65536 w && inR 1 1048576 h && bs.length == 16 + w * h

/-- A drop-plane tile of a depth meets R153. -/
def dropOk (bits : Nat) (bs : Bytes) : Bool :=
  let w := leAt bs 8 4
  let h := leAt bs 12 4
  decide (16 ≤ bs.length) && leAt bs 0 4 == 0x50444241 && byteAt bs 4 == 1 && byteAt bs 5 == bits && inR 1 65536 w &&
    inR 1 1048576 h && bs.length == 16 + h * ((w * bits + 7) / 8)

/-- What one placement of gallery g's plane refers to is there and fits. -/
def State.referenceOk (s : State) (g : Nat) (pl : Plane) (q : Placement) : Bool :=
  match q.kind with
  | 1 =>
    match s.committed q.source (if pl.input = 0 then 1 else 2) with
    | none => false
    | some x => if pl.input = 0 then contoneOk (s.segBytes x) else dropOk (s.bitsOf g) (s.segBytes x)
  | 2 =>
    let i := 0x6210 + q.source
    s.val i 1 != 0 && s.val i 2 * pl.sx == q.width && s.val i 3 * pl.sy == q.height
  | _ => true

/-- Everything a plan names is there and fits. -/
def State.referencesOk (s : State) (bs : Bytes) : Bool :=
  (List.range 8).all (fun g => match s.planeOf bs g with
    | none => true
    | some pl => pl.places.all (s.referenceOk g pl))

/-- The segments a plan names besides its own. -/
def planTiles (bs : Bytes) : List Nat :=
  (planGalleries bs).flatMap (fun g => ((planeAt bs (planOffset bs g)).places.filter (fun q => q.kind == 1)).map (·.source))

/-- The live plans. -/
def State.livePlans (s : State) : List Plan := s.plans.active.toList ++ s.plans.armed.toList

/-- A live plan names segment id, or is it (R126). -/
def State.planNames (s : State) (id : Nat) : Bool := s.livePlans.any (fun p => p.id == id || (planTiles p.bytes).contains id)

/-! The tile cache (R119) -/

/-- The tiles of a plane that fit a room, in record order, each once. -/
def State.cacheFill (s : State) (type : Nat) : List Placement → Nat → List (Nat × Bytes) → List (Nat × Bytes)
  | [], _, got => got
  | q :: qs, room, got =>
    if q.kind != 1 || got.any (fun c => c.1 == q.source) then s.cacheFill type qs room got
    else
      match s.committed q.source type with
      | none => s.cacheFill type qs room got
      | some x =>
        if x.length - 16 ≤ room then s.cacheFill type qs (room - (x.length - 16)) (got ++ [(q.source, s.segBytes x)])
        else s.cacheFill type qs room got

/-- The plan's half of every gallery's cache: 512 KiB each. -/
def State.planCache (s : State) (bs : Bytes) : Tab (List (Nat × Bytes)) :=
  (List.range 8).filterMap (fun g => (s.planeOf bs g).map (fun pl =>
    (g, s.cacheFill (if pl.input = 0 then 1 else 2) pl.places 524288 [])))

/-- CACHE_USED of gallery g. -/
def State.cacheUsed (s : State) (g : Nat) : Nat :=
  sumN (s.livePlans.flatMap (fun p => (tget [] p.cached g).map (fun c => c.2.length - 16)))

/-! Budgets (R124, R125) -/

/-- k_p: the rectangles of a placement that can share one line. -/
def Plan.sharing (p : Plan) (q : Placement) : Nat :=
  if q.grid then planAcross p.bytes
  else q.acrossCount * (if q.downStep ≠ 0 ∧ q.downStep < q.height then (q.height + q.downStep - 1) / q.downStep else 1)

/-- Columns from the lowest first to the highest last column of gallery g's bays (R117). -/
def State.span (s : State) (g : Nat) : Nat :=
  let bays := (s.popBays g).filter (fun b => s.nozzles b != 0)
  match bays with
  | [] => 0
  | b :: _ => maxN (bays.map (fun b => s.colStart b + s.nozzles b)) - bays.foldl (fun m b => min m (s.colStart b)) (s.colStart b)

/-- COMPOSE_CYCLES of gallery g. -/
def State.composeCycles (s : State) (p : Plan) (g : Nat) : Nat :=
  match s.planeOf p.bytes g with
  | none => 0
  | some pl => (s.span g + 31) / 32 + 64 + sumN (pl.places.map (fun q => p.sharing q * ((q.width + 63) / 64 + 16)))

/-- Twice B_p of a placement, in bytes. -/
def State.readBytes2 (s : State) (p : Plan) (g : Nat) (pl : Plane) (q : Placement) : Nat :=
  if q.kind = 3 ∨ (q.kind = 1 ∧ (tget [] p.cached g).any (fun c => c.1 == q.source) = true) then 0
  else if pl.input = 1 then 2 * ((q.width * s.bitsOf g + 7) / 8)
  else (q.width + pl.sx - 1) / pl.sx * (2 / pl.sy)

/-- D_g, in units of 1/2000 byte per second. -/
def State.demandOf (s : State) (p : Plan) (g : Nat) : Nat :=
  match s.planeOf p.bytes g with
  | none => 0
  | some pl => s.galLimit g * sumN (pl.places.map (fun q => p.sharing q * s.readBytes2 p g pl q))

/-- The demand of a plan beside the active one, in the same unit. -/
def State.planDemand (s : State) (p : Plan) : Nat :=
  sumN ((List.range 8).map (fun g => max (s.demandOf p g) (match s.plans.active with | some a => s.demandOf a g | none => 0)))

/-- Some gallery's composition figure is above floor(1.2 GHz / F_g). -/
def State.overCycles (s : State) (p : Plan) : Bool :=
  (List.range 8).any (fun g => (s.planeOf p.bytes g).isSome && decide (1200000000000 / s.galLimit g < s.composeCycles p g))

/-! ARM (R126, R127) -/

/-- ceil(x / d) for d > 0. -/
def ceilDiv (x d : Int) : Int := -((-x) / d)

/-- The switch line after alignment. -/
def State.alignedLine (s : State) (data : Bytes) : Nat :=
  match s.plans.active with
  | some a =>
    if bitOf (byteAt data 12) 0 then
      usg 32 ((a.switch : Int) + ceilDiv (serial32 (leAt data 4 4) a.switch) (planPitch a.bytes) * planPitch a.bytes)
    else leAt data 4 4
  | none => leAt data 4 4

/-- The instance base that an INSTANCE_BASE asks for. -/
def State.baseFor (s : State) (data : Bytes) (line : Nat) : Nat :=
  if leAt data 8 4 = 0xFFFFFFFF then
    match s.plans.active with
    | some a => usg 32 ((a.base : Int) + planAcross a.bytes * ceilDiv (serial32 line a.switch) (planPitch a.bytes))
    | none => 0
  else leAt data 8 4

/-- The margin of check 5 for a switch line. -/
def State.marginOk (s : State) (line : Nat) : Bool :=
  s.gallerySet.all (fun g => decide (16 ≤ serial32 (usg 32 ((line : Int) + s.barOffset g - s.lead g)) s.lc.lastTick))

/-- The plan that an ARM names, as it would be armed. -/
def State.armPlan (s : State) (data : Bytes) : Plan :=
  let bs := match s.seg (leAt data 0 4) with | some g => s.segBytes g | none => []
  let line := s.alignedLine data
  { id := leAt data 0 4, switch := line, base := s.baseFor data line, bytes := bs, cached := s.planCache bs, runout := 0 }

/-- Checks 1-5. -/
def State.armFirst (s : State) (data : Bytes) : Nat :=
  if s.plans.armed.isSome then 0xAB050005
  else if (s.committed (leAt data 0 4) 4).isNone then 0xAB050001
  else if !s.planOk (s.armPlan data).bytes then 0xAB050002
  else if !s.referencesOk (s.armPlan data).bytes then 0xAB050003
  else if !s.marginOk (s.alignedLine data) then 0xAB050004
  else 0

/-- PLAN_DEMAND exceeds the 68,900 MB/s of R25, scaled with the data rate that BOOT trained (R368). -/
def State.overDemand (s : State) (p : Plan) : Bool :=
  decide (68900 * 2000000000 * s.dram.speed < s.planDemand p * 6400)

/-- All of R126's checks, in order. -/
def checkArm (data : Bytes) (s : State) : Nat :=
  if s.armFirst data ≠ 0 then s.armFirst data
  else if s.overCycles (s.armPlan data) then 0xAB050007
  else if s.flag 0x6100 12 && s.overDemand (s.armPlan data) then 0xAB050006
  else 0

/-- An ARM that reaches check 6 writes PLAN_DEMAND and COMPOSE_CYCLES, accepted or refused. -/
def noteBudget (data : Bytes) (s : State) : State :=
  if s.armFirst data ≠ 0 then s
  else
    let p := s.armPlan data
    setVal 0x6100 11 (clampN 0xFFFF (maxN ((List.range 8).map (s.composeCycles p))))
      (setVal 0x6100 10 (clampN 0xFFFFFFFF (rneDiv (s.planDemand p) 2000000000).toNat) s)

/-- ARM accepted. -/
def armPlanNow (data : Bytes) (s : State) : State :=
  let p := s.armPlan data
  raise 0x0501 0 (le 4 p.id ++ le 4 p.switch)
    { s with plans := { s.plans with armed := some p, switched := 0, completeTick := s.completeTickOf p.switch } }

/-! DISARM (R129) -/

/-- DISARM is refused unless the ID is armed and the margin still holds. -/
def checkDisarm (id : Nat) (s : State) : Nat :=
  match s.plans.armed with
  | none => 0xAB05000B
  | some p => if p.id = id ∧ s.marginOk p.switch = true then 0 else 0xAB05000B

/-- The armed plan is removed. -/
def disarm (s : State) : State := { s with plans := { s.plans with armed := none, switched := 0 } }

/-- STATE of 0x6100 (R132). -/
def State.planState (s : State) : Nat :=
  match s.plans.armed, s.plans.active with
  | some _, a => if s.plans.switched ≠ 0 then 4 else if a.isSome then 3 else 1
  | none, some _ => 2
  | none, none => 0

/-! Caption queues (R121, R123) -/

/-- An ENQUEUE of queue q has not ended. -/
def State.enqueuing (s : State) (q : Nat) : Bool := (s.opOf (0x6210 + q) 8).isSome

/-- A caption batch meets R112. -/
def batchOk (bs : Bytes) : Bool :=
  decide (32 ≤ bs.length) && leAt bs 0 4 == 0x42434241 && byteAt bs 4 == 1 && inR 8 8192 (leAt bs 8 2) && inR 8 8192 (leAt bs 10 2) &&
    inR 1 1048576 (leAt bs 12 4) && bs.length == 32 + leAt bs 12 4 * leAt bs 8 2 * leAt bs 10 2

/-- The batch of an ENQUEUE, while its segment is there. -/
def State.batch (s : State) (id : Nat) : Option Bytes :=
  match s.committed id 3 with
  | none => none
  | some g => if batchOk (s.segBytes g) then some (s.segBytes g) else none

/-- ENQUEUE's own refusals, in the order of R121. -/
def checkEnqueue (q id : Nat) (s : State) : Nat :=
  match s.batch id with
  | none => 0xAB050003
  | some bs =>
    if leAt bs 8 2 ≠ s.val (0x6210 + q) 2 ∨ leAt bs 10 2 ≠ s.val (0x6210 + q) 3 ∨ leAt bs 16 4 ≠ (s.queue q).next then 0xAB050008
    else if s.queueCapacity q < (s.queue q).held + leAt bs 12 4 then 0xAB050009
    else 0

/-- Tile k of a batch. -/
def batchTile (bs : Bytes) (k : Nat) : Bytes := sliceB bs (32 + k * (leAt bs 8 2 * leAt bs 10 2)) (leAt bs 8 2 * leAt bs 10 2)

/-- The tiles of a batch become visible at once; that of an instance already starved is retired as it is stored
(R121, R123). -/
def storeBatch (q : Nat) (bs : Bytes) (s : State) : State :=
  let c := s.queue q
  let n := leAt bs 12 4
  let first := c.next
  let c1 := (List.range n).foldl (fun (d : CapQ) k =>
    let i := (first + k) % 4294967296
    if tget false c.decided i then d else { d with tiles := tset d.tiles i (batchTile bs k) }) c
  setQueue q (CapQ.rebase { c1 with next := (first + n) % 4294967296 }) s

/-- The last slice of an ENQUEUE in slot k. A batch that has become LOST meets uncorrectable data (R378). -/
def finishEnqueue (k : Nat) (s : State) : State :=
  let x := s.slot k
  let lost : Bool := match s.seg (ofLe x.arg) with | some g => g.state == .lost | none => false
  match s.batch (ofLe x.arg) with
  | none => endOp k .failed (if lost then 0xAB100005 else 0xAB050003) s
  | some bs => endOp k .done 0 (storeBatch (x.kindIndex - 0x6210) bs s)

/-- RESTART is refused while a live plan has a slot on queue q. -/
def checkRestart (q : Nat) (s : State) : Nat :=
  if s.livePlans.any (fun p => (planGalleries p.bytes).any (fun g =>
      (planeAt p.bytes (planOffset p.bytes g)).places.any (fun r => r.kind == 2 && r.source == q))) then 0xAB05000A else 0

/-- QUEUE_BYTES, TILE_WIDTH or TILE_HEIGHT of queue q is to become v (R121, R132): its range, the ENQUEUE that bars it, and
the region. -/
def checkQueueEntry (q sub v : Nat) (s : State) : Nat :=
  if sub = 1 ∧ v % 65536 ≠ 0 then 0xAB010005
  else if s.enqueuing q then 0xAB010007
  else if sub = 1 ∧ s.val 0x6200 1 * 1048576 < sumN ((List.range 64).map (fun j => if j = q then v else s.val (0x6210 + j) 1)) then 0xAB040004
  else 0

/-- A changed QUEUE_BYTES, TILE_WIDTH or TILE_HEIGHT empties the queue; its numbering continues. -/
def queueChanged (q old new : Nat) (s : State) : State := if old = new then s else emptyQueue q (s.queue q).next s

/-- REGION_UNALLOCATED, KiB. -/
def State.regionLeft (s : State) : Nat := s.val 0x6200 1 * 1024 - sumN ((List.range 64).map (fun q => s.val (0x6210 + q) 1)) / 1024

end Sys2Proof.Machine
end

