-- ==== Sys2Proof/Machine/Nozzle.lean ====
section
/-! DEFINITION. Loading, editing and swapping nozzle tables, threshold arrays, and a gallery's fitness for READY
(R134-R149, R156, R157). -/

namespace Sys2Proof.Machine

/-- OWNER 1: the colour loop owns gallery g's tables (R141, R252). -/
def State.loopOwns (s : State) (g : Nat) : Bool := (tget {} s.loops g : LoopGal).owner

/-- The resource bit of gallery g's nozzle tables (R49). -/
def nozzleBit (g : Nat) : Nat := 2 ^ (8 + g)

/-- The spare table of gallery g takes a state. -/
def setSpare (g : Nat) (st : SpareState) (s : State) : State :=
  setGal g { s.gal g with noz := { (s.gal g).noz with spareState := st } } s

/-! LOAD (R138) -/

/-- LOAD's own refusals (R138, R141); Curator's own loads are not refused for the owner. -/
def checkLoad (g : Nat) (host : Bool) (s : State) : Nat :=
  if host && s.loopOwns g then 0xAB060006
  else match (s.gal g).noz.spareState with
    | .armed => 0xAB060004
    | .loading => 0xAB060002
    | _ => 0

/-- A nozzle table segment meets R137. -/
def tableSegOk (bs : Bytes) : Bool :=
  decide (32 ≤ bs.length) && leAt bs 0 4 == 0x544E4241 && byteAt bs 4 == 1 && inR 1 131072 (leAt bs 12 4) &&
    decide (leAt bs 8 4 + leAt bs 12 4 ≤ 131072) && bs.length == 32 + 8 * leAt bs 12 4

/-- Entries n, n + 1, ... as 8 bytes each spell them, after those in acc, the last one first; reset entries are not listed. -/
def entryList : Bytes → Nat → Tab Nat → Tab Nat
  | a :: b :: c :: d :: e :: f :: g :: h :: rest, n, acc =>
    let v := ofLe [a, b, c, d, e, f, g, h]
    entryList rest (n + 1) (if v = resetEntry then acc else (n, v) :: acc)
  | _, _, acc => acc.reverse

/-- The segment's entries written over a table, entry i from offset 32 + 8 i. -/
def patchTable (bs : Bytes) (t : NozTable) : NozTable :=
  let lo := leAt bs 8 4
  let hi := lo + leAt bs 12 4
  { t with entries := t.entries.filter (fun p => decide (p.1 < lo)) ++ (entryList (bs.drop 32) lo [] ++
      t.entries.filter (fun p => decide (hi ≤ p.1))) }

/-- The spare that a LOAD of segment id gives, or the code it fails with (R138, R157). -/
def State.loadTable (s : State) (g id : Nat) : Nat × NozTable :=
  let a := (s.gal g).noz.active
  if id = 0 then (if a.entries.any (fun e => entBad e.2) then (0xAB060001, a) else (0, a))
  else
    match s.committed id 5 with
    | none => (0xAB060008, a)
    | some x =>
      let bs := s.segBytes x
      if !tableSegOk bs then (0xAB060001, a)
      else
        let t := { patchTable bs a with source := id }
        if t.entries.any (fun e => entBad e.2) then (0xAB060001, t) else (0, t)

/-- A LOAD of gallery g has been accepted. -/
def beginLoad (g : Nat) (s : State) : State := setSpare g .loading s

/-- The last slice of the LOAD in slot k; an uncorrectable SRAM error fails it (R156). The spec gives the error's LINE no
value here: a free value. A LOAD that fails leaves in the EMPTY spare what its steps had written, after an SRAM error the copy
of step 1 (DEDUCED, log entry 61). -/
def finishLoad (k : Nat) (obs : SliceObs) (s : State) : State :=
  let g := ((s.slot k).kindIndex - 0x3021) / 256
  let x := s.gal g
  if obs == .uncorrectable then
    let line := (Config.freeValue s.free).toNat % 4294967296
    endOp k .failed 0xAB060009 (pathEcc g 1 line (draw
      (setGal g { x with noz := { x.noz with spare := x.noz.active, spareState := .empty } } s)))
  else
    let r := s.loadTable g (ofLe (s.slot k).arg)
    let st := if r.1 ≠ 0 then SpareState.empty else .ready
    endOp k (if r.1 ≠ 0 then .failed else .done) r.1
      (setGal g { x with noz := { x.noz with spare := r.2, spareState := st } } s)

/-! EDIT (R139) -/

/-- EDIT's checks, in R139's order. -/
def checkEdit (g : Nat) (data : Bytes) (host : Bool) (s : State) : Nat :=
  if entBad (leAt data 4 8) then 0xAB01000E
  else if 131071 < leAt data 0 4 then 0xAB010005
  else if s.resBusy (nozzleBit g) then 0xAB010007
  else if host && s.loopOwns g then 0xAB060006
  else if (s.gal g).noz.spareState != .ready then 0xAB060002
  else 0

/-- One entry of the spare is written. -/
def editTable (g : Nat) (data : Bytes) (s : State) : State :=
  let x := s.gal g
  setGal g { x with noz := { x.noz with spare := x.noz.spare.put (leAt data 0 4) (leAt data 4 8) } } s

/-! Swaps (R140) -/

/-- The swap line leaves the margin of R140. -/
def State.swapMargin (s : State) (g line : Nat) : Bool :=
  decide (16 ≤ serial32 (usg 32 ((line : Int) + s.barOffset g - s.lead g)) s.lc.lastTick)

/-- SWAP_LINE's refusals (R140, R141). -/
def checkSwap (g line : Nat) (host : Bool) (s : State) : Nat :=
  if s.resBusy (nozzleBit g) then 0xAB010007
  else if host && s.loopOwns g then 0xAB060006
  else if (s.gal g).noz.spareState != .ready then 0xAB060002
  else if !s.swapMargin g line then 0xAB060003
  else 0

/-- A swap is armed at a web line. -/
def armSwap (g line owner : Nat) (s : State) : State :=
  let x := s.gal g
  setGal g { x with noz := { x.noz with swap := some ⟨line, owner, false⟩, spareState := .armed } } s

/-- A swap is armed at this line. -/
def State.swapArmed (s : State) (g line : Nat) : Bool :=
  match (s.gal g).noz.swap with
  | some w => !w.done && w.line == line
  | none => false

/-- SWAP_CANCEL's refusals, in R140's order. -/
def checkSwapCancel (g line : Nat) (host : Bool) (s : State) : Nat :=
  if s.resBusy (nozzleBit g) then 0xAB010007
  else if host && s.loopOwns g then 0xAB060006
  else if !s.swapMargin g line then 0xAB060003
  else if !s.swapArmed g line then 0xAB060002
  else 0

/-- The armed swap is cancelled. -/
def cancelSwap (g : Nat) (s : State) : State :=
  let x := s.gal g
  setGal g { x with noz := { x.noz with swap := none, spareState := .ready } } s

/-! THRESHOLD_LOAD (R145-R147) -/

/-- Thresholds of t a cell, from the i-th of a cell on and after prev: none above 4,096 and every cell in order. -/
def cellsOk (t : Nat) : Bytes → Nat → Nat → Bool
  | a :: b :: rest, i, prev =>
    let v := a.toNat + 256 * b.toNat
    if v ≤ 4096 ∧ (i = 0 ∨ prev ≤ v) then cellsOk t rest (if i + 1 = t then 0 else i + 1) v else false
  | _, _, _ => true

/-- A threshold array segment meets R146, with no threshold above 4,096 and every cell in order. -/
def thresholdOk (bs : Bytes) : Bool :=
  let t := 2 ^ byteAt bs 5 - 1
  decide (16 ≤ bs.length) && leAt bs 0 4 == 0x41544241 && byteAt bs 4 == 1 && inR 1 3 (byteAt bs 5) &&
    bs.length == 16 + 131072 * t && cellsOk t (bs.drop 16) 0 0

/-- THRESHOLD_LOAD's refusals. -/
def checkThreshold (g id : Nat) (s : State) : Nat :=
  match s.committed id 6 with
  | none => 0xAB060008
  | some x => if !thresholdOk (s.segBytes x) || byteAt (s.segBytes x) 5 != s.bitsOf g then 0xAB060005 else 0

/-- The segment becomes the gallery's array; a threshold fault clears (R156). -/
def loadThreshold (g id : Nat) (s : State) : State :=
  match s.committed id 6 with
  | none => s
  | some x =>
    let bs := s.segBytes x
    let y := s.gal g
    setGal g { y with noz := { y.noz with
      thresholds := bs.drop 16, thresholdId := id, thresholdBits := byteAt bs 5, arrayBad := false } } s

/-! Fitness for READY (R148, R149) -/

/-- Columns that two bays in order of column start share. -/
def State.overlap (s : State) (b c : Nat) : Nat :=
  min (s.colStart b + s.nozzles b) (s.colStart c + s.nozzles c) - s.colStart c

/-- Some overlap of consecutive bays exceeds 64 columns. -/
def State.overlapsWide (s : State) : List Nat → Bool
  | b :: c :: rest => decide (64 < s.overlap b c) || s.overlapsWide (c :: rest)
  | _ => false

/-- Gallery g is not fit for READY. -/
def State.unfit (s : State) (g : Nat) : Bool :=
  let bays := s.baysByColumn g
  (s.gal g).noz.thresholdBits != s.bitsOf g || s.overlapsWide bays ||
    bays.any (fun c => decide (3 ≤ (bays.filter (fun b =>
      decide (s.colStart b ≤ s.colStart c ∧ s.colStart c < s.colStart b + s.nozzles b))).length))

/-! What a read shows (R157) -/

/-- Entries of populated nozzles of the active table in a state. -/
def State.countState (s : State) (g st : Nat) : Nat :=
  ((s.gal g).noz.active.entries.filter (fun e =>
    entState e.2 == st && s.populated (64 * g + e.1 / 2048) && decide (e.1 % 2048 < s.nozzles (64 * g + e.1 / 2048)))).length

/-- FAULTED. -/
def State.pathFaulted (s : State) (g : Nat) : Bool := (s.gal g).noz.tableBad || (s.gal g).noz.arrayBad

/-- A tone curve holds no entry above 4,095 (R134). -/
def curveOk (bs : Bytes) : Bool := (List.range 256).all (fun i => decide (leAt bs (2 * i) 2 ≤ 4095))

end Sys2Proof.Machine
end

