-- ==== Sys2Proof/Machine/Reserve.lean ====
section
/-! DEFINITION. The Reserve's layout and heap, and what its entries show (R96, R99, R100, R107, R225). -/

namespace Sys2Proof.Machine

/-! Regions (R99) -/

/-- n MiB in bytes. -/
def mib (n : Nat) : Nat := 1048576 * n

/-- n bytes rounded up to granules of 64 KiB. -/
def granule (n : Nat) : Nat := (n + 65535) / 65536 * 65536

/-- Bytes of one frame slot of context c (R225). -/
def State.slotBytes (s : State) (c : Nat) : Nat := granule (s.val (0x7000 + c) 5 * s.val (0x7000 + c) 6 * 2)

/-- Context c is enabled. -/
def State.ctxOn (s : State) (c : Nat) : Bool := s.flag (0x7000 + c) 1

/-- Bytes of the camera region up to context c. -/
def State.cameraBytes (s : State) (c : Nat) : Nat :=
  sumN (((List.range c).filter s.ctxOn).map (fun d => 2 * s.slotBytes d))

/-- Offset of the camera region. -/
def State.cameraBase (s : State) : Nat := mib (256 + s.val 0x1500 1 + s.val 0x1500 2)

/-- SLOT_OFFSET of context c; 0 while it is not enabled. -/
def State.slotOffset (s : State) (c : Nat) : Nat := if s.ctxOn c then s.cameraBase + s.cameraBytes c else 0

/-- Offset of the segment heap. -/
def State.heapBase (s : State) : Nat := s.cameraBase + s.cameraBytes 16 + mib (s.val 0x6200 1) + mib 256

/-- Bytes of ranges that have left the Reserve. -/
def State.removedBytes (s : State) : Nat := sumN (s.res.removed.map (fun r => r.hi - r.lo))

/-- End of the Reserve's offsets. -/
def State.resEnd (s : State) : Nat := s.res.capacity + s.removedBytes

/-- Bytes of removed ranges within the heap. -/
def State.heapHoles (s : State) : Nat := sumN (s.res.removed.map (fun r => r.hi - max r.lo s.heapBase))

/-- Bytes of the heap. -/
def State.heapTotal (s : State) : Nat := s.resEnd - s.heapBase - s.heapHoles

/-- Offset and granule-rounded length of everything allocated in the heap. -/
def State.allocated (s : State) : List (Nat × Nat) :=
  s.res.segs.map (fun g => (g.offset, granule g.length)) ++ s.res.flights.map (fun f => (f.offset, granule f.length))

/-- HEAP_FREE. -/
def State.heapFree (s : State) : Nat := s.heapTotal - sumN (s.allocated.map (·.2))

/-- SEGMENTS (R96). -/
def State.segments (s : State) : Nat := s.res.segs.length + s.res.flights.length

/-- A size write that would leave the heap below 1 GiB is refused (R99); s is the state with the new sizes. -/
def State.heapTooSmall (s : State) : Bool := decide (s.heapTotal < 1073741824)

/-! Allocation -/

/-- The n bytes from offset o lie in the heap and are free. -/
def State.fits (s : State) (o n : Nat) : Bool :=
  decide (s.heapBase ≤ o) && decide (o + n ≤ s.resEnd) &&
    s.allocated.all (fun a => decide (o + n ≤ a.1) || decide (a.1 + a.2 ≤ o)) &&
    s.res.removed.all (fun r => decide (o + n ≤ r.lo) || decide (r.hi ≤ o))

/-- Where n bytes go: where the allocator prefers, if they fit there, else the first place after a block in use where they do
(log entry 7: the spec fixes no placement). -/
def State.place (s : State) (n : Nat) : Option Nat :=
  let want := s.heapBase + 65536 * (Config.placement s.free % max 1 (s.heapTotal / 65536))
  if s.fits want n then some want
  else (s.heapBase :: (s.allocated.map (fun a => a.1 + a.2) ++ s.res.removed.map (·.hi))).find? (fun o => s.fits o n)

/-! RESERVE_LOW (R100) -/

/-- RESERVE_LOW is raised as HEAP_FREE crosses its marks. -/
def noteReserve (s : State) : State :=
  let low := s.val 0x6000 4
  let was := s.res.low
  let now := if was then decide (s.heapFree * 100 ≤ (low + 2) * s.heapTotal) else decide (s.heapFree * 100 < low * s.heapTotal)
  if now == was then s
  else raise 0x0405 1 (le 1 (b2n now) ++ zeros 3 ++ le 4 (s.heapFree / 65536)) { s with res := { s.res with low := now } }

/-! Segments -/

/-- The code of a segment state in QUERY_RESULT. -/
def SegState.code : SegState → Nat
  | .opened => 1
  | .verifying => 2
  | .committed => 3
  | .lost => 4

/-- QUERY_RESULT for an ID. -/
def State.queryResult (s : State) (id : Nat) : Bytes :=
  let show_ (st type len crc off : Nat) : Bytes := [BitVec.ofNat 8 st, BitVec.ofNat 8 type, 0, 0] ++ le 4 len ++ le 4 crc ++ le 4 (off / 65536)
  match s.seg id, s.res.flights.find? (fun f => f.id == id), s.res.segs.find? (fun g => g.id == id) with
  | some g, _, _ => show_ g.state.code g.type g.length g.crc g.offset
  | none, some f, _ => show_ (if f.passed then 2 else 1) f.type f.length f.crc f.offset
  | none, none, some g => show_ g.state.code g.type g.length g.crc g.offset
  | none, none, none => zeros 16

/-- The open direct segment of an ID (R98). -/
def State.direct (s : State) (id : Nat) : Option Seg := s.res.segs.find? (fun g => g.id == id && g.direct)

/-- The segments without the direct one of an ID. -/
def dropDirect (id : Nat) (s : State) : State :=
  { s with res := { s.res with segs := s.res.segs.filter (fun g => !(g.id == id && g.direct)) } }

/-- An ID is in flight on some route (R94 step 2). -/
def State.inFlight (s : State) (id : Nat) : Bool := s.res.flights.any (fun f => f.id == id) || (s.direct id).isSome

/-- A segment commits whole, in the place of any older one of its ID (R95). -/
def commitSegment (id type len crc off route : Nat) (bs : Option Bytes) (s : State) : State :=
  let g : Seg := ⟨id, type, len, crc, off, .committed, false, none, none⟩
  let s1 := match bs with
    | some b => resWrite off b s
    | none => s
  noteReserve (raise 0x0401 1 (le 4 id ++ le 1 type ++ le 1 route ++ zeros 2)
    { s1 with res := { s1.res with segs := s1.res.segs.filter (fun h => h.id != id) ++ [g] } })

/-- ACCESSION_FAILED (R109). -/
def accessionFailed (id code route : Nat) (s : State) : State :=
  raise 0x0402 1 (le 4 id ++ le 2 (code % 65536) ++ le 1 route) (bump 0x6000 15 32 s)

/-! PURGE (R107) -/

/-- PURGE's own refusals. -/
def checkPurge (id : Nat) (s : State) : Nat :=
  if id = 0xFFFFFFFF then 0
  else if (s.seg id).isNone then 0xAB04000D
  else if s.planNames id then 0xAB040009
  else 0

/-- One segment is purged (R96). -/
def purgeOne (id : Nat) (s : State) : State :=
  noteReserve (raise 0x0407 1 (le 4 id) { s with res := { s.res with
    segs := s.res.segs.filter (fun g => !(g.id == id && (g.state == .committed || g.state == .lost))) } })

/-- The last slice of the PURGE in slot k. -/
def finishPurge (k : Nat) (s : State) : State :=
  let id := ofLe (s.slot k).arg
  if id = 0xFFFFFFFF then
    let ids := (s.res.segs.filter (fun g => (g.state == .committed || g.state == .lost) && !s.planNames g.id)).map (·.id)
    endOp k .done 0 (forEach ids purgeOne s)
  else if checkPurge id s ≠ 0 then endOp k .failed (checkPurge id s) s
  else endOp k .done 0 (purgeOne id s)

end Sys2Proof.Machine
end

