-- ==== Sys2Proof/Machine/Prov.lean ====
section
/-! DEFINITION. The Provenance rings as bytes, and what the Reserve BAR shows of every region (R98, R99, R334, R337, R339). -/

namespace Sys2Proof.Machine

/-- The 32 bytes of a record (R334). -/
def Rec.bytes (r : Rec) : Bytes :=
  le 12 (time96 r.time) ++ le 2 r.code ++ le 2 r.source ++ le 4 r.sequence ++ fit 8 r.argument ++ le 2 r.reign ++
    [BitVec.ofNat 8 r.flags, BitVec.ofNat 8 r.order]

/-- The 32 bytes of a slot (R334, R339). -/
def Slot.bytes (x : Slot) : Bytes :=
  match x with
  | .head r => r.bytes
  | .detail bs => fit 32 bs

/-- Provenance ring r. -/
def State.provRing (s : State) (r : Nat) : ProvRing := tget {} s.prov.rings r

/-- Provenance ring r takes a new content. -/
def setProvRing (r : Nat) (p : ProvRing) (s : State) : State := { s with prov := { s.prov with rings := tset s.prov.rings r p } }

/-- Reserve offset of slot 0 of ring r (R99, R337). -/
def State.provBase (s : State) (r : Nat) : Nat := mib (256 + (if r = 0 then 0 else s.val 0x1500 1))

/-- The bytes of the record with index i of a ring; 32 zeros where the ring holds none. -/
def ProvRing.recordBytes (p : ProvRing) (cap i : Nat) : Bytes :=
  match takeFirst (fun c => c.1 == i % cap) p.slots with
  | some ((_, x), _) => x.bytes
  | none => zeros 32

/-- Offset of the caption region, and the end of the bundle staging that follows it (R99). -/
def State.captionBase (s : State) : Nat := s.cameraBase + s.cameraBytes 16

/-- What stands at Reserve offset a: a Provenance slot's byte, a stored byte, or, in the engine-private, caption and staging
regions, whose layout the spec does not give, a free byte. -/
def State.reserveByte (s : State) (a : Nat) : Byte :=
  if a < mib 256 then Config.freeByte s.free a
  else if a < s.cameraBase then
    let r := if a < s.provBase 1 then 0 else 1
    ((s.provRing r).recordBytes (s.val 0x1500 (1 + r) * 32768) ((a - s.provBase r) / 32)).getD (a % 32) 0
  else if s.captionBase ≤ a ∧ a < s.heapBase then Config.freeByte s.free a
  else Memory.byte s.res.mem a

/-- Index of the oldest record held in ring r. -/
def State.provOldest (s : State) (r : Nat) : Nat := (s.provRing r).written - s.ringCap r

/-- PV_CTRL of ring r is written: STREAM mirrors 0x1500:04, and REWIND restarts export at the oldest record held (R338). A
record exported before has waited already, so that it is due at once. -/
def provControl (r v : Nat) (s : State) : State :=
  let s1 := setVal 0x1500 4 (setBit (s.val 0x1500 4) r (bitOf v 0)) s
  let p := s1.provRing r
  if bitOf v 1 && decide (s1.provOldest r < p.exported) then
    setProvRing r { p with exported := s1.provOldest r, waitFrom := 0 } s1
  else s1

/-- PROVENANCE_REWIND: PV_CTRL of ring r written with REWIND. -/
def execProvenanceRewind (dt : Nat) (ring : Fin 2) (v : BitVec 32) (s : State) : Host.Outcome State Fault Refusal :=
  next (onBar (provControl ring.val (setBit v.toNat 1 true)) (advance dt s))

end Sys2Proof.Machine
end

