-- ==== Sys2Proof/Machine/Accession.lean ====
section
/-! DEFINITION. Accession: rings, containers, the network container, direct segments and the Reserve BAR (R89-R98, R101, R344,
R364, R365). -/

namespace Sys2Proof.Machine

/-! Rings (R90) -/

/-- Accession ring r. -/
def State.accRing (s : State) (r : Nat) : Ring := tget {} s.res.accession r

/-- Accession ring r takes a new content. -/
def setAccRing (r : Nat) (x : Ring) (s : State) : State := { s with res := { s.res with accession := tset s.res.accession r x } }

/-- Egress ring e's registers. -/
def State.egrRing (s : State) (e : Nat) : Ring := tget {} s.res.egressRegs e

/-- Egress ring e's registers take a new content. -/
def setEgrRing (e : Nat) (x : Ring) (s : State) : State := { s with res := { s.res with egressRegs := tset s.res.egressRegs e x } }

/-- Entries of a ring. -/
def Ring.entries (x : Ring) : Nat := 2 ^ x.size

/-- Descriptors taken and not completed. -/
def Ring.taken (x : Ring) : Nat := sumN (x.chains.map (fun c => c.descs.length))

/-- Descriptors posted and not taken. -/
def Ring.posted (x : Ring) : Nat := (x.tail + x.entries * 2 - x.head - x.taken) % x.entries

/-- Host address of entry i. -/
def Ring.address (x : Ring) (i : Nat) : Nat := x.base + 32 * (i % x.entries)

/-- BUSY of accession ring r: a container of it is in flight. -/
def State.ringBusy (s : State) (r : Nat) : Bool := s.res.flights.any (fun f => f.route == r)

/-! Completion (R91, R92) -/

/-- The descriptors of a chain are completed from entry i on. -/
def completeDescs (r base i size result id : Nat) : List Desc → State → State
  | [], s => s
  | d :: ds, s =>
    let s1 := emit (.hostWrite (base + 32 * (i % size) + 16) (le 4 d.tag.toNat ++ le 4 result ++ le 4 id ++ [0, 0, 0, 1])) s
    completeDescs r base (i + 1) size result id ds (if bitOf d.flags.toNat 2 then pendIrq r s1 else s1)

/-- Leading chains of ring r that have their result are completed, in ring order, while the engine may write host memory. -/
def flushChains (r : Nat) : List Chain → State → State
  | [], s => s
  | c :: cs, s =>
    match c.result with
    | none => s
    | some code =>
      if !s.mayMaster then s
      else
        let x := s.accRing r
        let s1 := completeDescs r x.base x.head x.entries code c.segId c.descs s
        flushChains r cs (setAccRing r { x with head := (x.head + c.descs.length) % x.entries, chains := cs } s1)

/-- The same for the chains ring r holds. -/
def flushRing (r : Nat) (s : State) : State := flushChains r (s.accRing r).chains s

/-- The ring halts with a code (R93). -/
def haltAcc (r code : Nat) (s : State) : State :=
  raise 0x0403 1 (le 1 r ++ zeros 3 ++ le 2 (code % 65536))
    (setAccRing r { s.accRing r with halted := true, haltDetail := code % 65536 } s)

/-- A chain of ring r joins those that await their completion. -/
def addChain (r : Nat) (c : Chain) (s : State) : State :=
  setAccRing r { s.accRing r with chains := (s.accRing r).chains ++ [c] } s

/-- The chain of container id on ring r has its result. -/
def chainResult (r id code : Nat) (s : State) : State :=
  let x := s.accRing r
  let rec_ (c : Chain) : Chain := if c.segId == id && c.result.isNone then { c with result := some code } else c
  flushRing r (setAccRing r { x with chains := x.chains.map rec_ } s)

/-! A container's header (R88, R89, R94 step 1) -/

/-- MAGIC, VERSION and HEADER_CRC are right. -/
def headerReadable (bs : Bytes) : Bool :=
  decide (32 ≤ bs.length) && leAt bs 0 4 == 0x47534241 && byteAt bs 4 == 1 && crc32c (bs.take 28) == leAt bs 28 4

/-- SEGMENT_ID, or 0 where the header is unreadable. -/
def headerId (bs : Bytes) : Nat := if headerReadable bs then leAt bs 8 4 else 0

/-- Step 1 over a container of n bytes. -/
def headerCode (bs : Bytes) (n : Nat) : Nat :=
  let stored := leAt bs 16 4
  if !headerReadable bs || !inR 1 0xFFFFFFFE (leAt bs 8 4) || decide (2 ≤ leAt bs 6 2) then 0xAB040001
  else if !inR 1 7 (byteAt bs 5) then 0xAB040002
  else if !inR 1 0x40000000 (leAt bs 12 4) || !inR 1 0x40000000 stored ||
      (!bitOf (byteAt bs 6) 0 && stored != leAt bs 12 4) || n != 32 + stored then 0xAB040003
  else 0

/-- Steps 2 and 3, but for the heap's room (R94, R96). -/
def State.identityCode (s : State) (bs : Bytes) : Nat :=
  let id := leAt bs 8 4
  if s.inFlight id then 0xAB040008
  else if (match s.seg id with | some g => g.state == .committed | none => false) && s.planNames id then 0xAB040009
  else if 65536 ≤ s.segments then 0xAB040004
  else 0

/-- Steps 1-3: the code, or 0 with the place of the allocation. -/
def State.allocCode (s : State) (bs : Bytes) (n : Nat) : Nat × Nat :=
  if headerCode bs n ≠ 0 then (headerCode bs n, 0)
  else if s.identityCode bs ≠ 0 then (s.identityCode bs, 0)
  else
    match s.place (granule (leAt bs 12 4)) with
    | none => (0xAB040004, 0)
    | some o => (0, o)

/-! A container's life -/

/-- Some of n bytes from offset a has left the Reserve with its rank pair (R384). -/
def State.rangeGone (s : State) (a n : Nat) : Bool := s.res.removed.any (fun r => decide (r.lo < a + n ∧ a < r.hi))

/-- Some codeword of n bytes from offset a decodes as uncorrectable (R378, R384). -/
def State.poisoned (s : State) (a n : Nat) : Bool :=
  s.rangeGone a n || s.res.poison.any (fun c => decide (128 * c < a + n ∧ a < 128 * c + 128))

/-- Inflate units that hold a container. -/
def State.inflateBusy (s : State) : Nat := s.res.flights.foldl (fun acc f => match f.unit_ with | some u => setBit acc u true | none => acc) 0

/-- The lowest free inflate unit. -/
def State.freeUnit (s : State) : Option Nat := (List.range 8).find? (fun u => !bitOf s.inflateBusy u)

/-- A container may be taken: a compressed one needs a free inflate unit (R94, R101). -/
def State.unitFor (s : State) (bs : Bytes) : Bool := !bitOf (byteAt bs 6) 0 || s.freeUnit.isSome

/-- The byte that names a route in an event. A standby's copy came by a route that the pair link does not name: a free value. -/
def routeByte (route free : Nat) : Nat := if route ≤ 5 then route else (Config.freeValue free).toNat % 256

/-- Where the result of a container goes, by its route: its ring's chain, NET_RESULT, or the peer. -/
def reportResult (f : Flight) (code : Nat) (s : State) : State :=
  if f.route < 4 then chainResult f.route f.id code s
  else if f.route = 4 then setVal 0x6000 13 code s
  else
    match f.mirror with
    | some n => confirm n code s
    | none => s

/-- The flight's record is replaced. -/
def putFlight (f : Flight) (s : State) : State :=
  { s with res := { s.res with flights := s.res.flights.map (fun g => if g.id == f.id then f else g) } }

/-- The container's body can move: a compressed one holds an inflate unit. -/
def Flight.moves (f : Flight) : Bool := !f.passed && (!f.compressed || f.unit_.isSome)

/-- The oldest container that waits for an inflate unit takes a free one (R101). Only a standby has such: its active's containers
come whether or not one of its own units is free (log entry 72). -/
def passUnit (s : State) : State :=
  match s.freeUnit, s.res.flights.find? (fun f => !f.passed && !f.moves) with
  | some u, some f => putFlight { f with unit_ := some u } s
  | _, _ => s

/-- The container leaves the flights. -/
def dropFlight (id : Nat) (s : State) : State :=
  passUnit { s with res := { s.res with flights := s.res.flights.filter (fun f => f.id != id) } }

/-- A container in flight fails with a code (R95). -/
def failFlight (f : Flight) (code : Nat) (s : State) : State :=
  reportResult f code (noteReserve (accessionFailed f.id code (routeByte f.route s.free) (draw (dropFlight f.id s))))

/-- The original bytes of a container, or none where its stream fails. -/
def Flight.original (f : Flight) : Option Bytes := if f.compressed then inflate f.body f.length else some f.body

/-- A container commits (R95). -/
def commitFlight (f : Flight) (s : State) : State :=
  reportResult f 0 (commitSegment f.id f.type f.length f.crc f.offset (routeByte f.route s.free) f.original (draw (dropFlight f.id s)))

/-- Step 6: the container commits, or fails with the standby's code, once that is known. -/
def settleFlight (f : Flight) (s : State) : State :=
  match f.answer with
  | none => s
  | some 0 => commitFlight f s
  | some code => failFlight f code s

/-- A container passes steps 1-3: it takes its place, and goes on to the standby. -/
def beginFlight (route : Nat) (bs : Bytes) (w o : Nat) (bad : Option Nat) (peer : Option Nat) (s : State) : State :=
  let comp := bitOf (byteAt bs 6) 0
  let fwd := s.mirrors && route != 6
  let f : Flight := { id := leAt bs 8 4, type := byteAt bs 5, length := leAt bs 12 4, crc := leAt bs 20 4, offset := o
                      compressed := comp, body := (bs.drop 32).take (bs.length - 32 - w), route := route
                      unit_ := if comp then s.freeUnit else none, badStream := bad
                      mirror := if fwd then some s.pair.mirrorSeq else peer
                      answer := if fwd && s.hasStandby then none else some 0, sentAt := s.clk.core, passed := false }
  let s1 := noteReserve (draw { s with res := { s.res with flights := s.res.flights ++ [f] } })
  if fwd then mirrorSend (fun n => .container n (bs.take (bs.length - w))) s1 else s1

/-- The engine takes a container: w check bytes follow it, and bad names the channel whose check they fail. Its result, where
it has one at once. -/
def takeContainer (route : Nat) (bs : Bytes) (w : Nat) (bad peer : Option Nat) (s : State) : Option Nat × State :=
  let a := s.allocCode bs (bs.length - w)
  if a.1 ≠ 0 then (some a.1, accessionFailed (headerId bs) a.1 (routeByte route s.free) (draw s))
  else (none, beginFlight route bs w a.2 bad peer s)

/-! The alive counter and the stream check of a ring (R364, R365) -/

/-- ALIVE_FAULT, counted in REPEATS or SKIPS. -/
def aliveFault (n kind last v : Nat) (s : State) : State :=
  let c := s.crcCh n
  raise 0x0F05 2 ([BitVec.ofNat 8 n, BitVec.ofNat 8 kind, BitVec.ofNat 8 last, BitVec.ofNat 8 v])
    (setCrc n (if kind = 0 then { c with repeats := satAdd 8 c.repeats 1 } else { c with skips := satAdd 8 c.skips 1 }) s)

/-- Channel n takes a container's alive counter. A container too short for it carries no value: a free value stands in byte 3. -/
def checkAlive (n : Nat) (bs : Bytes) (s : State) : State :=
  let c := s.crcCh n
  if !c.aliveEn then s
  else if bs.length ≤ c.offset then aliveFault n 2 c.last (Config.freeByte s.free 0).toNat (draw s)
  else
    let v := byteAt bs c.offset
    let s1 := setCrc n { c with last := v, lastSet := true } s
    if !c.lastSet || v == (c.last + 1) % 256 then s1
    else aliveFault n (if v = c.last then 0 else 1) c.last v s1

/-- Check bytes that follow a container on ring r. -/
def State.streamWidth (s : State) (r : Nat) : Nat :=
  match s.crcBound false r with
  | some n => (s.crcCh n).bytes
  | none => 0

/-- The channel whose stream check a ring's bytes fail. -/
def State.streamBad (s : State) (r : Nat) (bs : Bytes) : Option Nat :=
  match s.crcBound false r with
  | none => none
  | some n =>
    let c := s.crcCh n
    let m := bs.length - c.bytes
    if crcOf c.algorithm (bs.take m) = leAt bs m c.bytes then none else some n

/-! CONTAINER_START -/

/-- The chain at the front of the descriptors read: those it takes, and 0, the code of a descriptor fault, or none while it is
not all posted (R91, R93). -/
def takeChain : Bool → List Desc → List Desc × Option Nat
  | _, [] => ([], none)
  | opened, d :: ds =>
    if d.length.toNat = 0 ∨ 16777216 < d.length.toNat then ([d], some 0xAB040003)
    else if bitOf d.flags.toNat 0 = opened then ([d], some 0xAB04000F)
    else if bitOf d.flags.toNat 1 then ([d], some 0)
    else
      let r := takeChain true ds
      (d :: r.1, r.2)

/-- Accession is accepted: IDLE, SERVICE, READY or PRINT (R107). -/
def State.accepts (s : State) : Bool := s.sys.mode != .boot && s.sys.mode != .test

/-- Ring r takes a chain whose buffers hold bs. -/
def takeFromRing (r : Nat) (descs : List Desc) (bs : Bytes) (s : State) : State :=
  let t := takeChain false descs
  match t.2 with
  | none => s
  | some 0 =>
    if bs.length ≠ sumN (t.1.map (fun d => d.length.toNat)) ∨ !s.unitFor bs then s
    else
      let s1 := match s.crcBound false r with | some n => checkAlive n (bs.take (bs.length - s.streamWidth r)) s | none => s
      let w := s1.streamWidth r
      let q := takeContainer r bs w (s1.streamBad r bs) none s1
      flushRing r (addChain r ⟨t.1, headerId bs, q.1⟩ q.2)
  | some code => flushRing r (addChain r ⟨t.1, 0, some code⟩ (haltAcc r code s))

/-- The engine takes the next container of a source, as its unit, the ring and the mode allow. -/
def doContainerStart (src : ContainerSrc) (descs : List Desc) (bs : Bytes) (s : State) : State :=
  if !s.accepts then s
  else
    match src with
    | .ring r =>
      let x := s.accRing r.val
      if x.enable && !x.halted && s.mayMaster && decide (descs.length ≤ x.posted) then takeFromRing r.val descs bs s else s
    | .network =>
      match s.res.netHeld with
      | none => s
      | some held =>
       if !s.unitFor held then s
       else
        let q := takeContainer 4 held 0 none none { s with res := { s.res with netHeld := none } }
        match q.1 with
        | some code => setVal 0x6000 13 code q.2
        | none => q.2

/-- CONTAINER_START. -/
def execContainerStart (dt : Nat) (src : ContainerSrc) (descs : List Desc) (bytes : Bytes) (s : State) :
    Host.Outcome State Fault Refusal := next (doContainerStart src descs bytes (advance dt s))

/-! CONTAINER_TRANSFER_DONE (R94 steps 4-6) -/

/-- A stream check mismatch is counted and raised (R364). -/
def streamFault (f : Flight) (n : Nat) (s : State) : State :=
  let c := s.crcCh n
  raise 0x0F04 2 ([BitVec.ofNat 8 n, BitVec.ofNat 8 f.route, 0, 0] ++ le 4 f.id)
    (setCrc n { c with mismatches := satAdd 16 c.mismatches 1 } s)

/-- What step 5 finds of the original bytes. -/
def Flight.verify (f : Flight) (bs : Bytes) : Nat :=
  if bs.length ≠ f.length then 0xAB040006 else if crc32c bs ≠ f.crc then 0xAB040007 else 0

/-- The body of flight f has been moved and inflated. -/
def transferDone (f : Flight) (s : State) : State :=
  match f.original with
  | none => failFlight f 0xAB040005 s
  | some bs =>
    let s1 := if f.compressed then bumpBy 0x6800 2 64 bs.length s else s
    match f.badStream with
    | some n => failFlight f 0xAB040010 (streamFault f n s1)
    | none =>
      if f.verify bs ≠ 0 then failFlight f (f.verify bs) s1
      else if s1.rangeGone f.offset f.length then failFlight f 0xAB100005 s1
      else
        let f1 := { f with unit_ := none, passed := true }
        settleFlight f1 (passUnit (putFlight f1 s1))

/-- CONTAINER_TRANSFER_DONE of container id. -/
def doTransferDone (id : Nat) (s : State) : State :=
  match s.res.flights.find? (fun f => f.id == id && f.moves) with
  | none => s
  | some f => transferDone f s

/-- CONTAINER_TRANSFER_DONE. -/
def execContainerTransferDone (dt : Nat) (id : BitVec 32) (s : State) : Host.Outcome State Fault Refusal :=
  next (doTransferDone id.toNat (advance dt s))

/-- The standby's confirmation of pair-link sequence n reaches the container forwarded under it, if any. -/
def confirmFlight (n code : Nat) (s : State) : State :=
  match s.res.flights.find? (fun f => f.mirror == some n && f.route != 6 && f.answer.isNone) with
  | none => s
  | some f =>
    let f1 := { f with answer := some code }
    let s1 := putFlight f1 s
    if f.passed then settleFlight f1 s1 else s1

/-! An unsuccessful read (R93, R345) -/

/-- A descriptor whose own read failed: its TAG is not known to the engine, so that the TAG written back is a free value. -/
def unknownDesc (free : Nat) : Desc := ⟨0, 0, 0, BitVec.ofNat 32 (Config.freeValue free).toNat⟩

/-- The chain's container is still being read: its transfer has not ended. -/
def State.reading (s : State) (r : Nat) (c : Chain) : Bool :=
  c.result.isNone && s.res.flights.any (fun f => f.route == r && f.id == c.segId && !f.passed)

/-- An engine read of accession ring r is unsuccessful: that of the newest chain whose buffers are still being read, whose
container is discarded, or, with none, that of the next descriptor. Which of several containers the read belongs to the spec does
not say (DESIGN CHOICE, log entry 68). A ring that has been disabled or has halted still reads what it has in flight. -/
def readFailed (r : Nat) (s : State) : State :=
  let x := s.accRing r
  match x.chains.reverse.find? (s.reading r) with
  | some c => chainResult r c.segId 0xAB04000A (noteReserve (haltAcc r 0xAB04000A (dropFlight c.segId s)))
  | none =>
    if !x.enable || x.halted || x.posted = 0 then s
    else flushRing r (addChain r ⟨[unknownDesc s.free], 0, some 0xAB04000A⟩ (haltAcc r 0xAB04000A (draw s)))

/-! Ring registers (R90) -/

/-- A write of RING_CTRL: ENABLE, RESUME, and RESET where ENABLE was 0 and the ring is not busy. -/
def Ring.control (x : Ring) (v : Nat) (busy : Bool) : Ring :=
  let x1 := if bitOf v 2 && !x.enable && !busy then { x with head := 0, tail := 0, chains := [] } else x
  { x1 with enable := bitOf v 0, halted := x.halted && !bitOf v 1 }

/-- A ring register at an offset of the ring's block is written (R90). A RING_TAIL of 2^RING_SIZE or more, of which the spec says
nothing, is taken modulo the entry count (DESIGN CHOICE, log entry 68). -/
def Ring.write (x : Ring) (o v : Nat) (busy : Bool) : Ring :=
  match o with
  | 0x00 => if x.enable then x else { x with base := x.base / 4294967296 * 4294967296 + v / 64 * 64 }
  | 0x04 => if x.enable then x else { x with base := v * 4294967296 + x.base % 4294967296 }
  | 0x08 => if x.enable || !inR 4 16 v then x else { x with size := v }
  | 0x0C => { x with tail := v % x.entries }
  | 0x14 => x.control v busy
  | _ => x

/-- A register of a ring is written. -/
def ringWrite (ring : RingId) (o v : Nat) (s : State) : State :=
  match ring with
  | .accession r => setAccRing r.val { (s.accRing r.val).write o v (s.ringBusy r.val) with askedAt := s.clk.core } s
  | .egress e => setEgrRing e.val { (s.egrRing e.val).write o v false with askedAt := s.clk.core } s

/-- RING_TAIL_DOORBELL. -/
def execRingTailDoorbell (dt : Nat) (ring : RingId) (v : BitVec 32) (s : State) : Host.Outcome State Fault Refusal :=
  next (onBar (ringWrite ring 0x0C v.toNat) (advance dt s))

/-- RING_RESET: RING_CTRL written with RESET. -/
def execRingReset (dt : Nat) (ring : RingId) (v : BitVec 32) (s : State) : Host.Outcome State Fault Refusal :=
  next (onBar (ringWrite ring 0x14 (setBit v.toNat 2 true)) (advance dt s))

/-- RING_RESUME: RING_CTRL written with RESUME. -/
def execRingResume (dt : Nat) (ring : RingId) (v : BitVec 32) (s : State) : Host.Outcome State Fault Refusal :=
  next (onBar (ringWrite ring 0x14 (setBit v.toNat 1 true)) (advance dt s))

/-! Direct segments and the Reserve BAR (R98, R344) -/

/-- OPEN_DIRECT runs steps 1-3; a direct segment is not compressed. R98 gives no code for a header with COMPRESSED 1: the code of
a FLAGS that a container may not carry is taken (DESIGN CHOICE, log entry 68). -/
def checkOpenDirect (bs : Bytes) (s : State) : Nat :=
  if bitOf (byteAt bs 6) 0 && headerReadable bs then 0xAB040001 else (s.allocCode bs (32 + leAt bs 16 4)).1

/-- The direct segment is OPEN, its offset in DIRECT_OFFSET. -/
def openDirect (bs : Bytes) (s : State) : State :=
  let o := (s.allocCode bs (32 + leAt bs 16 4)).2
  let g : Seg := ⟨leAt bs 8 4, byteAt bs 5, leAt bs 12 4, leAt bs 20 4, o, .opened, true, none, none⟩
  noteReserve (draw { s with res := { s.res with segs := s.res.segs ++ [g], directOffset := o } })

/-- COMMIT_DIRECT names an OPEN direct segment. -/
def checkCommitDirect (id : Nat) (s : State) : Nat :=
  match s.direct id with
  | some g => if g.state == .opened then 0 else 0xAB04000D
  | none => 0xAB04000D

/-- The direct segment of an ID takes a new record. -/
def putDirect (g : Seg) (s : State) : State :=
  { s with res := { s.res with segs := s.res.segs.map (fun h => if h.id == g.id && h.direct then g else h) } }

/-- COMMIT_DIRECT accepted: the segment is VERIFYING and takes no more writes; its end goes to the standby. -/
def beginDirect (id : Nat) (s : State) : State :=
  match s.direct id with
  | none => s
  | some g =>
    if s.mirrors then
      mirrorSend (fun n => .direct n id g.length [] true)
        (putDirect { g with
          state := .verifying, mirror := some s.pair.mirrorSeq, answer := if s.hasStandby then none else some 0 } s)
    else putDirect { g with state := .verifying, answer := some 0 } s

/-- The direct segment of an ID fails with a code. -/
def failDirect (id code : Nat) (s : State) : State := noteReserve (accessionFailed id code 5 (dropDirect id s))

/-- What step 5 finds of a direct segment's bytes. -/
def State.directCode (s : State) (g : Seg) : Nat :=
  if s.poisoned g.offset g.length then 0xAB100005 else if crc32c (s.segBytes g) = g.crc then 0 else 0xAB040007

/-- The last slice of the COMMIT_DIRECT in slot k: steps 5 and 6. It stays RUNNING while the standby has not answered. -/
def finishDirect (k : Nat) (s : State) : State :=
  let id := ofLe (s.slot k).arg
  match s.direct id with
  | none => endOp k .failed 0xAB04000D s
  | some g =>
    let code := s.directCode g
    if code ≠ 0 then endOp k .failed code (failDirect id code s)
    else
      match g.answer with
      | none => s
      | some 0 => endOp k .done 0 (commitSegment id g.type g.length g.crc g.offset 5 none (dropDirect id s))
      | some c => endOp k .failed c (failDirect id c s)

/-- The standby's confirmation of pair-link sequence n reaches the direct segment that ended under it, if any. -/
def confirmDirect (n code : Nat) (s : State) : State :=
  match s.res.segs.find? (fun g => g.direct && g.mirror == some n && g.answer.isNone) with
  | none => s
  | some g => putDirect { g with answer := some code } s

/-- A write at Reserve offset a lands in an OPEN direct segment, or is discarded and counted. One that lies only partly inside one
is discarded and counted whole (DESIGN CHOICE, log entry 68). -/
def landDirect (a : Nat) (bs : Bytes) (s : State) : State :=
  match s.res.segs.find? (fun g => g.direct && g.state == .opened && decide (g.offset ≤ a ∧ a + bs.length ≤ g.offset + g.length)) with
  | none => bump 0x6000 14 32 s
  | some g =>
    let s1 := resWrite a bs s
    if s.mirrors then mirrorSend (fun n => .direct n g.id (a - g.offset) bs false) s1 else s1

/-- RESERVE_BAR_WRITE. -/
def execReserveBarWrite (dt : Nat) (offset : BitVec 30) (data : Bytes) (s : State) : Host.Outcome State Fault Refusal :=
  next (onBar (fun s => landDirect (s.val 0x6000 5 + offset.toNat) data s) (advance dt s))

/-- What a Reserve BAR read of n bytes at Reserve offset a returns: all-ones at or beyond CAPACITY, and a poisoned completion where
a codeword below it is uncorrectable (R344). -/
def doBarRead (a n : Nat) (s : State) : State :=
  let cap := s.res.capacity
  if decide (a < cap) && s.poisoned a (min n (cap - a)) then emit (.readData none) (bump 0xA000 8 32 (bump 0xA000 9 32 s))
  else
    emit (.readData (some ((List.range n).map (fun i => if a + i < cap then s.reserveByte (a + i) else 0xFF)))) (draw s)

/-- RESERVE_BAR_READ. -/
def execReserveBarRead (dt : Nat) (offset : BitVec 30) (len : BitVec 12) (s : State) : Host.Outcome State Fault Refusal :=
  next (onBar (fun s => doBarRead (s.val 0x6000 5 + offset.toNat) len.toNat s) (advance dt s))

/-! The network container (R97) -/

/-- A whole container written to NET_ACCESSION is held, and NET_RESULT shows that it is in progress. -/
def holdNetwork (bs : Bytes) (s : State) : State := setVal 0x6000 13 0xFFFFFFFF { s with res := { s.res with netHeld := some bs } }

end Sys2Proof.Machine
end

