-- ==== Sys2Proof/Machine/Egress.lean ====
section
/-! DEFINITION. Egress rings, Provenance exports and compressed bundles (R103-R106, R108, R338, R364). -/

namespace Sys2Proof.Machine

/-! The backlog (R106) -/

/-- What egress ring e holds besides its registers. -/
def State.egr (s : State) (e : Nat) : Egress := tget {} s.res.egress e

/-- Egress ring e takes a new content. -/
def setEgr (e : Nat) (x : Egress) (s : State) : State := { s with res := { s.res with egress := tset s.res.egress e x } }

/-- The ring that EGRESS_RING names for a KIND (R108). -/
def State.ringOfKind (s : State) (kind : Nat) : Nat := field (s.val 0x6800 7) (8 * (kind - 1) + 1) (8 * (kind - 1))

/-- A record that finds the backlog full is dropped and counted. -/
def dropRecord (e kind : Nat) (s : State) : State :=
  let x := s.egr e
  raiseLimited (sCk 1) 0x0406 e 1 ([BitVec.ofNat 8 e, BitVec.ofNat 8 kind, 0, 0] ++ le 4 (x.dropped + 1))
    (setEgr e { x with dropped := wrapAdd 32 x.dropped 1, droppedKinds := setBit x.droppedKinds kind true } s)

/-- A record goes to the ring of its KIND: to the backlog, or, with that full, a bundle waits in staging and any other record
is dropped. -/
def queueRecord (kind : Nat) (bs : Bytes) (s : State) : State :=
  let e := s.ringOfKind kind
  let x := s.egr e
  let r : EgressRec := ⟨kind, bs, bitOf x.droppedKinds kind⟩
  if x.backlog.length < 256 then
    setEgr e { x with backlog := x.backlog ++ [r], droppedKinds := setBit x.droppedKinds kind false } s
  else if kind = 3 then setEgr e { x with bundles := x.bundles ++ [r] } s
  else dropRecord e kind s

/-! EGRESS_WRITE (R105) -/

/-- The buffers that n bytes take: those descriptors, and 0, the code of a descriptor fault, or none while too few are posted. -/
def takeBuffers : Nat → List Desc → List Desc × Option Nat
  | _, [] => ([], none)
  | n, d :: ds =>
    if d.length.toNat < 64 ∨ 16777216 < d.length.toNat then ([d], some 0xAB040003)
    else if n ≤ d.length.toNat then ([d], some 0)
    else
      let r := takeBuffers (n - d.length.toNat) ds
      (d :: r.1, r.2)

/-- Bytes 16-31 of a descriptor that the engine has used. -/
def usedDesc (d : Desc) (used kind seq : Nat) (first last lost : Bool) : Bytes :=
  le 4 d.tag.toNat ++ le 4 used ++ [BitVec.ofNat 8 kind, BitVec.ofNat 8 (b2n first + 2 * b2n last + 4 * b2n lost), 0, 0] ++ le 3 seq ++ [1]

/-- A completed descriptor of egress ring e pends its source where its IRQ bit asks for it (R110). -/
def egressIrq (e : Nat) (d : Desc) (s : State) : State := if bitOf d.flags.toNat 2 then pendIrq (4 + e) s else s

/-- The record's bytes go into the buffers from ring entry i on. -/
def fillBuffers (e kind seq : Nat) (lost : Bool) : Nat → Bool → Bytes → List Desc → State → State
  | _, _, _, [], s => s
  | i, first, bs, d :: ds, s =>
    let n := d.length.toNat
    let s1 := emit (.hostWrite d.addr.toNat (bs.take n)) s
    let s2 := emit (.hostWrite ((s.egrRing e).address i + 16)
      (usedDesc d (bs.take n).length kind seq first ds.isEmpty lost)) s1
    fillBuffers e kind seq lost (i + 1) false (bs.drop n) ds (egressIrq e d s2)

/-- Bytes 16-31 of an egress descriptor of a faulty chain. R105 gives it no place for an abort code, and no rule gives USED, KIND,
the defined bits of RFLAGS and SEQUENCE here: they are free values. Reserved bits and bytes 26-27 are 0 (R7, R105). -/
def faultDesc (free : Nat) (d : Desc) : Bytes :=
  let f := Config.freeByte free
  le 4 d.tag.toNat ++ [f 0, f 1, f 2, f 3, f 4, f 5 &&& 7, 0, 0, f 6, f 7, f 8, 1]

/-- The descriptors of a faulty chain are completed. -/
def faultBuffers (e : Nat) : Nat → List Desc → State → State
  | _, [], s => s
  | i, d :: ds, s =>
    faultBuffers e (i + 1) ds (egressIrq e d (draw
      (emit (.hostWrite ((s.egrRing e).address i + 16) (faultDesc s.free d)) s)))

/-- RING_HEAD of egress ring e passes n entries. -/
def passHead (e n : Nat) (s : State) : State :=
  let x := s.egrRing e
  setEgrRing e { x with head := (x.head + n) % x.entries } s

/-- The record's bytes as they cross PCIe: with the check value of the channel bound to the ring (R364). -/
def State.streamed (s : State) (e : Nat) (bs : Bytes) : Bytes :=
  match s.crcBound true e with
  | none => bs
  | some n => bs ++ le (s.crcCh n).bytes (crcOf (s.crcCh n).algorithm bs)

/-- The record at the front has been written: it leaves the backlog, its staging is freed, and the next bundle follows. -/
def recordSent (e : Nat) (r : EgressRec) (s : State) : State :=
  let x := s.egr e
  let s1 := setEgr e { x with
    backlog := x.backlog.drop 1 ++ x.bundles.take 1, bundles := x.bundles.drop 1
    sequence := wrapAdd 24 x.sequence 1 } s
  if r.kind = 3 then { s1 with res := { s1.res with staging := s1.res.staging - (r.bytes.length - 32) } } else s1

/-- The descriptors of ring e's faulty chain are completed and passed, while the engine may write host memory. -/
def flushEgress (e : Nat) (s : State) : State :=
  let x := s.egr e
  if x.faulted.isEmpty || !s.mayMaster then s
  else passHead e x.faulted.length (faultBuffers e (s.egrRing e).head x.faulted (setEgr e { x with faulted := [] } s))

/-- Ring e halts with a code at a faulty chain (R93). Byte 0 of RING_HALTED has no number for an egress ring, and takes that of the
accession ring of the same index (DESIGN CHOICE, log entry 68). -/
def haltEgress (e code : Nat) (ds : List Desc) (s : State) : State :=
  flushEgress e (raise 0x0403 1 (le 1 e ++ zeros 3 ++ le 2 (code % 65536))
    (setEgrRing e { s.egrRing e with halted := true, haltDetail := code % 65536 }
      (setEgr e { s.egr e with faulted := (s.egr e).faulted ++ ds } s)))

/-- An engine read of egress ring e is unsuccessful: that of the next descriptor, which is the faulty chain. -/
def egressReadFailed (e : Nat) (s : State) : State :=
  let x := s.egrRing e
  if !x.enable || x.halted || x.posted == 0 then s else haltEgress e 0xAB04000A [unknownDesc s.free] (draw s)

/-- The record at the front of ring e's backlog goes into posted buffers, once they hold it whole. -/
def writeRecord (e : Nat) (r : EgressRec) (descs : List Desc) (s : State) : State :=
  let bs := s.streamed e r.bytes
  let x := s.egr e
  let t := takeBuffers bs.length descs
  match t.2 with
  | none => s
  | some 0 =>
    recordSent e r (passHead e t.1.length
      (fillBuffers e r.kind x.sequence r.lost (s.egrRing e).head true bs t.1 s))
  | some code => haltEgress e code t.1 s

/-- EGRESS_WRITE over the descriptors posted on ring e. -/
def doEgressWrite (e : Nat) (descs : List Desc) (s : State) : State :=
  let x := s.egrRing e
  match (s.egr e).backlog with
  | [] => s
  | r :: _ => if x.enable && !x.halted && s.mayMaster && decide (descs.length ≤ x.posted) then writeRecord e r descs s else s

/-- EGRESS_WRITE. -/
def execEgressWrite (dt : Nat) (ring : Fin 4) (descs : List Desc) (s : State) : Host.Outcome State Fault Refusal :=
  next (doEgressWrite ring.val descs (advance dt s))

/-! PROVENANCE_EXPORT (R338) -/

/-- Records of ring r waiting for export. -/
def ProvRing.waiting (p : ProvRing) : Nat := p.written - p.exported

/-- How many records the next export record of a ring holds: at most 4,096, and no print record split. -/
def ProvRing.batch (p : ProvRing) (cap : Nat) : Nat :=
  if p.waiting ≤ 4096 then p.waiting
  else if leAt (p.recordBytes cap (p.exported + 4095)) 12 2 = 0x0E10 then 4095 else 4096

/-- The export record of ring r. -/
def State.exportRecord (s : State) (r : Nat) : Bytes :=
  let p := s.provRing r
  let n := p.batch (s.ringCap r)
  le 4 0x58504241 ++ [1, BitVec.ofNat 8 r, BitVec.ofNat 8 (b2n s.unitB + 2 * b2n (s.pair.role == .active)), 0] ++ le 8 p.exported ++
    le 4 n ++ le 4 p.skipped ++ zeros 8 ++ (List.range n).flatMap (fun i => p.recordBytes (s.ringCap r) (p.exported + i))

/-- An export record of ring r is due. -/
def State.exportDue (s : State) (r : Nat) : Bool :=
  let p := s.provRing r
  bitOf (s.val 0x1500 4) r && decide (0 < p.waiting) &&
    decide (128 ≤ p.waiting ∨ p.waitFrom + usCk (s.val 0x1500 5) ≤ s.clk.core)

/-- PROVENANCE_EXPORT: the waiting records of ring r go out, once they are due. -/
def doExport (r : Nat) (s : State) : State :=
  if !s.exportDue r then s
  else
    let p := s.provRing r
    queueRecord 2 (s.exportRecord r)
      (setProvRing r { p with exported := p.exported + p.batch (s.ringCap r), skipped := 0 } s)

/-- PROVENANCE_EXPORT. -/
def execProvenanceExport (dt : Nat) (ring : Fin 2) (s : State) : Host.Outcome State Fault Refusal :=
  next (doExport ring.val (advance dt s))

/-! Bundles (R103, R104, R108) -/

/-- The context of a camera source is enabled and the range lies in its two frame slots. -/
def State.cameraRange (s : State) (c start n : Nat) : Bool := decide (c < 16) && s.ctxOn c && decide (start + n ≤ 2 * s.slotBytes c)

/-- The range lies in the records that ring r holds, from record index start. -/
def State.provRange (s : State) (r start n : Nat) : Bool :=
  decide (r < 2) && decide (s.provOldest r ≤ start) && decide (start + (n + 31) / 32 ≤ (s.provRing r).written)

/-- BUNDLE's own refusals. -/
def checkBundle (data : Bytes) (s : State) : Nat :=
  let id := leAt data 4 4
  let start := leAt data 8 8
  let n := leAt data 16 4
  if !inR 1 3 (byteAt data 0) then 0xAB01000E
  else if !decide (byteAt data 1 ≤ 9) || !inR 1 1073741824 n || !inR 4096 268435456 (leAt data 20 4) then 0xAB010005
  else
    match byteAt data 0 with
    | 1 =>
      match s.seg id with
      | some g => if g.state != .committed then 0xAB04000D else if start + n ≤ g.length then 0 else 0xAB010005
      | none => 0xAB04000D
    | 2 => if s.provRange id start n then 0 else 0xAB010005
    | _ => if s.cameraRange id start n then 0 else 0xAB010005

/-- The original bytes of a bundle job as they stand, and the Reserve offset they are read from; none where the source has gone. -/
def State.bundleSource (s : State) (data : Bytes) : Option (Nat × Bytes) :=
  let id := leAt data 4 4
  let start := leAt data 8 8
  let n := leAt data 16 4
  match byteAt data 0 with
  | 1 =>
    match s.seg id with
    | some g => if g.state == .committed && decide (start + n ≤ g.length) then some (g.offset + start, s.resRead (g.offset + start) n) else none
    | none => none
  | 2 =>
    if s.provRange id start n then
      some (s.provBase id + 32 * (start % s.ringCap id),
        ((List.range ((n + 31) / 32)).flatMap (fun i => (s.provRing id).recordBytes (s.ringCap id) (start + i))).take n)
    else none
  | _ => if s.cameraRange id start n then some (s.slotOffset id + start, s.resRead (s.slotOffset id + start) n) else none

/-- The level a job uses (R103, R392). -/
def State.bundleLevel (s : State) (data : Bytes) : Nat :=
  min (if byteAt data 1 = 0 then s.val 0x6800 3 else byteAt data 1) (levelCap s.therm.fDie)

/-- The job of slot k takes a deflate unit, if one is free and throttling lets a job start. -/
def takeDeflate (k : Nat) (s : State) : State :=
  if s.res.deflating.length < 2 ∧ k ∉ s.res.deflating ∧ s.therm.fDie ≠ 0 then
    { s with res := { s.res with deflating := s.res.deflating ++ [k] } }
  else s

/-- Slot k holds a running bundle job. -/
def State.bundling (s : State) (k : Nat) : Bool :=
  let x := s.slot k
  x.state == .running && x.kindIndex == 0x6800 && x.kindSub == 4

/-- BUNDLE_UNIT_START: the job of slot k takes a free unit. -/
def execBundleUnitStart (dt : Nat) (slot : Fin 16) (s : State) : Host.Outcome State Fault Refusal :=
  let s1 := advance dt s
  next (if s1.bundling slot.val then takeDeflate slot.val s1 else s1)

/-- The job's unit is free again. -/
def dropDeflate (k : Nat) (s : State) : State := { s with res := { s.res with deflating := s.res.deflating.filter (· != k) } }

/-- The container of a bundle (R89, R104). The spec gives its SEGMENT_ID no value: a free value within R89's range. -/
def bundleContainer (level id : Nat) (orig out : Bytes) : Bytes :=
  let h := le 4 0x47534241 ++ [1, 0x10] ++ le 2 (1 + 256 * level) ++ le 4 id ++ le 4 orig.length ++ le 4 out.length ++ le 4 (crc32c orig) ++ zeros 4
  h ++ le 4 (crc32c h) ++ out

/-- OUTPUT_FULL: the job of slot k fails for its output space (R104). -/
def outputFull (k cap : Nat) (s : State) : State :=
  endOp k .failed 0xAB04000C (raise 0x0404 1 (le 4 (s.slot k).handle ++ le 4 cap) (bump 0x6800 5 32 (dropDeflate k s)))

/-- The last slice of the BUNDLE in slot k, once it has a unit. -/
def finishBundle (k : Nat) (obs : SliceObs) (s : State) : State :=
  let data := (s.slot k).arg
  if k ∉ s.res.deflating then s
  else
    match s.bundleSource data with
    | none => endOp k .failed 0xAB04000D (dropDeflate k s)
    | some (at_, orig) =>
      if obs == .uncorrectable || s.poisoned at_ orig.length then endOp k .failed 0xAB100005 (dropDeflate k s)
      else
        let level := s.bundleLevel data
        let out := deflated level orig
        if leAt data 20 4 < out.length ∨ mib 256 < s.res.staging + out.length then outputFull k (leAt data 20 4) s
        else
          let id := 1 + (Config.freeValue s.free).toNat % 4294967294
          let s1 := dropDeflate k (draw s)
          endOp k .done 0 (queueRecord 3 (bundleContainer level id orig out)
            { s1 with res := { s1.res with staging := s1.res.staging + out.length } })

end Sys2Proof.Machine
end

