-- ==== Sys2Proof/Machine/HostPort.lean ====
section
/-! DEFINITION. The PCIe endpoint (R343-R346), the identity and heartbeat registers (R347) and the time snapshot (R325). -/

namespace Sys2Proof.Machine

/-- MSI-X vectors whose PBA bit is set and which may now be sent go out, and their bits clear (R345, PCIe Base). -/
def sendHeld (s : State) : State :=
  if !s.mayMaster then s
  else forEach (List.range 8) (fun v s =>
    if bitOf s.host.pba v && !s.host.vectorMasked v then
      sendVector v { s with host := { s.host with pba := setBit s.host.pba v false } }
    else s) s

/-- Completions that wait for the engine to be allowed to write host memory are written. -/
def flushRings (s : State) : State := forEach (List.range 4) (fun r s => flushEgress r (flushRing r s)) s

/-! Configuration space (R343, R345) -/

/-- Size of the space behind base address register i: 16 MiB for the register BAR, 1 GiB for the Reserve BAR, and the upper
halves of both are whole. -/
def barUnit : Nat → Nat
  | 0 => mib 16
  | 2 => mib 1024
  | _ => 1

/-- Base address register i as it reads: its fixed bits say a 64-bit memory space, prefetchable for the Reserve BAR. -/
def State.barRegister (s : State) (i : Nat) : Nat :=
  tget 0 s.host.bars i + (if i = 0 then 0x4 else if i = 2 then 0xC else 0)

/-- The doublewords of the type 0 header, by offset: identity, command, class code and revision, base addresses, subsystem,
Interrupt Pin 0 (R343). The other bits of the header come from PCIe Base and read 0 here (PRESUMED, log entry 69). -/
def State.configHeader (s : State) (o : Nat) : Nat :=
  match o with
  | 0x00 => 0x85121F6B
  | 0x04 => 4 * b2n s.host.bme
  | 0x08 => 0x120000B0
  | 0x10 => s.barRegister 0
  | 0x14 => s.barRegister 1
  | 0x18 => s.barRegister 2
  | 0x1C => s.barRegister 3
  | 0x2C => 0x1F6B + 65536 * s.host.subsystem
  | _ => 0

/-- What a configuration write changes. -/
def HostPort.configOther (h : HostPort) : ConfigWrite → HostPort
  | .bar i v => { h with bars := tset h.bars i.val (v.toNat / barUnit i.val * barUnit i.val) }
  | .sizes p r => { h with maxPayload := p.val, maxRead := r.val }
  | .msix on mask => { h with msixOn := on, msixMask := mask }

/-- The power state and PME_En as written. -/
def HostPort.configPower (h : HostPort) (w : PowerWrite) : HostPort :=
  { h with d3hot := w.d3hot, pmeEn := w.pmeEn, wake := h.wake && (w.d3hot || h.l2) && w.pmeEn }

/-- The configuration space after a write: each part that it writes, as written. -/
def HostPort.config (h : HostPort) (bme : Option Bool) (power : Option PowerWrite) (other : Option ConfigWrite) : HostPort :=
  let h1 := match bme with | some b => { h with bme := b } | none => h
  let h2 := match power with | some w => h1.configPower w | none => h1
  match other with | some w => h2.configOther w | none => h2

/-- A PCIe configuration write: what waited to be sent goes out where it now may. -/
def doConfigWrite (bme : Option Bool) (power : Option PowerWrite) (other : Option ConfigWrite) (s : State) : State :=
  if !s.portOn then s else sendHeld (flushRings { s with host := s.host.config bme power other })

/-- CONFIG_WRITE. -/
def execConfigWrite (dt : Nat) (bme : Option Bool) (power : Option PowerWrite) (other : Option ConfigWrite) (s : State) :
    Host.Outcome State Fault Refusal :=
  next (doConfigWrite bme power other (advance dt s))

/-- HOST_LINK: the link trains, at most to TARGET_SPEED, or goes down, into L2 or not (R345, R366, R367). -/
def doHostLink (speed width : Nat) (l2 : Bool) (s : State) : State :=
  if !s.portOn || s.val 0xA000 2 < speed || (speed == 0) != (width == 0) || (l2 && speed != 0) then s
  else
    raise 0x0F02 2 [BitVec.ofNat 8 speed, BitVec.ofNat 8 width] (setVal 0xA000 4 width (setVal 0xA000 3 speed
      { s with host := { s.host with l2 := l2, wake := s.host.wake && (s.host.d3hot || l2) } }))

/-- HOST_LINK. -/
def execHostLink (dt : Nat) (speed : Fin 5) (width : LinkWidth) (s : State) : Host.Outcome State Fault Refusal :=
  next (doHostLink speed.val width.width.val width.l2 (advance dt s))

/-! Unsuccessful reads (R93, R345) -/

/-- A ring's read is unsuccessful. -/
def doReadFailed (ring : RingId) (s : State) : State :=
  match ring with
  | .accession r => readFailed r.val s
  | .egress e => egressReadFailed e.val s

/-- The core clock before which no read of a ring that is still open can have been issued: the start of the container being
read, or the last write that can have set off the read of a descriptor. -/
def State.readSince (s : State) (ring : RingId) : Nat :=
  match ring with
  | .accession r =>
    match (s.accRing r.val).chains.reverse.find? (s.reading r.val) with
    | some c => ((s.res.flights.find? (fun f => f.route == r.val && f.id == c.segId)).map (·.sentAt)).getD 0
    | none => (s.accRing r.val).askedAt
  | .egress e => (s.egrRing e.val).askedAt

/-- No completion has come within COMPLETION_TIMEOUT. -/
def doCompletionTimeout (ring : RingId) (s : State) : State :=
  if s.readSince ring + msCk (s.val 0xA000 5) ≤ s.clk.core then doReadFailed ring s else s

/-- COMPLETION_TIMEOUT. -/
def execCompletionTimeout (dt : Nat) (ring : RingId) (s : State) : Host.Outcome State Fault Refusal :=
  next (doCompletionTimeout ring (advance dt s))

/-- PCIE_COMPLETION_UNSUCCESSFUL. -/
def execPcieCompletionUnsuccessful (dt : Nat) (ring : RingId) (s : State) : Host.Outcome State Fault Refusal :=
  next (doReadFailed ring (advance dt s))

/-! A host port reset (R346) -/

/-- A mailbox transaction already accepted goes on, but its response is discarded. -/
def Trans.mute (t : Trans) : Trans :=
  match t.origin with
  | .mailbox _ => { t with origin := .silent 0 }
  | .direct 0 => { t with origin := .silent 0 }
  | _ => t

/-- The same for every transaction that waits. -/
def muteMailbox (s : State) : State :=
  { s with cat := { s.cat with
      mirror := s.cat.mirror.map (fun m => (m.1, m.2.1.mute, m.2.2))
      waiting := s.cat.waiting.map Trans.mute
      reg := s.cat.reg.map (fun w => { w with trans := w.trans.mute }) } }

/-- Containers of the accession rings in flight. -/
def State.ringFlights (s : State) : Nat := (s.res.flights.filter (fun f => decide (f.route < 4))).length

/-- The containers of the accession rings in flight are discarded, and every ring's registers return to their reset values. -/
def dropRings (s : State) : State :=
  noteReserve { s with res := { s.res with
    flights := s.res.flights.filter (fun f => !decide (f.route < 4)), accession := [], egressRegs := [] } }

/-- The register BAR and the configuration space return to their reset values; STREAM, a Catalogue entry, stands. -/
def resetBar (s : State) : State :=
  { s with
    ic := {}
    host := { s.host with
      bme := false, d3hot := false, pmeEn := false, wake := false, subsystem := s.val 0xA000 1
      heartbeat := 0, mailbox := {}, snap := {}, msix := [], pba := 0
      bars := [], maxPayload := 0, maxRead := 2, msixOn := false, msixMask := false } }

/-- A host port reset: cause 0 PERST_N, 1 a hot reset, 2 a link-down. -/
def resetPort (cause : Nat) (s : State) : State :=
  raise 0x0F03 2 ([BitVec.ofNat 8 cause, 0, 0, 0] ++ le 4 s.ringFlights)
    (bump 0xA000 6 32 (crcDefaults (resetBar (dropRings (muteMailbox s)))))

/-- A host port reset acts on a port that is enabled. -/
def doHostPortReset (cause : Nat) (s : State) : State := onBar (resetPort cause) s

/-- HOST_PORT_RESET. -/
def execHostPortReset (dt : Nat) (cause : Fin 3) (s : State) : Host.Outcome State Fault Refusal :=
  next (doHostPortReset cause.val (advance dt s))

/-! HEARTBEAT and the time snapshot -/

/-- HOST_HEARTBEAT_TICK: every 1 ms while Curator runs. -/
def execHostHeartbeatTick (dt : Nat) (s : State) : Host.Outcome State Fault Refusal :=
  let s1 := advance dt s
  if s1.host.ready && decide (s1.host.heartbeatAt + msCk 1 ≤ s1.clk.core) then
    next { s1 with host := { s1.host with heartbeat := wrapAdd 32 s1.host.heartbeat 1, heartbeatAt := s1.clk.core } }
  else next s1

/-- Every field of the snapshot as it stands (R325). -/
def State.snapshot (s : State) : Snapshot :=
  let t := s.now
  { seconds := t / sT % 2 ^ 48, ns := t % sT / 65536, frac := t % 65536, epoch := s.clk.epoch, traced := s.clk.traced
    locked := s.ptp.locked, tick := s.lc.lastTick, pos := usg 48 (tget {} s.encs 0 : Enc).pos }

/-- TS_CTRL written: SNAP captures the snapshot. -/
def snapWrite (v : Nat) (s : State) : State :=
  if bitOf v 0 then { s with host := { s.host with snap := s.snapshot } } else s

/-- TIME_SNAPSHOT. -/
def execTimeSnapshot (dt : Nat) (v : BitVec 32) (s : State) : Host.Outcome State Fault Refusal :=
  next (onBar (snapWrite v.toNat) (advance dt s))

/-! MB_STATUS -/

/-- MB_STATUS as it reads (R348). -/
def State.mbStatus (s : State) : Nat :=
  let m := s.host.mailbox
  b2n m.done + 2 * b2n m.busy + 4 * b2n s.host.ready + 8 * b2n m.overrun + 65536 * m.tag

/-- MB_STATUS_READ: the status is returned and OVERRUN cleared. -/
def execMbStatusRead (dt : Nat) (s : State) : Host.Outcome State Fault Refusal :=
  next (onBar (fun s => emit (.readData (some (le 4 s.mbStatus)))
    { s with host := { s.host with mailbox := { s.host.mailbox with overrun := false } } }) (advance dt s))

end Sys2Proof.Machine
end

