-- ==== Sys2Proof/Machine/Archive.lean ====
section
/-! DEFINITION. The Archive: its slots and records, the parameter set, and PFAIL_N (R33, R34, R383, R397, R399-R404, R418). -/

namespace Sys2Proof.Machine

/-! Slots and records (R399-R401) -/

/-- Key of a slot: TYPE 1-5, and 0 for A or 1 for B. -/
def arcKey (type b : Nat) : Nat := 2 * (type - 1) + b

/-- A slot. -/
def State.arcSlot (s : State) (type b : Nat) : ArcSlot := tget .empty s.arc.slots (arcKey type b)

/-- A slot takes a content. -/
def setArc (type b : Nat) (x : ArcSlot) (s : State) : State :=
  { s with arc := { s.arc with slots := tset s.arc.slots (arcKey type b) x } }

/-- The slot whose record is in force: the valid one, or of two the one with the higher SEQUENCE. -/
def State.arcInForce (s : State) (type : Nat) : Option Nat :=
  match s.arcSlot type 0, s.arcSlot type 1 with
  | .valid a _, .valid b _ => some (if 0 < serial32 b a then 1 else 0)
  | .valid _ _, _ => some 0
  | _, .valid _ _ => some 1
  | _, _ => none

/-- The payload of the record in force. -/
def State.arcRecord (s : State) (type : Nat) : Option (Nat × Bytes) :=
  match s.arcInForce type with
  | none => none
  | some b =>
    match s.arcSlot type b with
    | .valid n p => some (n, p)
    | _ => none

/-- The slot and SEQUENCE of the next record of a type. -/
def State.arcNext (s : State) (type : Nat) : Nat × Nat :=
  match s.arcInForce type, s.arcRecord type with
  | some b, some (n, _) => (1 - b, wrapAdd 32 n 1)
  | _, _ => (0, 1)

/-- Words a record takes: header, payload, CRC and COMMIT, and the word that is cleared first where the slot held a record (R400). -/
def recordWords (old : ArcSlot) (payload : Bytes) : Nat := (if old == .empty then 0 else 1) + 4 + (payload.length + 3) / 4 + 2

/-- Words written are counted. -/
def countWords (n : Nat) (s : State) : State := { s with arc := { s.arc with words := wrapAdd 64 s.arc.words n } }

/-- A record of a 4 KiB slot is written whole. -/
def arcWrite (type : Nat) (payload : Bytes) (s : State) : State :=
  let t := s.arcNext type
  countWords (recordWords (s.arcSlot type t.1) payload) (setArc type t.1 (.valid t.2 payload) s)

/-! The parameter set (R34, R402) -/

/-- Groups whose indices interleave, put together: runs of one stride above 1. -/
def groupBlocks : List Group → List (List Group)
  | [] => []
  | g :: gs =>
    match groupBlocks gs with
    | (h :: hs) :: bs =>
      if g.stride ≠ 1 ∧ g.stride = h.stride ∧ h.base < g.base + g.stride then (g :: h :: hs) :: bs else [g] :: (h :: hs) :: bs
    | bs => [g] :: bs

/-- Every index the Catalogue defines, ascending, with its rows and object number. -/
def allIndices : List (Nat × List Row) :=
  (groupBlocks groups).flatMap (fun b =>
    match b with
    | [] => []
    | g :: _ => (List.range g.count).flatMap (fun k => b.map (fun h => (h.base + h.stride * k, h.rows))))

/-- The default of a DOMAIN entry (R33): the identity curve, the ramp, unity shading, or empty. -/
def domDefault (idx sub : Nat) : Bytes :=
  if 0x3000 ≤ idx ∧ idx < 0x3800 ∧ idx % 256 = 0x20 then (if sub = 2 then identityCurve else rampMask)
  else if 0x7000 ≤ idx ∧ idx ≤ 0x700F ∧ sub = 0x0E then (List.range 1156).flatMap (fun _ => le 2 0x4000)
  else []

/-- The bytes of an entry's stored value. -/
def State.entryBytes (s : State) (idx : Nat) (r : Row) : Bytes :=
  if r.ty.isDomain then s.dom idx r.sub (domDefault idx r.sub) else le r.ty.len (s.val idx r.sub)

/-- One item of the payload. -/
def paramItem (idx sub : Nat) (v : Bytes) : Bytes :=
  le 2 idx ++ [BitVec.ofNat 8 sub, 0] ++ le 2 v.length ++ [0, 0] ++ fit ((v.length + 3) / 4 * 4) v

/-- The values of all P entries as they stand; KEY has its own record (R313). -/
def State.paramPayload (s : State) : Bytes :=
  (allIndices.filter (fun p => p.1 != 0x1400)).flatMap (fun p => (p.2.filter (fun r => r.persist)).flatMap (fun r => paramItem p.1 r.sub (s.entryBytes p.1 r)))

/-- The items of a payload: index, subindex and value. -/
def parseItems : Nat → Bytes → List (Nat × Nat × Bytes)
  | 0, _ => []
  | n + 1, bs =>
    if bs.length < 8 then []
    else
      let len := leAt bs 4 2
      (leAt bs 0 2, byteAt bs 2, sliceB bs 8 len) :: parseItems n (bs.drop (8 + (len + 3) / 4 * 4))

/-- The length of an item's value agrees with the entry's type. -/
def Ty.itemOk (t : Ty) (n : Nat) : Bool :=
  match t with
  | .domain lo hi => n == 0 || (decide (lo ≤ n) && decide (n ≤ hi))
  | t => n == t.len

/-- An item is applied, or skipped and counted. -/
def applyItem (it : Nat × Nat × Bytes) (s : State) : State :=
  let skip (s : State) : State := { s with arc := { s.arc with loadSkipped := wrapAdd 32 s.arc.loadSkipped 1 } }
  match findGroup it.1 groups with
  | none => skip s
  | some (g, _) =>
    match findRow it.2.1 g.rows with
    | none => skip s
    | some r =>
      if !r.persist || !r.ty.itemOk it.2.2.length then skip s
      else if r.ty.isDomain then setDom it.1 it.2.1 it.2.2 s
      else if !r.rng.ok (r.ty.value (ofLe it.2.2)) then skip s
      else setVal it.1 it.2.1 (ofLe it.2.2) s

/-- The parameter set in force is applied at reset. -/
def loadParams (s : State) : State :=
  match s.arcInForce 1, s.arcRecord 1 with
  | some b, some (n, p) =>
    let s1 := forEach (parseItems p.length p) applyItem s
    { s1 with arc := { s1.arc with paramSeq := n, paramSlot := b } }
  | _, _ => { s with arc := { s.arc with paramSeq := 0, paramSlot := 0xFF } }

/-! COMMIT (R402) and its slices -/

/-- What COMMIT writes: the parameter set of the moment, or one with no items. -/
def State.commitPayload (s : State) (k : Nat) : Bytes := if ofLe (s.slot k).arg = 2 then [] else s.paramPayload

/-- The first slice of a commit: its payload is taken, and the slot's old record is no more. -/
def beginCommit (k : Nat) (s : State) : State :=
  let t := s.arcNext 1
  let p := s.commitPayload k
  let s1 := setArc 1 t.1 (.invalid t.2) s
  { s1 with arc := { s1.arc with writing := some p } }

/-- The last slice of a commit: the record is whole. -/
def finishCommit (k : Nat) (s : State) : State :=
  match s.arc.writing with
  | none => s
  | some p =>
    let t := s.arcNext 1
    let s1 := countWords (recordWords (s.arcSlot 1 t.1) p) (setArc 1 t.1 (.valid t.2 p) s)
    endOp k .done 0 { s1 with arc := { s1.arc with writing := none, lastCommit := time96 s.now, paramSeq := t.2, paramSlot := t.1 } }

/-- A commit that ends early leaves the slot not valid and the previous record in force. -/
def dropCommit (s : State) : State := { s with arc := { s.arc with writing := none } }

/-! PFAIL_N (R404) -/

/-- The running commit, once its record is in progress. -/
def State.committing (s : State) : Option Nat := if s.arc.writing.isSome then s.opOf 0x1700 1 else none

/-- PFAIL_N is asserted: a parameter-set record in progress is cut. -/
def doPfailAssert (s : State) : State :=
  if s.arc.pfail then s
  else
    let cut := s.committing
    let s1 := { s with arc := { s.arc with pfail := true } }
    let s2 := match cut with
      | some k => endOp k .failed 0xAB110008 (dropCommit s1)
      | none => s1
    raise 0x1104 0 [1, BitVec.ofNat 8 (b2n cut.isSome)] s2

/-- PFAIL_ASSERT. -/
def execPfailAssert (dt : Nat) (s : State) : Host.Outcome State Fault Refusal := next (doPfailAssert (advance dt s))

/-- PFAIL_RELEASE. -/
def execPfailRelease (dt : Nat) (s : State) : Host.Outcome State Fault Refusal :=
  let s1 := advance dt s
  next (if s1.arc.pfail then raise 0x1104 0 [0, 0] { s1 with arc := { s1.arc with pfail := false } } else s1)

/-! What reads and events show -/

/-- The SLOT_STATUS byte of a slot. -/
def ArcSlot.code : ArcSlot → Nat
  | .empty => 0
  | .valid _ _ => 1
  | .invalid _ => 2

/-- SLOT_STATUS (R406): two bytes per type in the order of R399; the factory record has slot A alone. -/
def State.slotStatus (s : State) : Bytes :=
  ((List.range 5).flatMap (fun t => [BitVec.ofNat 8 (s.arcSlot (t + 1) 0).code, BitVec.ofNat 8 (s.arcSlot (t + 1) 1).code])) ++ [1, 0]

/-- The slots that BOOT finds not valid (R401): TYPE, slot and SEQUENCE. -/
def State.badSlots (s : State) : List HeldEvent :=
  (List.range 5).flatMap (fun t => (List.range 2).filterMap (fun b =>
    match s.arcSlot (t + 1) b with
    | .invalid n => some ⟨0x1103, le 2 (t + 1) ++ [BitVec.ofNat 8 b, 0] ++ le 4 n⟩
    | _ => none))

/-! Records other than the parameter set -/

/-- The boot-control payload (R418). -/
def BootControl.bytes (b : BootControl) : Bytes :=
  [BitVec.ofNat 8 b.preferred, BitVec.ofNat 8 (b2n b.trial), BitVec.ofNat 8 b.attempts, 0] ++ le 4 b.confirmed

/-- The boot control that the Archive's record gives, or the defaults (R418). -/
def State.storedBoot (s : State) : BootControl :=
  match s.arcRecord 5 with
  | some (_, p) => ⟨byteAt p 0 % 2, byteAt p 1 % 2 == 1, byteAt p 2, leAt p 4 4⟩
  | none => {}

/-- The boot-control record is written. -/
def writeBoot (b : BootControl) (s : State) : State :=
  arcWrite 5 b.bytes { s with sys := { s.sys with bootControl := b } }

/-- The exclusion record is written (R383). -/
def writeExclude (mask : Nat) (s : State) : State :=
  arcWrite 3 (le 4 mask) { s with dram := { s.dram with exclude := mask } }

end Sys2Proof.Machine
end

