-- ==== Sys2Proof/Machine/Dram.lean ====
section
/-! DEFINITION. The DRAM controller: ranks, training, refresh, errors, scrub, row disturbance, retirement and migration
(R368-R387). -/

namespace Sys2Proof.Machine

/-! Ranks and channels -/

/-- Rank r of channel c. -/
def State.rank (s : State) (c r : Nat) : Rank := tget {} s.dram.ranks (4 * c + r)

/-- Rank r of channel c takes a new content. -/
def setRank (c r : Nat) (x : Rank) (s : State) : State := { s with dram := { s.dram with ranks := tset s.dram.ranks (4 * c + r) x } }

/-- Rank r of channel c takes a state. -/
def setRankState (c r : Nat) (st : RankState) (s : State) : State := setRank c r { s.rank c r with state := st } s

/-- Channel c. -/
def State.chan (s : State) (c : Nat) : DramChan := tget {} s.dram.chans c

/-- Channel c takes a new content. -/
def setChan (c : Nat) (x : DramChan) (s : State) : State := { s with dram := { s.dram with chans := tset s.dram.chans c x } }

/-- A rank that holds data of the Reserve. -/
def RankState.serves (st : RankState) : Bool := st == .inService || st == .source

/-- Some rank of channel c is in service. -/
def State.chanInService (s : State) (c : Nat) : Bool := (List.range 4).any (fun r => (s.rank c r).state.serves)

/-- The unused spare of channel c. -/
def State.spareOf (s : State) (c : Nat) : Option Nat :=
  if (s.chan c).migration.isSome then none else (List.range 4).find? (fun r => (s.rank c r).state == .spare)

/-- Bytes of a rank pair. -/
def State.pairBytes (s : State) : Nat := 2 * s.dram.rankBytes

/-- Codewords of a rank. -/
def State.rankWords (s : State) : Nat := s.dram.rankBytes / 128

/-- The channel that holds a Reserve offset: 256-byte blocks alternate (R370). -/
def chanOf (a : Nat) : Nat := a / 256 % 2

/-- The place of an offset's codeword within its rank. -/
def State.wordIn (s : State) (a : Nat) : Nat := a % s.pairBytes / 512 * 2 + a / 128 % 2

/-- The rank that serves reads of offset a on channel c: of a pair being migrated, the spare below the copy pointer (R382). -/
def State.serverOf (s : State) (c a : Nat) : Option Nat :=
  if s.dram.rankBytes = 0 then none
  else
    match (List.range 4).find? (fun r => (s.rank c r).state.serves && (s.rank c r).pair == a / s.pairBytes) with
    | none => none
    | some r =>
      match (s.chan c).migration with
      | some m => if m.rank = r ∧ s.wordIn a < (s.rank c m.spare).copied then some m.spare else some r
      | none => some r

/-! Lost segments (R378, R384, R385) -/

/-- A segment becomes LOST; on a standby, that is an own fault (R281, R385). -/
def loseSegment (c : Nat) (g : Seg) (s : State) : State :=
  raise 0x1004 (0x0500 + c) (le 4 g.id ++ [0xFF])
    { s with res := { s.res with segs := s.res.segs.map (fun h => if h.id == g.id && h.state == .committed then { h with state := .lost } else h) } }

/-- Every committed segment with a byte among lo..hi becomes LOST. -/
def loseRange (c lo hi : Nat) (s : State) : State :=
  forEach (s.res.segs.filter (fun g => g.state == .committed && decide (g.offset < hi ∧ lo < g.offset + g.length))) (loseSegment c) s

/-- A retirement that makes a segment LOST makes a standby STALE. -/
def staleOnLoss (c lo hi : Nat) (s : State) : State :=
  if s.res.segs.any (fun g => g.state == .committed && decide (g.offset < hi ∧ lo < g.offset + g.length)) then
    becomeStale 2 (loseRange c lo hi s)
  else s

/-! Retirement (R381, R384) -/

/-- A migration of channel c ends with its source gone; its operation fails, and the rank copied to is a spare again. -/
def endMigration (c code : Nat) (s : State) : State :=
  let x := s.chan c
  match x.migration with
  | none => s
  | some m =>
    let s0 := if (s.rank c m.spare).state == .target then setRankState c m.spare .spare s else s
    let s1 := setChan c { x with migration := none } s0
    match m.slot with
    | some k => endOp k .failed code s1
    | none => s1

/-- The rank's pair leaves the Reserve. Where a region goes with it that only a reset restores, the rank is written into the exclusion
record, so that BOOT excludes it (R384; that this is how it does is DEDUCED, log entry 78). -/
def dropPair (c r : Nat) (s : State) : State :=
  let p := (s.rank c r).pair
  let lo := p * s.pairBytes
  let hi := lo + s.pairBytes
  let d := 1 - c
  let mates := (List.range 4).filter (fun q => (s.rank d q).state.serves && (s.rank d q).pair == p)
  let s1 := setRankState c r .retired s
  let s2 := forEach mates (fun q s => setRankState d q .idle s) s1
  let s3 := match (s2.chan d).migration with
    | some m => if mates.contains m.rank then endMigration d 0xAB100004 s2 else s2
    | none => s2
  let s4 := staleOnLoss c lo hi s3
  let private_ := decide (lo < s4.heapBase)
  let s5 := { s4 with res := { s4.res with capacity := s4.res.capacity - s4.pairBytes, removed := s4.res.removed ++ [⟨lo, hi⟩] } }
  noteReserve (if private_ || s5.res.capacity == 0 then
    safeSet 4 (writeExclude (setBit s5.dram.exclude (4 * c + r) true) s5) else s5)

/-- RANK_RETIRED. -/
def raiseRetired (c r cause : Nat) (spare : Bool) (s : State) : State :=
  raise 0x1001 (0x0500 + c) [BitVec.ofNat 8 c, BitVec.ofNat 8 r, BitVec.ofNat 8 cause, BitVec.ofNat 8 (b2n spare)] s

/-- Rank r of channel c is retired with a cause. One that is a migration source is retired already. -/
def retire (c r cause : Nat) (s : State) : State :=
  match (s.rank c r).state with
  | .inService =>
    match s.spareOf c with
    | some sp =>
      let s1 := raiseRetired c r cause true (setRankState c r .source s)
      setChan c { s1.chan c with migration := some ⟨r, sp, none, cause == 5, s.clk.core + msCk 1⟩ } s1
    | none => dropPair c r (raiseRetired c r cause false s)
  | .spare | .target =>
    let s1 := raiseRetired c r cause false (setRankState c r .retired s)
    match (s.chan c).migration with
    | some m => if m.spare = r then dropPair c m.rank (endMigration c 0xAB100004 s1) else s1
    | none => s1
  | _ => s

/-! Errors (R377, R378) -/

/-- One correction on a rank, by device; more than CE_LIMIT of them in any 24 h raise DEVICE_WEAK. -/
def correct (c r device offset : Nat) (s : State) : State :=
  let x := s.rank c r
  let now := s.clk.core
  let recent := now :: (tget [] x.recent device).filter (fun t => decide (now < t + sCk 86400))
  let x1 := { x with ce := wrapAdd 32 x.ce 1, lastError := offset, recent := tset x.recent device recent
                     devices := tset x.devices device (tget 0 x.devices device + 1) }
  let y := s.chan c
  let s1 := setRank c r x1 (setChan c { y with ce := wrapAdd 64 y.ce 1 } s)
  let s2 := raiseLimited (sCk 1) 0x1005 c (0x0500 + c)
    ([BitVec.ofNat 8 c, BitVec.ofNat 8 r, BitVec.ofNat 8 device, 0] ++ le 4 x1.ce) s1
  if s.val 0x9000 6 < recent.length then
    raiseLimited (sCk 86400) 0x1006 (128 * c + 32 * r + device) (0x0500 + c) [BitVec.ofNat 8 c, BitVec.ofNat 8 r, BitVec.ofNat 8 device] s2
  else s2

/-- The class of a read's user in DRAM_UNCORRECTABLE. -/
def userClass : DramUser → Nat
  | .composition _ _ => 0
  | .reserveBar => 1
  | .bulk => 1
  | .other => 0

/-- A composition read that cannot be used blanks its line (R21, R378). -/
def blankRead (user : DramUser) (s : State) : State :=
  match user with
  | .composition g line =>
    match (s.gal g.val).find line.toNat with
    | some y => putLine g.val (y.because 12) s
    | none => s
  | _ => s

/-- The codeword at an offset is uncorrectable. -/
def uncorrectable (c r offset : Nat) (user : DramUser) (s : State) : State :=
  let x := s.rank c r
  let y := s.chan c
  let s1 := setRank c r { x with ue := wrapAdd 32 x.ue 1, lastError := offset } (setChan c { y with ue := wrapAdd 32 y.ue 1 } s)
  let s2 := raise 0x1008 (0x0500 + c) ([BitVec.ofNat 8 c, BitVec.ofNat 8 r, BitVec.ofNat 8 (userClass user), 0] ++ le 4 (offset / 128)) s1
  let poison := if s.res.poison.contains (offset / 128) then s.res.poison else (offset / 128) :: s.res.poison
  blankRead user { s2 with res := { s2.res with poison := poison } }

/-- A read of the codeword at an offset met an error: corrected in a device, or to be issued again. -/
def doReadError (c r offset : Nat) (device : Option (Fin 20)) (user : DramUser) (s : State) : State :=
  if s.sys.mode == .boot || chanOf offset != c || s.serverOf c offset != some r then s
  else
    match device with
    | some d => correct c r d.val offset s
    | none => setChan c { s.chan c with reread := some (offset, r, user) } s

/-- DRAM_READ_ERROR. -/
def execDramReadError (dt : Nat) (chan : Fin 2) (rank : Fin 4) (offset : Nat) (device : Option (Fin 20)) (user : DramUser) (s : State) :
    Host.Outcome State Fault Refusal := next (doReadError chan.val rank.val offset device user (advance dt s))

/-- The second read of the codeword: it decodes, or is uncorrectable; the rank is retired in both cases. -/
def doReread (c : Nat) (decodes : Bool) (s : State) : State :=
  match (s.chan c).reread with
  | none => s
  | some (offset, r, user) =>
    let s1 := setChan c { s.chan c with reread := none } s
    if decodes then retire c r 0 s1
    else
      let s2 := retire c r 0 (uncorrectable c r offset user s1)
      staleOnLoss c offset (offset + 128) s2

/-- DRAM_REREAD. -/
def execDramReread (dt : Nat) (chan : Fin 2) (decodes : Bool) (s : State) : Host.Outcome State Fault Refusal :=
  next (doReread chan.val decodes (advance dt s))

/-- ALERT_n, or a write CRC error after three retries, retires the rank. -/
def execDramAlert (dt : Nat) (chan : Fin 2) (rank : Fin 4) (writeCrc : Bool) (s : State) : Host.Outcome State Fault Refusal :=
  let s1 := advance dt s
  next (if s1.sys.mode == .boot then s1 else retire chan.val rank.val (if writeCrc then 2 else 1) s1)

/-! Migration (R382, R383) -/

/-- The migration due on channel c starts as the long operation MIGRATE. -/
def doMigrationStart (c : Nat) (s : State) : State :=
  match (s.chan c).migration, s.freeSlot with
  | some m, some k =>
    if m.slot.isSome then s
    else setChan c { s.chan c with migration := some { m with slot := some k } } (startOp k 0x9000 0x0B (2 ^ (1 + c)) (le 1 (4 * c + m.rank)) s)
  | _, _ => s

/-- MIGRATION_START. -/
def execMigrationStart (dt : Nat) (chan : Fin 2) (s : State) : Host.Outcome State Fault Refusal := next (doMigrationStart chan.val (advance dt s))

/-- A slice of the migration in slot k: the copy pointer moves on to a share of the rank. -/
def migrateSlice (c k progress : Nat) (s : State) : State :=
  match (s.chan c).migration with
  | some m =>
    if m.slot = some k then
      let x := s.rank c m.spare
      let upTo := max x.copied (s.rankWords * min progress 9999 / 10000)
      progressOp k (min progress 9999) (setRank c m.spare { x with state := .target, copied := upTo } s)
    else s
  | none => s

/-- Codewords of the pair on channel c that decode as uncorrectable. -/
def State.poisonedIn (s : State) (c p : Nat) : Nat :=
  (s.res.poison.filter (fun w => chanOf (128 * w) == c && 128 * w / s.pairBytes == p)).length

/-- The copy pointer has passed the last codeword: the spare takes the rank's place. -/
def doRankMigrated (c : Nat) (s : State) : State :=
  match (s.chan c).migration with
  | some m =>
    match m.slot with
    | some k =>
      if (s.slot k).state != .running || !(s.slot k).sliced then s
      else
        let p := (s.rank c m.rank).pair
        let s1 := setRank c m.spare { s.rank c m.spare with state := .inService, pair := p, copied := s.rankWords } (setRankState c m.rank .retired s)
        let s2 := writeExclude (setBit s.dram.exclude (4 * c + m.rank) true) (setChan c { s1.chan c with migration := none } s1)
        endOp k .done 0 (raise 0x1002 (0x0500 + c)
          ([BitVec.ofNat 8 c, BitVec.ofNat 8 m.rank, BitVec.ofNat 8 m.spare, 0] ++ le 4 (s.poisonedIn c p)) s2)
    | none => s
  | none => s

/-- RANK_MIGRATED. -/
def execRankMigrated (dt : Nat) (chan : Fin 2) (s : State) : Host.Outcome State Fault Refusal := next (doRankMigrated chan.val (advance dt s))

/-- An aborted MIGRATE leaves the source rank in service. -/
def undoMigrate (c k : Nat) (s : State) : State :=
  match (s.chan c).migration with
  | some m =>
    if m.slot = some k then
      setChan c { s.chan c with migration := none } (setRankState c m.spare .spare (setRankState c m.rank .inService s))
    else s
  | none => s

/-- The channel whose migration slot k runs. -/
def State.migrating (s : State) (k : Nat) : Option (Nat × Migration) :=
  (List.range 2).findSome? (fun c =>
    match (s.chan c).migration with
    | some m => if m.slot = some k then some (c, m) else none
    | none => none)

/-- MIGRATE's own refusals: v names channel and rank. -/
def checkMigrate (v : Nat) (s : State) : Nat :=
  if 7 < v then 0xAB010005
  else if (s.spareOf (v / 4)).isNone then 0xAB100002
  else if (s.rank (v / 4) (v % 4)).state != .inService then 0xAB100004
  else 0

/-- MIGRATE accepted in slot k: the rank is retired and its migration is the operation. -/
def beginMigrate (v k : Nat) (s : State) : State :=
  let s1 := retire (v / 4) (v % 4) 5 s
  match (s1.chan (v / 4)).migration with
  | some m => setChan (v / 4) { s1.chan (v / 4) with migration := some { m with slot := some k } } s1
  | none => s1

/-! Temperature and refresh (R371, R375) -/

/-- The band a temperature lies in. -/
def bandOf (t : Int) : Nat := if t < 850 then 0 else if t ≤ 950 then 1 else 2

/-- The band changes. -/
def setBand (c band : Nat) (s : State) : State :=
  let x := s.chan c
  if x.band = band then s
  else raise 0x1007 (0x0500 + c) ([BitVec.ofNat 8 c, BitVec.ofNat 8 band] ++ le 2 (usg 16 x.temp)) (setChan c { x with band := band } s)

/-- A channel with a rank in service takes at least band 1 when its sensor has become UNKNOWN, and keeps it until reports say
otherwise by R375 (R388). -/
def holdBand (c : Nat) (s : State) : State :=
  if s.chanInService c then
    let s1 := setChan c { s.chan c with below := none } s
    if (s.chan c).band = 0 then setBand c 1 s1 else s1
  else s

/-- The highest valid report of the ranks of channel c that hold data or stand by. -/
def State.hottestRank (s : State) (c : Nat) (reports : List (Option Int)) : Option Int :=
  (List.range 4).foldl (fun acc r =>
    match (s.rank c r).state, reports.getD r none with
    | .absent, _ => acc
    | _, some t => some (match acc with | some m => max m t | none => t)
    | _, none => acc) none

/-- DRAM_TEMP_POLL: TEMP, the band, and the DRAM sensor. -/
def doTempPoll (c : Nat) (reports : List (Option Int)) (s : State) : State :=
  if s.sys.mode == .boot || !s.chanInService c then s
  else
    match s.hottestRank c reports with
    | none => s
    | some t =>
      let b := bandOf t
      let x := s.chan c
      let below := if b < x.band then some (x.below.getD s.clk.core) else none
      let s1 := setChan c { x with temp := t, below := below } s
      sampleSensor (0x1000 + c) t (if x.band < b then setBand c b s1 else s1)

/-- DRAM_TEMP_POLL. -/
def execDramTempPoll (dt : Nat) (chan : Fin 2) (reports : List (Option Int)) (s : State) : Host.Outcome State Fault Refusal :=
  next (doTempPoll chan.val reports (advance dt s))

/-- DRAM_BAND_FALL: every report for 1 s has lain below the band. -/
def doBandFall (c : Nat) (s : State) : State :=
  let x := s.chan c
  match x.below with
  | some t =>
    if t + sCk 1 ≤ s.clk.core ∧ 0 < x.band then
      setBand c (x.band - 1) (setChan c { x with below := if bandOf x.temp < x.band - 1 then some s.clk.core else none } s)
    else s
  | none => s

/-- DRAM_BAND_FALL. -/
def execDramBandFall (dt : Nat) (chan : Fin 2) (s : State) : Host.Outcome State Fault Refusal := next (doBandFall chan.val (advance dt s))

/-- tREFI of a band, in core clocks. -/
def refreshCk (band : Nat) : Nat := if band = 0 then 4680 else 2340

/-- DRAM_REFRESH: a same-bank refresh at each tREFI; which bank is the controller's own affair. -/
def execDramRefresh (dt : Nat) (chan : Fin 2) (s : State) : Host.Outcome State Fault Refusal :=
  let s1 := advance dt s
  let x := s1.chan chan.val
  next (if s1.chanInService chan.val && decide (x.refreshAt + refreshCk (s1.chan chan.val).band ≤ s1.clk.core) then
    emit (.dram 0 chan.val 0 0) (setChan chan.val { x with refreshAt := s1.clk.core } s1) else s1)

/-- ZQ_CALIBRATION: every 128 ms. -/
def execZqCalibration (dt : Nat) (chan : Fin 2) (s : State) : Host.Outcome State Fault Refusal :=
  let s1 := advance dt s
  let x := s1.chan chan.val
  next (if s1.chanInService chan.val && decide (x.zqAt + msCk 128 ≤ s1.clk.core) then
    emit (.dram 1 chan.val 0 0) (setChan chan.val { x with zqAt := s1.clk.core } s1) else s1)

/-- DQS_TRACKING: every 10 ms. -/
def execDqsTracking (dt : Nat) (chan : Fin 2) (s : State) : Host.Outcome State Fault Refusal :=
  let s1 := advance dt s
  let x := s1.chan chan.val
  next (if s1.chanInService chan.val && decide (x.dqsAt + msCk 10 ≤ s1.clk.core) then
    emit (.dram 2 chan.val 0 0) (setChan chan.val { x with dqsAt := s1.clk.core } s1) else s1)

/-! Row disturbance (R380) -/

/-- ACTIVATION_TABLE_CLEAR: every 32 ms. -/
def execActivationTableClear (dt : Nat) (chan : Fin 2) (s : State) : Host.Outcome State Fault Refusal :=
  let s1 := advance dt s
  let x := s1.chan chan.val
  next (if x.clearAt + msCk 32 ≤ s1.clk.core then setChan chan.val { x with tables := [], clearAt := s1.clk.core } s1 else s1)

/-- The first entry of the lowest count of a bank's table. -/
def lowestRow (t : List (Nat × Nat)) : Nat × Nat := t.foldl (fun m e => if e.2 < m.2 then e else m) (t.headD (0, 0))

/-- The row takes a place in a bank's table (R380): its own entry with the count changed by own, else a free one or that of the lowest
count with the count that new gives: from 0 for a free entry, from the lowest count otherwise. -/
def placeRow (own new : Nat → Nat) (row : Nat) (t : List (Nat × Nat)) : List (Nat × Nat) :=
  if t.any (fun e => e.1 == row) then t.map (fun e => if e.1 = row then (row, own e.2) else e)
  else if t.length < 16 then t ++ [(row, new 0)]
  else
    let low := lowestRow t
    t.map (fun e => if e = low then (row, new low.2) else e)

/-- An activation of the row is counted. -/
def countRow (row : Nat) (t : List (Nat × Nat)) : List (Nat × Nat) := placeRow (· + 1) (· + 1) row t

/-- A bank's table with the row's count at 0: in its entry, a free one, or that of the lowest count. -/
def zeroRow (row : Nat) (t : List (Nat × Nat)) : List (Nat × Nat) := placeRow (fun _ => 0) (fun _ => 0) row t

/-- Activations are counted in turn; one that would bring a row to the threshold is left to that row's own HAMMER_REFRESH. -/
def countRows (threshold : Nat) (rows : List Nat) (t : List (Nat × Nat)) : List (Nat × Nat) :=
  rows.foldl (fun t row => let n := countRow row t; if n.any (fun e => decide (threshold ≤ e.2)) then t else n) t

/-- A row's count has reached HAMMER_THRESHOLD: its neighbours are activated and precharged. What other rows the bank's traffic has activated
since is free. -/
def doHammer (c bank row : Nat) (s : State) : State :=
  if s.sys.mode == .boot then s
  else
    let near := if s.val 0x9000 4 = 2 then [1, 2] else [1]
    let s1 := forEach near (fun d s =>
      let up := emit (.dram 3 c bank (row + d)) s
      if d ≤ row then emit (.dram 3 c bank (row - d)) up else up) s
    let x := s1.chan c
    let count := countRows (s.val 0x9000 3) (Config.activations s.free)
    let s2 := setChan c { x with hammer := wrapAdd 32 x.hammer 1, tables := tmod [] x.tables bank (fun t => zeroRow row (count t)) } (draw s1)
    raiseLimited (sCk 1) 0x1003 c (0x0500 + c) (le 1 c ++ zeros 3 ++ le 4 (wrapAdd 32 x.hammer 1)) s2

/-- HAMMER_REFRESH. -/
def execHammerRefresh (dt : Nat) (chan : Fin 2) (bank row : Nat) (s : State) : Host.Outcome State Fault Refusal :=
  next (doHammer chan.val bank row (advance dt s))

/-! Patrol scrub (R379) -/

/-- The codeword of channel c that follows Reserve codeword w. -/
def nextWord (w : Nat) : Nat := if w % 2 = 0 then w + 1 else w + 3

/-- The same, past any range that has left the Reserve. -/
def State.skipGone (s : State) (c w : Nat) : Nat :=
  s.res.removed.foldl (fun v r => if r.lo ≤ 128 * v ∧ 128 * v < r.hi then r.hi / 128 + 2 * c else v) w

/-- SCRUB_PERIOD, in core clocks. -/
def State.scrubPeriod (s : State) : Nat := sCk (3600 * s.val 0x9000 5)

/-- Patrol scrub reads its next codeword, and counts a pass at the last. The next pass waits until SCRUB_PERIOD has gone since the
last one began. -/
def doPatrol (c : Nat) (corrected : Option (Fin 20)) (s : State) : State :=
  let x := s.chan c
  let waits := x.patrol == 0 && (match x.passAt with | some t => decide (s.clk.core < t + s.scrubPeriod) | none => false)
  if !s.chanInService c || x.band == 2 || x.migration.isSome || s.therm.fDie == 0 || waits then s
  else
    let w := if x.patrol = 0 then s.skipGone c (2 * c) else x.patrol
    let s0 := if x.patrol = 0 then setChan c { x with passAt := some s.clk.core } s else s
    let s1 := match corrected, s0.serverOf c (128 * w) with
      | some d, some r => correct c r d.val (128 * w) s0
      | _, _ => s0
    let n := s.skipGone c (nextWord w)
    let y := s1.chan c
    if s1.resEnd ≤ 128 * n then setChan c { y with patrol := 0, passes := wrapAdd 32 y.passes 1 } s1
    else setChan c { y with patrol := n } s1

/-- PATROL_SCRUB. -/
def execPatrolScrub (dt : Nat) (chan : Fin 2) (corrected : Option (Fin 20)) (s : State) : Host.Outcome State Fault Refusal :=
  next (doPatrol chan.val corrected (advance dt s))

/-! TRAIN (R371) -/

/-- The last slice of TRAIN in slot k: a rank in service that fails is retired. -/
def finishTrain (k : Nat) (obs : SliceObs) (s : State) : State :=
  let mask := match obs with | .ranksFail m => m.toNat | _ => 0
  endOp k .done 0 (forEach (onesOf 8 mask) (fun i s => retire (i / 4) (i % 4) 3 s) s)

/-! Training and the Reserve's extent at BOOT (R368-R371, R384) -/

/-- Data bytes of a rank: 8 devices of 8 bits or 16 of 4 hold the data of each lockstep pair of subchannels. -/
def rankData (density width : Nat) : Nat := density * 134217728 * (64 / max 1 width)

/-- The data capacity of both channels is within 128 GiB (R369). -/
def geometryOk (ranks width density : Nat) : Bool := decide (2 * ranks * rankData density width ≤ 137438953472)

/-- What BOOT finds of rank r of channel c: fitted, not excluded, trained. -/
def State.rankGood (s : State) (trained : List Bool) (c r : Nat) : Bool :=
  decide (r < s.val 0x9000 12) && !bitOf s.dram.exclude (4 * c + r) && trained.getD (4 * c + r) false

/-- The number of the spare of channel c, if SPARE names one. -/
def State.spareRank (s : State) (c : Nat) : Option Nat :=
  if bitOf (s.val 0x9000 2) c && decide (1 < s.val 0x9000 12) then some (s.val 0x9000 12 - 1) else none

/-- The rank that serves pair p on channel c after training: rank p itself, or the spare in place of the lowest that is not good. -/
def State.holderOf (s : State) (trained : List Bool) (c p : Nat) : Option Nat :=
  if some p = s.spareRank c then none
  else if s.rankGood trained c p then some p
  else
    match s.spareRank c with
    | none => none
    | some sp =>
      let firstBad := (List.range sp).find? (fun r => !s.rankGood trained c r)
      if firstBad = some p ∧ s.rankGood trained c sp = true then some sp else none

/-- RANK_RETIRED of every fitted rank that is not good. -/
def raiseUntrained (trained : List Bool) (s : State) : State :=
  forEach (List.range 8) (fun i s =>
    let c := i / 4
    let r := i % 4
    if decide (r < s.val 0x9000 12) && !s.rankGood trained c r then
      raiseRetired c r (if bitOf s.dram.exclude i then 4 else 3) (s.holderOf trained c r).isSome s
    else s) s

/-- The pairs in service, ascending. -/
def State.livePairs (s : State) (trained : List Bool) : List Nat :=
  (List.range 4).filter (fun p => (s.holderOf trained 0 p).isSome && (s.holderOf trained 1 p).isSome)

/-- The state in which training leaves rank r of channel c, and the pair it holds. -/
def State.bootRank (s : State) (trained : List Bool) (c r : Nat) : Rank :=
  let held := (s.livePairs trained).findIdx? (fun p => s.holderOf trained c p == some r)
  let st :=
    if s.val 0x9000 12 ≤ r then RankState.absent
    else if bitOf s.dram.exclude (4 * c + r) then .excluded
    else if !(trained.getD (4 * c + r) false) then .retired
    else if held.isSome then .inService
    else if s.spareRank c == some r && (List.range 4).all (fun p => s.holderOf trained c p != some r) then .spare
    else .idle
  { state := st, pair := held.getD 0 }

/-- BOOT's training: the ranks, and CAPACITY. -/
def trainBoot (trained : List Bool) (s : State) : State :=
  let rb := rankData (s.val 0x9000 14) (s.val 0x9000 13)
  let ranks := (List.range 8).map (fun i => (i, s.bootRank trained (i / 4) (i % 4)))
  { s with
    dram := { s.dram with rankBytes := rb, ranks := ranks, chans := [], speed := s.val 0x9000 1 }
    res := { s.res with capacity := 2 * rb * (s.livePairs trained).length } }

end Sys2Proof.Machine
end

