-- ==== Sys2Proof/Machine/Gates.lean ====
section
/-! DEFINITION. The firing gates (R173-R176, R482). -/

namespace Sys2Proof.Machine

/-- Gate n. -/
def State.gate (s : State) (n : Nat) : Gate := tget {} s.gates n

/-- Gate n takes a new content. -/
def setGate (n : Nat) (g : Gate) (s : State) : State := { s with gates := tset s.gates n g }

/-- A configuration entry of gate n (R176). -/
def State.gateVal (s : State) (n sub : Nat) : Nat := s.val (0x2200 + n) sub

/-- Both accepted inputs of gate n stand at their healthy levels (R173). -/
def State.gateHealthy (s : State) (n : Nat) : Bool :=
  let g := s.gate n
  let hp := s.gateVal n 3 == 0
  g.p == hp && g.c == !hp

/-- Gate n enters a state now: LAST_CHANGE is t_w. -/
def enterGate (n : Nat) (st : GateState) (s : State) : State :=
  setVal (0x2200 + n) 9 (time96 s.now) (setGate n { s.gate n with state := st } s)

/-- GATE_WITHDRAWN or GATE_FAULT: a cause of blank lines, so that a standby raises neither (R283; DEDUCED, log entry 73). -/
def raiseGate (code : Nat) (arg : Bytes) (s : State) : State := if s.pair.role == .standby then s else raise code 0x11 arg s

/-- What a withdrawal does in an acting mode (R174, R175): a latching gate sets the SAFE latch, a self-clearing one holds
firing. -/
def gateAction (n : Nat) (s : State) : State :=
  if s.gateActs s.sys.mode n then
    if s.gateVal n 5 = 1 then safeSet 1 s else stopFiring s.now s
  else s

/-- Gate n is withdrawn (R173, R174, R482). -/
def withdrawGate (n : Nat) (s : State) : State :=
  let latches := s.gateActs s.sys.mode n && s.gateVal n 5 == 1
  gateAction n (raiseGate 0x0701 (le 1 n ++ le 1 (s.gateVal n 1) ++ le 1 (b2n latches))
    (bump (0x2200 + n) 8 32 (enterGate n .withdrawn s)))

/-- Gate n takes its first state from its accepted inputs, and its discrepancy check runs from now (R482). -/
def firstGateState (n : Nat) (s : State) : State :=
  let g := s.gate n
  let s1 := setGate n { g with equalAt := if g.p == g.c then some s.clk.core else none } s
  if s.gateVal n 2 = 0 then enterGate n .disabled s1
  else if s1.gateHealthy n then enterGate n .healthy s1
  else withdrawGate n s1

/-- A write of ENABLE (R173, R482). -/
def enableGate (n : Nat) (s : State) : State :=
  if s.gateVal n 2 = 0 then enterGate n .disabled (setGate n { s.gate n with equalAt := none } s)
  else if (s.gate n).state == .disabled then firstGateState n s
  else s

/-- Gate n moves as its accepted inputs and HEALTHY now stand (R173). A disabled gate, and every gate in BOOT, stays. -/
def judgeGate (n : Nat) (s : State) : State :=
  if s.sys.mode == .boot then s
  else
    match (s.gate n).state with
    | .healthy => if s.gateHealthy n then s else withdrawGate n s
    | .withdrawn =>
      if s.gateHealthy n then raise 0x0702 0x11 (le 1 n ++ le 1 (s.gateVal n 1)) (enterGate n .healthy s) else s
    | .fault => s
    | .disabled => s

/-- New accepted levels of gate n (R173). A write of HEALTHY judges the levels that stand anew (DEDUCED, log entry 46). -/
def doGateInput (n : Nat) (p c : Bool) (s : State) : State :=
  let g := s.gate n
  let equal := if p == c then (match g.equalAt with | some t => some t | none => some s.clk.core) else none
  judgeGate n (setGate n { g with p := p, c := c, equalAt := equal } s)

/-- GATE_INPUT_ACCEPTED. -/
def execGateInputAccepted (dt : Nat) (n : Fin 8) (p c : Bool) (s : State) : Host.Outcome State Fault Refusal :=
  next (doGateInput n.val p c (advance dt s))

/-- P has equalled C for more than 1 ms: the gate is in FAULT (R173, R174). -/
def doGateFault (n : Nat) (s : State) : State :=
  let g := s.gate n
  match g.equalAt with
  | none => s
  | some t =>
    if s.sys.mode != .boot && (g.state == .healthy || g.state == .withdrawn) && t + msCk 1 < s.clk.core then
      let s1 := raiseGate 0x0703 (le 1 n ++ le 1 (b2n g.p) ++ le 1 (b2n g.c)) (enterGate n .fault s)
      if s1.gateActs s1.sys.mode n then safeSet 1 s1 else s1
    else s

/-- GATE_FAULT. -/
def execGateFault (dt : Nat) (n : Fin 8) (s : State) : Host.Outcome State Fault Refusal := next (doGateFault n.val (advance dt s))

/-- FAULT_CLEAR is refused when it names no gate (R32), or a named gate's inputs are not complementary (R176). -/
def checkFaultClear (mask : Nat) (s : State) : Nat :=
  if mask = 0 then 0xAB010005
  else if (onesOf 8 mask).any (fun n => (s.gate n).p == (s.gate n).c) then 0xAB070005 else 0

/-- FAULT_CLEAR: each named gate in FAULT takes the state its inputs give (R173). -/
def faultClear (mask : Nat) (s : State) : State :=
  forEach (onesOf 8 mask) (fun n s =>
    if (s.gate n).state == .fault then enterGate n (if s.gateHealthy n then .healthy else .withdrawn) s else s) s

end Sys2Proof.Machine
end

