-- ==== Sys2Proof/Machine/Motion.lean ====
section
/-! DEFINITION. Web motion and the line clock: encoders, the master tick, probes, compare units and emulated encoders
(R54-R86). -/

namespace Sys2Proof.Machine

/-! Objects -/

/-- Encoder channel c. -/
def State.enc (s : State) (c : Nat) : Enc := tget {} s.encs c

/-- Encoder channel c takes a new content. -/
def setEnc (c : Nat) (x : Enc) (s : State) : State := { s with encs := tset s.encs c x }

/-- A configuration entry of channel c (R59). -/
def State.encCfg (s : State) (c sub : Nat) : Nat := s.val (0x2000 + 0x10 * c) sub

/-- POSITION of channel 0. -/
def State.position (s : State) : Int := (s.enc 0).pos

/-- Channel c counts: it is enabled, out of BOOT and TEST (R60). -/
def State.counts (s : State) (c : Nat) : Bool :=
  s.encCfg c 1 == 1 && s.sys.mode != .boot && s.sys.mode != .test

/-- Raw time of a change that leaves a filter of FILTER core clocks now (R55). -/
def State.rawTime (s : State) (filter : Nat) : Nat := s.clk.core - (filter + 2)

/-- The three outputs' phase of an A/B state: 00, 10, 11, 01 are 0, 1, 2, 3 (R56, R82). -/
def quadPhase (a b : Bool) : Nat :=
  match a, b with
  | false, false => 0
  | true, false => 1
  | true, true => 2
  | false, true => 3

/-! Compare outputs (R80, R81, R275) -/

/-- The unit's pulse on output m ends after core clock k. -/
def Cmp.drives (x : Cmp) (m k : Nat) : Bool := bitOf x.pulseOut m && k < x.pulseEnd

/-- Output m takes the level its pulses give; compare outputs 0-7 show it only where the unit drives the shared outputs. -/
def setPulse (m : Nat) (on : Bool) (s : State) : State :=
  if tget false s.pulses m == on then s
  else
    let s1 := { s with pulses := tset s.pulses m on }
    if m < 8 && (!s.drivesShared || s.val (0x20A0 + m) 1 != 0) then s1
    else emit (.pulse m (on != (m < 8 && s.flag (0x20A0 + m) 2))) s1

/-- CMPOUT[m] as driven: the chosen source at the chosen polarity, inactive in TEST (R80, R81); none while this unit holds the
shared outputs high-impedance (R275). -/
def State.cmpOut (s : State) (m : Nat) : Option Bool :=
  let active := match s.val (0x20A0 + m) 1 with
    | 0 => tget false s.pulses m
    | 1 => s.lc.speedWarn
    | 2 => (s.enc 0).still
    | _ => s.lc.state == .reversed
  if s.drivesShared then some ((active && s.sys.mode != .test) != s.flag (0x20A0 + m) 2) else none

/-! Compare units (R78-R80) -/

/-- Unit u. -/
def State.cmp (s : State) (u : Nat) : Cmp := tget {} s.cmps u

/-- Unit u takes a new content. -/
def setCmp (u : Nat) (x : Cmp) (s : State) : State := { s with cmps := tset s.cmps u x }

/-- TARGET of unit u. -/
def State.target (s : State) (u : Nat) : Int := s.ival (0x2080 + u) 2 6

/-- Camera contexts that name unit u record its firing, at most 8 deep (R222). -/
def recordTrigger (u : Nat) (target : Int) (t : Nat) (s : State) : State :=
  forEach (List.range 16) (fun c s =>
    if s.val (0x7000 + c) 8 = u then
      let x := tget {} s.ctxs c
      let s1 := if 8 ≤ x.trigs.length then bump (0x7000 + c) 0x20 32 s else s
      let kept := if 8 ≤ x.trigs.length then x.trigs.drop 1 else x.trigs
      { s1 with ctxs := tset s1.ctxs c { x with trigs := kept ++ [(target, t, s.clk.core)] } }
    else s) s

/-- Core clocks of n ns, rounded up. -/
def nsCk (n : Nat) : Nat := (n * 6 + 4) / 5

/-- Unit u fires with firing time t, and then its target moves n increments or it disarms (R78, R79). -/
def fireCmp (u t n : Nat) (s : State) : State :=
  let i := 0x2080 + u
  let target := s.target u
  let outs := s.val i 5
  let x := s.cmp u
  let s1 := setCmp u { x with
    behind := false, fired := wrapAdd 32 x.fired 1, firedAt := t
    pulseEnd := s.clk.core + nsCk (s.val i 6), pulseOut := outs } s
  let s2 := forEach (onesOf 16 outs) (fun m s => setPulse m true s) s1
  let s3 := recordTrigger u target t
    (raiseAt t 0x030A 0x10 (le 1 u ++ zeros 1 ++ le 6 (usg 48 target)) s2)
  let inc : Int := (s.val i 3 * n : Nat)
  if s.val i 3 = 0 then setVal i 1 0 s3
  else setVal i 2 (usg 48 (if s.val i 1 = 1 then target + inc else target - inc)) s3

/-- A count of channel 0 crosses unit u's target in the armed direction (R78). -/
def State.crosses (s : State) (u : Nat) (old new : Int) : Bool :=
  let t := s.target u
  match s.val (0x2080 + u) 1 with
  | 1 => decide (posDiff old t < 0 ∧ 0 ≤ posDiff new t)
  | 2 => decide (0 < posDiff old t ∧ posDiff new t ≤ 0)
  | _ => false

/-- Every unit that a count crosses fires, in ascending order. -/
def compareAll (old new : Int) (t : Nat) (s : State) : State :=
  forEach (List.range 16) (fun u s => if s.crosses u old new then fireCmp u t 1 s else s) s

/-- A write of TARGET or ARM that leaves unit u armed is checked against the position; one that disarms it clears BEHIND
(R79). -/
def checkCmp (u : Nat) (s : State) : State :=
  let arm := s.val (0x2080 + u) 1
  let d := posDiff (s.target u) s.position
  if arm = 0 then setCmp u { s.cmp u with behind := false } s
  else if (arm = 1 ∧ d ≤ 0) ∨ (arm = 2 ∧ 0 ≤ d) then
    let s1 := raise 0x030B 0x10 (le 1 u ++ zeros 1 ++ le 6 (usg 48 (s.target u)))
      (setCmp u { s.cmp u with behind := true } s)
    if s.flag (0x2080 + u) 4 then
      fireCmp u s.now (if s.val (0x2080 + u) 3 = 0 then 1 else d.natAbs / s.val (0x2080 + u) 3 + 1) s1
    else s1
  else s

/-- In BOOT and TEST every unit is disarmed and every output inactive (R80). -/
def disarmAll (s : State) : State :=
  let s1 := forEach (List.range 16) (fun m s => setPulse m false s) s
  forEach (List.range 16) (fun u s => setVal (0x2080 + u) 1 0 (setCmp u { s.cmp u with behind := false, pulseEnd := 0, pulseOut := 0 } s)) s1

/-! Index check (R57) -/

/-- INDEX_INVALID: kind 0 misplaced, 1 missing. -/
def indexError (c kind raw : Nat) (s : State) : State :=
  let x := s.enc c
  raiseAt (s.timeAt raw) 0x0302 0x10 (le 1 c ++ le 1 kind ++ le 6 (usg 48 x.pos))
    (setEnc c { x with
      indexErrors := wrapAdd 32 x.indexErrors 1, indexRef := if kind = 0 then some x.pos else none, open_ := [] } s)

/-- The expected indices that lie within Z_TOL of the position without a Z edge, after a count in direction d: those that were
there, and the one that the count has just come to. -/
def Enc.nearby (x : Enc) (ref_ : Int) (period : Nat) (d : Int) : List (Int × Bool) :=
  let i := wrap48 (x.pos + d * x.zTol)
  if posDiff i ref_ % (period : Int) = 0 then (i, decide (0 < d)) :: x.open_ else x.open_

/-- The position has come to index e from one side and lies more than Z_TOL beyond it on the other. -/
def Enc.passed (x : Enc) (e : Int × Bool) : Bool :=
  let d := posDiff x.pos e.1
  if e.2 then decide ((x.zTol : Int) < d) else decide (d < -(x.zTol : Int))

/-- After a count in direction d: an expected index that the position has passed with no Z edge is missing. -/
def checkPassed (c : Nat) (d : Int) (raw : Nat) (s : State) : State :=
  let x := s.enc c
  let period := s.encCfg c 4
  match x.indexRef with
  | none => s
  | some r =>
    if period = 0 then s
    else
      let near := x.nearby r period d
      if near.any x.passed then indexError c 1 raw s
      else setEnc c { x with open_ := near.filter (fun e => decide ((posDiff x.pos e.1).natAbs ≤ x.zTol)) } s

/-- A qualified Z edge of channel c (R57). It stands for every expected index within Z_TOL of it, where Z_PERIOD is so short that
there are several (DEDUCED, log entry 71). -/
def indexEdge (c raw : Nat) (s : State) : State :=
  let x := s.enc c
  let period := s.encCfg c 4
  let tol := s.encCfg c 5
  let x1 := { x with indexPos := x.pos, zTol := tol, open_ := x.open_.filter (fun e => decide (tol < (posDiff x.pos e.1).natAbs)) }
  if period = 0 then setEnc c { x with indexPos := x.pos } s
  else
    match x.indexRef with
    | none => setEnc c { x1 with indexRef := some x.pos, open_ := [] } s
    | some r =>
      let q := posDiff x.pos r % (period : Int)
      if q ≤ tol ∨ (period : Int) - tol ≤ q then setEnc c x1 s else indexError c 0 raw (setEnc c x1 s)

/-- ENCODER_INDEX_EDGE: a rising edge of accepted Z, qualified under Z_GATE (R57). While the channel does not count (ENABLE 0, BOOT,
TEST), of which R57 says nothing, the edge is ignored and latches nothing (DESIGN CHOICE, log entry 71). -/
def doIndexEdge (c : Nat) (s : State) : State :=
  let x := s.enc c
  if s.counts c && (s.encCfg c 6 == 0 || (x.a && x.b)) then indexEdge c (s.rawTime (s.encCfg c 2)) s else s

/-- ENCODER_INDEX_EDGE. -/
def execEncoderIndexEdge (dt : Nat) (ch : Fin 2) (s : State) : Host.Outcome State Fault Refusal :=
  next (doIndexEdge ch.val (advance dt s))

/-! The line clock (R64-R70) -/

/-- A cross-check window starts at the present positions, while XCHECK_WINDOW is not 0 (R58). -/
def startWindow (s : State) : State :=
  { s with lc := { s.lc with xStart := if s.val 0x2100 8 = 0 then none else some ((s.enc 0).pos, (s.enc 1).pos) } }

/-- HYSTERESIS. -/
def State.hysteresis (s : State) : Nat := s.val 0x2100 3

/-- The clock enters REVERSED (R70, R164). -/
def enterReversed (raw : Nat) (s : State) : State :=
  let c := s.lc
  let t := s.timeAt raw
  let s1 := raiseAt t 0x0304 0x10 (le 6 (usg 48 c.hwm) ++ le 2 s.hysteresis)
    { s with lc := { c with
        state := .reversed, warned := false, times := [], xStart := none, reverses := wrapAdd 32 c.reverses 1 } }
  predictorLost (speedWarnAt t s1)

/-- The position is more than REVERSE_MAX below the mark (R70). -/
def webReversed (raw : Nat) (s : State) : State :=
  let c := s.lc
  let s1 := raiseAt (s.timeAt raw) 0x0306 0x10 (le 6 (usg 48 c.hwm) ++ le 1 (s.val 0x2100 6)) { s with lc := { c with warned := true } }
  if s.val 0x2100 6 = 1 then safeSet 2 s1 else s1

/-- The position regains the mark: the clock returns to RUN (R58, R70). -/
def clearReversed (raw : Nat) (s : State) : State :=
  let c := s.lc
  startWindow (raiseAt (s.timeAt raw) 0x0305 0x10 (le 6 (usg 48 c.hwm)) { s with lc := { c with state := .run, times := [] } })

/-- The backward-motion part of an edge (R67, R70). -/
def reverseStep (raw : Nat) (s : State) : State :=
  let below (s : State) : Int := posDiff s.lc.hwm s.position
  let s1 := if s.lc.state == .run && (s.hysteresis : Int) < below s then enterReversed raw s else s
  let s2 := if s1.lc.state == .reversed && !s1.lc.warned && ((s1.val 0x2100 4 : Nat) : Int) < below s1 then webReversed raw s1 else s1
  let s3 := if s2.lc.state == .reversed && below s2 ≤ 0 then clearReversed raw s2 else s2
  if below s3 < 0 then { s3 with lc := { s3.lc with hwm := s3.position } } else s3

/-- The position has reached the next boundary (R67). -/
def State.boundaryReached (s : State) : Bool :=
  let d := posDiff s.position s.lc.bInt
  0 < d || (d == 0 && s.lc.bFrac == 0)

/-- Ticks of the boundaries that an edge reaches, in order; C is at least 2^-8, so one count reaches at most 257. -/
def tickWhile : Nat → Nat → State → State
  | 0, _, s => s
  | n + 1, raw, s => if s.lc.state == .run && s.boundaryReached then tickWhile n raw (masterTick raw s) else s

/-- The line clock on an accepted edge of channel 0 in direction d (R67). -/
def clockEdge (d : Int) (raw prev : Nat) (s : State) : State :=
  let c := s.lc
  if c.state == .halted then s
  else
    let c1 := if 0 < d then { c with te := if 1 ≤ c.fwdRun then (raw - prev) % 4294967296 else c.te, fwdRun := min (c.fwdRun + 1) 2 }
      else { c with fwdRun := 0 }
    tickWhile 300 raw (reverseStep raw { s with lc := c1 })

/-! The edge (R56-R62, R85) -/

/-- The present run of edges after one more at raw time t: the last 64, no older than 1 ms, at least two (R61). -/
def runAfter (t : Nat) (run : List Nat) : List Nat :=
  let r := (t :: run).take 64
  r.take 2 ++ (r.drop 2).filter (fun x => t - x ≤ msCk 1)

/-- Emulated encoders take a count of channel 0 (R82). -/
def emuCount (d : Int) (s : State) : State :=
  forEach [0, 1] (fun e s =>
    if s.flag (0x20C0 + e) 1 then
      let x := tget {} s.emus e
      { s with emus := tset s.emus e { x with acc := x.acc + d * s.val (0x20C0 + e) 2 } }
    else s) s

/-- A count of channel c in direction d with raw time raw. -/
def countEdge (c : Nat) (a b : Bool) (d : Int) (raw : Nat) (s : State) : State :=
  let x := s.enc c
  let pos := wrap48 (x.pos + d)
  let fresh := x.still || x.dir != d
  let x1 := { x with
    a := a, b := b, pos := pos, dir := d, still := false, edgeAt := raw
    run := if fresh then [raw] else runAfter raw x.run
    history := if c = 0 then ((raw, pos) :: x.history).take 64 else x.history }
  let s1 := setEnc c x1 s
  let s2 := if x.still then raiseAt (s.timeAt raw) 0x0307 0x10 [BitVec.ofNat 8 c, 0] s1 else s1
  let s3 := checkPassed c d raw s2
  if c = 0 then compareAll x.pos pos (s.timeAt raw) (emuCount d (clockEdge d raw x.edgeAt s3)) else s3

/-- An impossible transition (R56). -/
def illegalEdge (c : Nat) (a b : Bool) (raw : Nat) (s : State) : State :=
  let x := s.enc c
  let n := wrapAdd 32 x.illegal 1
  raiseLimitedAt (s.timeAt raw) (sCk 1) 0x0301 c 0x10 (argB4 c n) (setEnc c { x with a := a, b := b, illegal := n } s)

/-- Accepted levels a, b of channel c leave the filter (R56, R60). -/
def doEdge (c : Nat) (a b : Bool) (s : State) : State :=
  let x := s.enc c
  let raw := s.rawTime (s.encCfg c 2)
  if !s.counts c then setEnc c { x with a := a, b := b } s
  else
    match (quadPhase a b + 4 - quadPhase x.a x.b) % 4 with
    | 0 => s
    | 1 => countEdge c a b (if s.encCfg c 3 = 1 then -1 else 1) raw s
    | 2 => illegalEdge c a b raw s
    | _ => countEdge c a b (if s.encCfg c 3 = 1 then 1 else -1) raw s

/-- ENCODER_EDGE. -/
def execEncoderEdge (dt : Nat) (ch : Fin 2) (a b : Bool) (s : State) : Host.Outcome State Fault Refusal :=
  next (doEdge ch.val a b (advance dt s))

/-! Cross-check (R58) -/

/-- d in 0.01 percent for changes of d0 and d1 counts, R = ratio / 2^32. -/
def deviationOf (ratio : Nat) (d0 d1 : Int) : Int :=
  clampI (-2147483648) 2147483647 (rneDiv ((d1 * 4294967296 - ratio * d0) * 10000) (ratio * d0))

/-- |d| exceeds tol, in 0.01 percent. -/
def deviates (ratio tol : Nat) (d0 d1 : Int) : Bool :=
  (tol : Int) * (ratio * d0) < (d1 * 4294967296 - ratio * d0).natAbs * 10000

/-- The window ends once channel 0 has advanced XCHECK_WINDOW counts. -/
def doWindowEnd (s : State) : State :=
  match s.lc.xStart with
  | none => s
  | some (p0, p1) =>
    let d0 := posDiff (s.enc 0).pos p0
    let d1 := posDiff (s.enc 1).pos p1
    let ratio := s.val 0x2100 7
    if s.val 0x2100 8 = 0 ∨ d0 < s.val 0x2100 8 then s
    else
      let d := deviationOf ratio d0 d1
      let s1 := startWindow { s with lc := { s.lc with deviation := d } }
      if deviates ratio (s.val 0x2100 9) d0 d1 then
        let s2 := raiseAt (s.timeAt (s.enc 0).edgeAt) 0x0303 0x10 (le 4 (usg 32 d)) s1
        if s.val 0x2100 10 = 1 then safeSet 2 s2 else s2
      else s1

/-- XCHECK_WINDOW_END. -/
def execXcheckWindowEnd (dt : Nat) (s : State) : Host.Outcome State Fault Refusal := next (doWindowEnd (advance dt s))

/-! Standstill (R62) -/

/-- No edge of channel c within T_STILL. -/
def doWebStill (c : Nat) (s : State) : State :=
  let x := s.enc c
  if s.sys.mode == .boot || s.sys.mode == .test || x.still || s.clk.core < x.edgeAt + msCk (s.val 0x2100 5) then s
  else
    let s1 := raise 0x0307 0x10 [BitVec.ofNat 8 c, 1] (setEnc c { x with still := true, run := [] } s)
    if c = 0 then speedWarn { s1 with lc := { s1.lc with fwdRun := 0, times := [] } } else s1

/-- WEB_STILL. -/
def execWebStill (dt : Nat) (ch : Fin 2) (s : State) : Host.Outcome State Fault Refusal := next (doWebStill ch.val (advance dt s))

/-! Synthesised ticks (R67, R68) -/

/-- The time at which the next boundary is synthesised, if it may be. -/
def State.synthDue (s : State) : Option Nat :=
  let c := s.lc
  if s.val 0x2100 1 = 1 ∧ c.state = .run ∧ c.fwdRun = 2 ∧ c.bInt = s.position ∧ c.bFrac ≠ 0 then
    some ((s.enc 0).edgeAt + c.te * c.bFrac / 4294967296)
  else none

/-- SYNTHESISED_TICK: a tick at its due time, once that has come. -/
def doSynthTick (s : State) : State :=
  match s.synthDue with
  | none => s
  | some due => if due ≤ s.clk.core then masterTick due s else s

/-- SYNTHESISED_TICK. -/
def execSynthesisedTick (dt : Nat) (s : State) : Host.Outcome State Fault Refusal := next (doSynthTick (advance dt s))

/-! Halting and origins (R64, R71) -/

/-- The mark and the next boundary from the present position: the mark there, the boundary C beyond it. -/
def LineClock.placed (c : LineClock) (pos : Int) (cpl : Nat) : LineClock :=
  { c with hwm := pos, bInt := wrap48 (pos + (cpl / 4294967296 : Nat)), bFrac := cpl % 4294967296 }

/-- Channel 0 ENABLE is written 0: the clock halts and holds (R64). What LINE_PERIOD reads while HALTED R64 does not say: its times
are dropped at the halt, so that it reads 0 (DESIGN CHOICE, log entry 71). -/
def haltClock (s : State) : State :=
  let c := s.lc
  if c.state == .halted then s
  else predictorLost (speedWarn { s with lc := { c with state := .halted, wasReversed := c.state == .reversed, times := [] } })

/-- Channel 0 ENABLE is written 1: the clock resumes (R64, R69). -/
def resumeClock (s : State) : State :=
  let c := s.lc
  if c.state == .halted then
    { s with lc := { c with state := if c.wasReversed then .reversed else .run, wasReversed := false, times := [] } }
  else s

/-- The clock starts on leaving BOOT, or on leaving TEST after it (R60, R64). From when T_STILL runs before a channel's first edge
R62 does not say: from here (DESIGN CHOICE, log entry 71). -/
def startClock (s : State) : State :=
  let e0 := { s.enc 0 with pos := 0, history := [], run := [], edgeAt := s.clk.core }
  let s1 := setEnc 1 { s.enc 1 with pos := 0, history := [], run := [], edgeAt := s.clk.core } (setEnc 0 e0 s)
  let c := { s1.lc with lastTick := 0, wasReversed := false, fwdRun := 0, times := [] }.placed 0 (s.val 0x2100 2)
  startWindow { s1 with lc := { c with state := if s.encCfg 0 1 = 1 then .run else .halted } }

/-- ORIGIN (R71): refused with 0xAB03_0002 once a tick has been issued, unless it moves the number forward. -/
def checkOrigin (v : Nat) (s : State) : Nat :=
  if s.lc.ticked && serial32 v s.lc.lastTick < 1 then 0xAB030002 else 0

/-- What an accepted ORIGIN write of v does: the clock, PREDICTOR_VALID, LINE_ORIGIN. -/
def origin (v : Nat) (s : State) : State :=
  let old := s.lc.lastTick
  let c := { s.lc with lastTick := usg 32 ((v : Int) - 1), wasReversed := false, times := [], warned := false, originAt := some s.clk.core }.placed s.position (s.val 0x2100 2)
  let was := c.state
  let c1 := if c.state == .halted then c else { c with state := .run }
  let s1 := predictorLost { s with lc := c1 }
  let s2 := if was == .reversed then startWindow s1 else s1
  speedWarn (raise 0x030E 0x10 (le 4 v ++ le 4 old) s2)

/-! Write effects of the motion entries -/

/-- A write of ENABLE of channel 0. -/
def enableEnc0 (s : State) : State := if s.encCfg 0 1 = 1 then resumeClock s else haltClock s

/-- A write of Z_PERIOD or Z_GATE restarts the index check (R57). -/
def restartIndex (c : Nat) (s : State) : State :=
  setEnc c { s.enc c with indexRef := none, open_ := [] } s

/-- A write of an emulated encoder's ENABLE: 1 sets the accumulator and the output position to 0 (R82), where the encoder was enabled
already too, of which R82 says nothing (DESIGN CHOICE, log entry 71). -/
def enableEmu (e : Nat) (s : State) : State :=
  if s.flag (0x20C0 + e) 1 then { s with emus := tset s.emus e { acc := 0, out := 0, stepAt := s.clk.core } } else s

/-! COMPARE_PULSE_END -/

/-- The last pulse on output m has ended (R80). -/
def doPulseEnd (m : Nat) (s : State) : State :=
  if (List.range 16).any (fun u => (s.cmp u).drives m s.clk.core) then s else setPulse m false s

/-- COMPARE_PULSE_END. -/
def execComparePulseEnd (dt : Nat) (m : Fin 16) (s : State) : Host.Outcome State Fault Refusal := next (doPulseEnd m.val (advance dt s))

/-! Probes (R75, R76) -/

/-- Probe p. -/
def State.probe (s : State) (p : Nat) : Probe := tget {} s.probes p

/-- Probe p takes a new content. -/
def setProbe (p : Nat) (x : Probe) (s : State) : State := { s with probes := tset s.probes p x }

/-- An accepted level of probe p: an edge of the selected sense is kept with its raw time. -/
def doProbeEdge (p : Nat) (level : Bool) (s : State) : State :=
  let x := s.probe p
  let i := 0x2040 + p
  let edge := if level then 1 else 2
  let x1 := { x with level := level }
  if level == x.level || !s.flag i 1 || s.sys.mode == .boot || s.sys.mode == .test || s.val i 2 &&& edge == 0 then setProbe p x1 s
  else setProbe p { x1 with waiting := x.waiting ++ [(s.rawTime (s.val i 3), edge)] } s

/-- PROBE_EDGE. -/
def execProbeEdge (dt : Nat) (p : Fin 4) (level : Bool) (s : State) : Host.Outcome State Fault Refusal :=
  next (doProbeEdge p.val level (advance dt s))

/-- The channel 0 position after every edge with raw time at or before t, as the history of the last 64 edges has it; before
the first edge since BOOT it is 0, and before a full history it is a free value. -/
def State.positionAt (s : State) (t : Nat) : Int :=
  let h := (s.enc 0).history
  match h.find? (fun e => e.1 ≤ t) with
  | some e => e.2
  | none => if h.length < 64 then 0 else sgn 48 (Config.freeValue s.free).toNat

/-- The window of probe p takes position x (R76). -/
def State.inWindow (s : State) (p : Nat) (x : Int) : Bool :=
  let lo := s.ival (0x2040 + p) 4 6
  let hi := s.ival (0x2040 + p) 5 6
  lo == hi || (0 ≤ posDiff x lo && 0 ≤ posDiff hi x)

/-- A latch of probe p (R76). -/
def latchProbe (p : Nat) (y : Latch) (s : State) : State :=
  let x := s.probe p
  let x1 := { x with last := y, count := wrapAdd 32 x.count 1 }
  if x.queue.length < 16 then setProbe p { x1 with queue := x.queue ++ [y], queuedAt := s.clk.core } s
  else
    let n := wrapAdd 32 x.overflows 1
    raiseLimitedAt y.at_ (sCk 1) 0x0309 p 0x10 (argB4 p n) (setProbe p { x1 with overflows := n } s)

/-- The oldest edge of probe p whose encoder filter delay has passed is looked up and latched or rejected. -/
def doProbeLatch (p : Nat) (s : State) : State :=
  let x := s.probe p
  match x.waiting with
  | [] => s
  | (raw, edge) :: rest =>
    if s.clk.core < raw + s.encCfg 0 2 + 2 then s
    else
      let pos := s.positionAt raw
      let s1 := draw (setProbe p { x with waiting := rest } s)
      if s.inWindow p pos then latchProbe p ⟨s.timeAt raw, edge, pos⟩ s1
      else setProbe p { s1.probe p with rejected := wrapAdd 32 x.rejected 1 } s1

/-- PROBE_LATCH. Queues that earlier latches filled are emptied first, as time has passed. -/
def execProbeLatch (dt : Nat) (p : Fin 4) (s : State) : Host.Outcome State Fault Refusal :=
  next (doProbeLatch p.val (drainProbes (advance dt s)))

/-! Emulated encoders (R82, R83) -/

/-- The owed output position: the floor of the accumulator. -/
def Emu.owed (x : Emu) : Int := x.acc / 4294967296

/-- LAG. -/
def Emu.lag (x : Emu) : Int := x.owed - x.out

/-- Outputs A, B and Z of emulated encoder e; all low while it is disabled (R82), and none while this unit holds the shared outputs
high-impedance (R275). -/
def State.emuPins (s : State) (e : Nat) : Option (Bool × Bool × Bool) :=
  if !s.drivesShared then none
  else if s.flag (0x20C0 + e) 1 then
    let x := tget {} s.emus e
    let q := (x.out % 4).toNat
    let zp := s.val (0x20C0 + e) 4
    some (q == 1 || q == 2, q == 2 || q == 3, zp != 0 && x.out % (zp : Int) == 0)
  else some (false, false, false)

/-- EMU_LAG, at the first occurrence and then at most once per second. -/
def noteLag (e : Nat) (s : State) : State :=
  let lag := (tget {} s.emus e).lag
  if s.flag (0x20C0 + e) 1 && s.val (0x20C0 + e) 5 < lag.natAbs then raiseLimited (sCk 1) 0x030C e 0x10 (argB4 e (usg 32 lag)) s else s

/-- One step toward the owed position, MIN_EDGE after the one before. -/
def doEmuStep (e : Nat) (s : State) : State :=
  let x := tget {} s.emus e
  if !s.flag (0x20C0 + e) 1 || x.lag == 0 || s.clk.core < x.stepAt + nsCk (s.val (0x20C0 + e) 3) then s
  else { s with emus := tset s.emus e { x with out := if 0 < x.lag then x.out + 1 else x.out - 1, stepAt := s.clk.core } }

/-- EMU_STEP. -/
def execEmuStep (dt : Nat) (e : Fin 2) (s : State) : Host.Outcome State Fault Refusal :=
  next (doEmuStep e.val (noteLag e.val (advance dt s)))

/-! What a channel's status shows (R61-R63) -/

/-- SPEED_VALID: two or more edges in one direction since the channel last stood still or turned. -/
def Enc.speedValid (x : Enc) : Bool := !x.still && decide (2 ≤ x.run.length)

/-- SPEED, counts per second: the run's intervals over its span. -/
def Enc.speed (x : Enc) : Int :=
  match x.run.head?, x.run.getLast? with
  | some t, some t0 => if x.speedValid && decide (t0 < t) then x.dir * rneDiv ((x.run.length - 1 : Nat) * 1200000000) (t - t0 : Nat) else 0
  | _, _ => 0

/-- EDGE_PERIOD, core clocks. -/
def Enc.edgePeriod (x : Enc) : Nat :=
  match x.run with
  | t :: u :: _ => if x.speedValid then t - u else 0
  | _ => 0

/-- FLAGS of the channel's status. -/
def Enc.flags (x : Enc) : Nat := b2n x.still + 2 * b2n x.speedValid + 4 * b2n (x.dir == -1)

end Sys2Proof.Machine
end

