-- ==== Sys2Proof/Machine/Lamps.lean ====
section
/-! DEFINITION. The lamp chains: duty and dose, the frames, and what their readback shows (R259-R271). -/

namespace Sys2Proof.Machine

/-! Objects -/

/-- Lamp n. -/
def State.lamp (s : State) (n : Nat) : Lamp := tget {} s.lamps n

/-- Lamp n takes a new content. -/
def setLamp (n : Nat) (x : Lamp) (s : State) : State := { s with lamps := tset s.lamps n x }

/-- Chain ch. -/
def State.chain (s : State) (ch : Nat) : Chain4 := tget {} s.chains ch

/-- Chain ch takes a new content. -/
def setChain (ch : Nat) (x : Chain4) (s : State) : State := { s with chains := tset s.chains ch x }

/-- A configuration entry of lamp n, and of chain ch. -/
def State.lampVal (s : State) (n sub : Nat) : Nat := s.val (0x8100 + n) sub
/-- A configuration entry of chain ch. -/
def State.chainVal (s : State) (ch sub : Nat) : Nat := s.val (0x8000 + ch) sub

/-- The chain is of the native type. -/
def State.native (s : State) (ch : Nat) : Bool := s.chainVal ch 2 == 1

/-- The 16 lamps of driver d of chain ch (R259). -/
def lampsOf (ch d : Nat) : List Nat := (List.range 16).map (fun i => 512 * ch + 16 * d + i)

/-! The period (R260) -/

/-- Bits of one driver's frame. -/
def State.lampBits (s : State) (ch : Nat) : Nat := if s.native ch then 544 else 392

/-- Bits of one refresh, times 10^6: nanoseconds of the shift, times CK_RATE in kHz. -/
def State.shiftNs (s : State) (ch : Nat) : Nat := s.chainVal ch 3 * s.lampBits ch * 1000000

/-- The period in ms: the smallest that is at least the shift time and 1 microsecond. -/
def State.lampMs (s : State) (ch : Nat) : Nat :=
  (s.shiftNs ch + 1000 * s.chainVal ch 4 + 1000000 * s.chainVal ch 4 - 1) / (1000000 * s.chainVal ch 4)

/-- Core clocks from a refresh's first bit to its LAT: the shift, and 100 ns after it. -/
def State.shiftCk (s : State) (ch : Nat) : Nat :=
  (6 * s.shiftNs ch + 5 * s.chainVal ch 4 - 1) / (5 * s.chainVal ch 4) + 120

/-! Duty and dose (R264-R268) -/

/-- Lamp n tracks: its gallery, or for a final cure any gallery, is in READY or PRINT. -/
def State.tracks (s : State) (n : Nat) : Bool :=
  if s.lampVal n 2 = 8 then s.gallerySet.any (fun g => s.inReadyPrint g) else s.inReadyPrint (s.lampVal n 2)

/-- e: the irradiance wanted, in microwatts per square centimetre. -/
def State.lampWant (s : State) (n : Nat) : Nat :=
  let x := s.enc 0
  let w := s.lampVal n 7
  if x.speedValid then (s.lampVal n 8 * x.speed.natAbs * 100 + w / 2) / w else s.lampVal n 9 * 1000

/-- i_on, in microamperes. -/
def State.lampAmps (s : State) (ch n : Nat) : Nat :=
  if s.native ch then (s.lampVal n 5 * s.chainVal ch 5 * 1000 + 2047) / 4095
  else s.chainVal ch 7 * 1000 * (s.chainVal ch 6 + 1) * (s.lampVal n 6 + 1) / 32768

/-- e_full. The procedure gives no result where it falls below 0: a free value then. -/
def State.lampFull (s : State) (ch n : Nat) : Nat :=
  let t : Int := if s.native ch then (s.lamp n).temp else 100
  let fac : Int := 100000 + tdiv (s.ival (0x8100 + n) 4 2 * (t - 100)) 4
  let e := tdiv ((s.lampVal n 3 : Int) * s.lampAmps ch n * fac + 50000000) 100000000
  if e < 0 then (Config.freeValue s.free).toNat else e.toNat

/-- The temperature of lamp n in 0.1 degrees C (R388). -/
def Lamp.tenths (x : Lamp) : Int := rne (x.temp * 5) 1

/-- f_lamp: of a valid native lamp's temperature against its thresholds. -/
def State.lampFactor (s : State) (n : Nat) : Nat :=
  if (s.sensor (0x4000 + n)).state == .unknown then 65536 else (s.thresholds 4).factor (s.lamp n).tenths

/-- A native lamp stands at or above its HIGH_TRIP: it is dark in every mode (R267, R391). -/
def State.lampTripped (s : State) (ch n : Nat) : Bool :=
  s.native ch && (s.sensor (0x4000 + n)).state != .unknown && decide ((s.thresholds 4).highTrip ≤ (s.lamp n).tenths)

/-- d and SATURATED for irradiances e and e_full, not 0. -/
def lampDuty (e full : Nat) : Nat × Bool :=
  let d := (65536 * e + full / 2) / full
  (min d 65535, decide (65535 < d))

/-- DUTY of lamp n at a refresh, with SATURATED and THROTTLED. -/
def State.dutyOf (s : State) (ch n full : Nat) (closing : Bool) : Nat × Bool × Bool :=
  if closing || !s.flag (0x8100 + n) 1 || bitOf (s.lamp n).flags 2 then (0, false, false)
  else if s.sys.mode == .service then (if s.lampTripped ch n then 0 else s.lampVal n 10, false, false)
  else if !s.tracks n then (0, false, false)
  else if full = 0 then (0, true, false)
  else
    let d := lampDuty (s.lampWant n) full
    let f := min (if s.native ch then s.lampFactor n else 65536) s.therm.fDie
    (d.1 * f / 65536, d.2, decide (f < 65536))

/-- DOSE_NOW of a duty, rounded as R6 asks, since R266 states no rounding for it and R392's example rounds. -/
def State.doseNow (s : State) (n duty full : Nat) : Nat :=
  let x := s.enc 0
  if x.speedValid && x.speed != 0 then
    clampN 0xFFFF (rneDiv (duty * full * s.lampVal n 7) (65536 * x.speed.natAbs * 100)).toNat
  else 0

/-- The refresh gives lamp n too little (R268). -/
def State.underDose (s : State) (ch n dose : Nat) : Bool :=
  s.flag (0x8100 + n) 1 && s.tracks n && (s.enc 0).speedValid && decide (dose * 100 < s.lampVal n 8 * (100 - s.chainVal ch 11))

/-- Lamp n at a refresh: its duty, dose and flags, and UNDER_DOSE, at most once per second per lamp. -/
def refreshLamp (ch : Nat) (closing : Bool) (n : Nat) (s : State) : State :=
  let x := s.lamp n
  let full := s.lampFull ch n
  let d := s.dutyOf ch n full closing
  let dose := s.doseNow n d.1 full
  let under := s.underDose ch n dose
  let flags := setBit (setBit (setBit x.flags 5 d.2.1) 4 d.2.2) 3 under
  let s1 := setLamp n { x with
    duty := d.1, dose := dose, flags := flags, under := if under then wrapAdd 32 x.under 1 else x.under } s
  let arg := le 2 n ++ le 2 dose ++ le 2 (s.lampVal n 8) ++ [BitVec.ofNat 8 flags, 0]
  if under then raiseLimited (sCk 1) 0x0B01 n (0x0400 + ch) arg s1 else s1

/-! Frames (R261, R263) -/

/-- A native frame with a SEQ, from the settings and duties of driver d. -/
def State.nativeFrame (s : State) (ch d seq : Nat) : Bytes :=
  let words := (lampsOf ch d).flatMap (fun n => be 4 (s.lampVal n 5 % 4096 * 65536 + (s.lamp n).duty % 65536))
  let head : Bytes := [0x10, BitVec.ofNat 8 seq, 0]
  head ++ [BitVec.ofNat 8 (crcOf .crc8 (head ++ words))] ++ words

/-- A legacy frame of driver d. -/
def State.legacyFrame (s : State) (ch d : Nat) : Bytes :=
  [BitVec.ofNat 8 (s.chainVal ch 6 % 128)] ++ (lampsOf ch d).map (fun n => BitVec.ofNat 8 (s.lampVal n 6)) ++
    (lampsOf ch d).flatMap (fun n => be 2 (s.lamp n).duty)

/-- The frame of driver d. -/
def State.lampFrame (s : State) (ch d seq : Nat) : Bytes := if s.native ch then s.nativeFrame ch d seq else s.legacyFrame ch d

/-! LAMP_REFRESH (R260) -/

/-- A refresh of chain ch may begin: the chain is enabled, or closing, the unit drives it, and the period has passed. -/
def State.lampDue (s : State) (ch : Nat) : Bool :=
  let x := s.chain ch
  (s.flag (0x8000 + ch) 1 || x.closing) && !x.shifting && s.drivesShared && s.sys.mode != .test &&
    (x.sent.isEmpty || decide (x.refreshAt + msCk (s.lampMs ch) ≤ s.clk.core))

/-- A refresh begins: every lamp of the chain's drivers is computed, and the frames go out, the last driver's first. -/
def doLampRefresh (ch : Nat) (s : State) : State :=
  let x := s.chain ch
  if !s.lampDue ch then s
  else
    let drivers := List.range (s.chainVal ch 3)
    let s1 := draw (forEach (drivers.flatMap (lampsOf ch)) (refreshLamp ch x.closing) s)
    let frames := drivers.map (fun d => s1.lampFrame ch d x.seq)
    let s2 := setChain ch { x with
      state := if x.state = 2 then 2 else 1, seq := (x.seq + 1) % 256, prev := x.sent, sent := frames
      refreshAt := s.clk.core, shifting := true, last := x.closing, closing := false } s1
    forEach drivers.reverse (fun d s => emit (.lamp ch d (frames.getD d [])) s) s2

/-- LAMP_REFRESH. -/
def execLampRefresh (dt : Nat) (ch : Fin 4) (s : State) : Host.Outcome State Fault Refusal := next (doLampRefresh ch.val (advance dt s))

/-! LAMP_LATCH (R262, R269) -/

/-- A native status frame passes: TYPE, CRC, SEQ of the frame before, FLAGS bit 2 clear. -/
def nativePasses (prev bs : Bytes) : Bool :=
  bs.length == 68 && byteAt bs 0 / 16 == 1 && byteAt bs 3 == crcOf .crc8 (bs.take 3 ++ bs.drop 4) &&
    byteAt bs 1 == byteAt prev 1 && !bitOf (byteAt bs 2) 2

/-- A legacy status frame passes: its echo is the frame before. -/
def legacyPasses (prev bs : Bytes) : Bool := bs.length == 49 && bs.drop 2 == prev.drop 2

/-- LAMP_FAULT of lamp n. -/
def lampFault (ch n driverFlags : Nat) (s : State) : State :=
  raise 0x0B02 (0x0400 + ch) (le 2 n ++ [BitVec.ofNat 8 (s.lamp n).flags, BitVec.ofNat 8 driverFlags]) s

/-- What a passing status says of channel i, lamp n: temperature, current, OPEN and SHORT. -/
def takeChannel (ch : Nat) (isNative : Bool) (bs : Bytes) (flags i n : Nat) (s : State) : State :=
  let x := s.lamp n
  let w := ofBe (sliceB bs (4 + 4 * i) 4)
  let isOpen := if isNative then bitOf w 15 else bitOf (ofBe (bs.take 2)) i
  let short := isNative && bitOf w 14
  let y := { x with
    flags := setBit (setBit x.flags 0 isOpen) 1 short
    temp := if isNative then sgn 12 (w / 65536) else x.temp, iMeas := if isNative then w % 4096 else x.iMeas }
  let s1 := setLamp n y s
  let s2 := if isNative && s.flag (0x8100 + n) 1 then sampleSensor (0x4000 + n) y.tenths s1 else s1
  if (isOpen && !bitOf x.flags 0) || (short && !bitOf x.flags 1) then lampFault ch n flags s2 else s2

/-- DRIVER_LOST of driver d's lamps. -/
def setLost (ch d : Nat) (b : Bool) (s : State) : State :=
  forEach (lampsOf ch d) (fun n s => setLamp n { s.lamp n with flags := setBit (s.lamp n).flags 2 b } s) s

/-- Driver d is lost. -/
def State.driverLost (s : State) (ch d : Nat) : Bool := bitOf (s.lamp (512 * ch + 16 * d)).flags 2

/-- Every driver of chain ch is lost. -/
def State.allLost (s : State) (ch : Nat) : Bool := (List.range (s.chainVal ch 3)).all (fun d => s.driverLost ch d)

/-- A status frame of driver d passed. -/
def passDriver (ch d : Nat) (bs : Bytes) (s : State) : State :=
  let c := s.chain ch
  let y := tget {} c.drivers d
  let isNative := s.native ch
  let flags := if isNative then byteAt bs 2 else 0
  let s1 := setChain ch { c with drivers := tset c.drivers d { fails := 0, passes := y.passes + 1, flags := flags } } s
  let s2 := if s1.driverLost ch d && decide (3 ≤ y.passes + 1) then
      let t := setLost ch d false s1
      setChain ch { t.chain ch with state := 1 } t
    else s1
  let s3 := forEach (List.range 16) (fun i s => takeChannel ch isNative bs flags i (512 * ch + 16 * d + i) s) s2
  if (bitOf flags 0 && !bitOf y.flags 0) || (bitOf flags 1 && !bitOf y.flags 1) then lampFault ch (512 * ch + 16 * d) flags s3 else s3

/-- A status frame of driver d failed: the third in a row loses the driver, and with the last one the chain. -/
def failDriver (ch d : Nat) (s : State) : State :=
  let c := s.chain ch
  let y := tget {} c.drivers d
  let s1 := setChain ch { c with
    bad := wrapAdd 32 c.bad 1, drivers := tset c.drivers d { y with fails := y.fails + 1, passes := 0 } } s
  let s2 := forEach (lampsOf ch d) (fun n s => if thas s.therm.sensors (0x4000 + n) then forgetSensor (0x4000 + n) s else s) s1
  if y.fails + 1 < 3 || s2.driverLost ch d then s2
  else
    let s3 := lampFault ch (512 * ch + 16 * d) y.flags (setLost ch d true s2)
    if s3.allLost ch then
      raise 0x0B03 (0x0400 + ch) ([BitVec.ofNat 8 ch, 0, 0, 0] ++ le 4 (s3.chain ch).bad) (setChain ch { s3.chain ch with state := 2 } s3)
    else s3

/-- Driver d's status, as it came back during the shift; none is due before the chain's second refresh. -/
def checkDriver (ch d : Nat) (prev bs : Bytes) (s : State) : State :=
  if prev.isEmpty then s
  else if (if s.native ch then nativePasses prev bs else legacyPasses prev bs) then passDriver ch d bs s
  else failDriver ch d s

/-- The sensors of a chain's lamps have no more readings. -/
def forgetChain (ch : Nat) (s : State) : State :=
  forEach (List.range 512) (fun i s =>
    if thas s.therm.sensors (0x4000 + 512 * ch + i) then forgetSensor (0x4000 + 512 * ch + i) s else s) s

/-- LAT after the shift: the status frames, by driver, are checked; a closing chain is then off. -/
def doLampLatch (ch : Nat) (status : List Bytes) (s : State) : State :=
  let x := s.chain ch
  if !x.shifting || decide (s.clk.core < x.refreshAt + s.shiftCk ch) then s
  else
    let s1 := emit (.lamp ch 255 []) (setChain ch { x with shifting := false } s)
    let s2 := forEach (List.range (s.chainVal ch 3)) (fun d s => checkDriver ch d (x.prev.getD d []) (status.getD d []) s) s1
    if x.last then
      forgetChain ch (setChain ch { s2.chain ch with last := false, state := 0, sent := [], prev := [] } s2)
    else s2

/-- LAMP_LATCH. -/
def execLampLatch (dt : Nat) (ch : Fin 4) (status : List Bytes) (s : State) : Host.Outcome State Fault Refusal :=
  next (doLampLatch ch.val status (advance dt s))

/-! Write effects (R265, R271) -/

/-- ENABLE of chain ch has been written: 0 asks for one last refresh of a chain that runs. -/
def enableChain (ch : Nat) (s : State) : State :=
  let x := s.chain ch
  if s.flag (0x8000 + ch) 1 then setChain ch { x with closing := false, last := false, state := if x.state = 2 then 2 else 1 } s
  else if x.state = 0 then s
  else setChain ch { x with closing := true } s

/-- TYPE of chain ch has been written: what it sent before says nothing of its drivers' status. -/
def retypeChain (ch : Nat) (s : State) : State := setChain ch { s.chain ch with sent := [], prev := [] } s

/-- ENABLE of a lamp: its driver number must be below its chain's DRIVERS. -/
def checkLamp (n v : Nat) (s : State) : Nat :=
  if v = 1 ∧ s.chainVal (n / 512) 3 ≤ n % 512 / 16 then 0xAB0B0001 else 0

/-- ENABLE of lamp n has been written: a lamp not driven has no temperature. -/
def enableLamp (n : Nat) (s : State) : State :=
  if s.flag (0x8100 + n) 1 || !thas s.therm.sensors (0x4000 + n) then s else forgetSensor (0x4000 + n) s

/-- REFRESH_PERIOD, microseconds; 0 while the chain is off. -/
def State.lampPeriod (s : State) (ch : Nat) : Nat := if (s.chain ch).state = 0 then 0 else clampN 0xFFFF (1000 * s.lampMs ch)

end Sys2Proof.Machine
end

