-- ==== Sys2Proof/Machine/Pixels.lean ====
section
/-! DEFINITION. The image pipeline's arithmetic: stages 1-6 for one pixel, and the results of PATCH and LADDER regions
(R220, R227-R229, R238-R242). No state. -/

namespace Sys2Proof.Machine

/-! Logarithms -/

/-- The greatest d of lo..lo+2^n-1 that meets p, for a p that holds at lo and fails ever after it first fails. -/
def lastTrue (p : Nat → Bool) : Nat → Nat → Nat
  | 0, lo => lo
  | n + 1, lo => if p (lo + 2 ^ n) then lastTrue p n (lo + 2 ^ n) else lastTrue p n lo

/-- 1000 * log10(num / den) rounded to nearest, for num at least den: the greatest d with 10^(2d - 1) no more than
(num / den)^2000. -/
def milliLog (num den : Nat) : Nat :=
  lastTrue (fun d => d == 0 || decide (10 ^ (2 * d - 1) * den ^ 2000 ≤ num ^ 2000)) 13 0

/-- The density of a linear value m of 1..65535 (R229). -/
def densityOf (m : Nat) : Nat := milliLog 65535 m

/-! A frame under way -/

/-- A frame as the pipeline reads it: size, bits of a sample, samples by column and row, and the parameters loaded. -/
structure FrameIn where
  w    : Nat
  h    : Nat
  bits : Nat
  raw  : Nat → Nat → Nat
  set_ : PipeSet

/-- The channel of pixel (x, y): 0 R, 1 Gr, 2 Gb, 3 B (R220). -/
def channelAt (bayer x y : Nat) : Nat :=
  let i := x % 2 + 2 * (y % 2)
  match bayer % 4 with
  | 0 => i
  | 1 => if i % 2 = 0 then i + 1 else i - 1
  | 2 => (i + 2) % 4
  | _ => 3 - i

/-- A coordinate reflected into 0..n-1 (R228). -/
def reflect (n : Nat) (x : Int) : Nat :=
  (if x < 0 then -x else if (n : Int) ≤ x then 2 * ((n : Int) - 1) - x else x).toNat

/-- x confined to 16 bits. -/
def clamp16 (x : Int) : Int := clampI 0 65535 x

/-- A U16 of a parameter's bytes. -/
def u16At (bs : Bytes) (i : Nat) : Nat := leAt bs (2 * i) 2

/-- Stage 1. -/
def FrameIn.black (f : FrameIn) (x y : Nat) : Int :=
  clamp16 ((f.raw x y * 2 ^ (16 - f.bits) : Nat) - (u16At f.set_.black (channelAt f.set_.bayer x y) : Int))

/-- The pixel is listed in DEFECTS, whose entries are x, y. -/
def FrameIn.listed (f : FrameIn) (x y : Nat) : Bool :=
  (List.range (f.set_.defects.length / 4)).any (fun i =>
    u16At f.set_.defects (2 * i) == x && u16At f.set_.defects (2 * i + 1) == y)

/-- Stage 2: a listed pixel's replacement from stage-1 values. -/
def FrameIn.mended (f : FrameIn) (x y : Nat) : Int :=
  if !f.listed x y then f.black x y
  else
    let l := (reflect f.w ((x : Int) - 2), y)
    let r := (reflect f.w ((x : Int) + 2), y)
    let u := (x, reflect f.h ((y : Int) - 2))
    let d := (x, reflect f.h ((y : Int) + 2))
    let bad (q : Nat × Nat) : Bool := f.listed q.1 q.2
    let v (q : Nat × Nat) : Int := f.black q.1 q.2
    if !bad l && !bad r then rne (v l + v r) 1
    else if !bad u && !bad d then rne (v u + v d) 1
    else match [l, r, u, d].find? (fun q => !bad q) with
      | some q => v q
      | none => f.black x y

/-- Knot (i, j) of channel ch: knots stand by j, then i, then channel (R232). -/
def FrameIn.knot (f : FrameIn) (i j ch : Nat) : Nat := u16At f.set_.shading ((j * 17 + i) * 4 + ch)

/-- The lens-shading gain at pixel (x, y), Q2.14. -/
def FrameIn.shade (f : FrameIn) (x y ch : Nat) : Int :=
  let ux := x * 1048576 / (f.w - 1)
  let uy := y * 1048576 / (f.h - 1)
  let i := min (ux / 65536) 15
  let j := min (uy / 65536) 15
  let fx := ux - i * 65536
  let fy := uy - j * 65536
  rne ((65536 - fx) * (65536 - fy) * f.knot i j ch + fx * (65536 - fy) * f.knot (i + 1) j ch +
    (65536 - fx) * fy * f.knot i (j + 1) ch + fx * fy * f.knot (i + 1) (j + 1) ch : Nat) 32

/-- The value after stage 4 (R227). -/
def FrameIn.balanced (f : FrameIn) (x y : Nat) : Int :=
  let ch := channelAt f.set_.bayer x y
  let v := f.mended x y
  let v3 := if f.set_.shadingOn then clamp16 (rne (v * f.shade x y ch) 14) else v
  clamp16 (rne (v3 * u16At f.set_.wb ch) 14)

/-- p(x, y) of R228. -/
def FrameIn.p (f : FrameIn) (x y : Int) : Int := f.balanced (reflect f.w x) (reflect f.h y)

/-- The channel of the site at reflected coordinates. -/
def FrameIn.site (f : FrameIn) (x y : Int) : Nat := channelAt f.set_.bayer (reflect f.w x) (reflect f.h y)

/-- gat(x, y): green at any site. -/
def FrameIn.gat (f : FrameIn) (x y : Int) : Int :=
  let c := f.p x y
  if f.site x y = 1 ∨ f.site x y = 2 then c
  else
    let l := f.p (x - 1) y
    let r := f.p (x + 1) y
    let u := f.p x (y - 1)
    let d := f.p x (y + 1)
    let sh := f.p (x - 2) y + f.p (x + 2) y
    let sv := f.p x (y - 2) + f.p x (y + 2)
    let dh := (l - r).natAbs + (2 * c - sh).natAbs
    let dv := (u - d).natAbs + (2 * c - sv).natAbs
    let h := 2 * (l + r) + 2 * c - sh
    let v := 2 * (u + d) + 2 * c - sv
    if dh < dv then clamp16 (rne h 2)
    else if dv < dh then clamp16 (rne v 2)
    else clamp16 (rne (h + v) 3)

/-- d(x, y): colour less green at a red or blue site. -/
def FrameIn.d (f : FrameIn) (x y : Int) : Int := f.p x y - f.gat x y

/-- Red, green and blue of pixel (x, y) after stage 5. -/
def FrameIn.rgb (f : FrameIn) (x y : Int) : Int × Int × Int :=
  let ch := f.site x y
  if ch = 1 ∨ ch = 2 then
    let g := f.p x y
    let row := clamp16 (g + rne (f.d (x - 1) y + f.d (x + 1) y) 1)
    let col := clamp16 (g + rne (f.d x (y - 1) + f.d x (y + 1)) 1)
    if ch = 1 then (row, g, col) else (col, g, row)
  else
    let g := f.gat x y
    let da := f.d (x - 1) (y - 1)
    let dz := f.d (x + 1) (y + 1)
    let db := f.d (x + 1) (y - 1)
    let dy := f.d (x - 1) (y + 1)
    let a := (da - dz).natAbs + (2 * g - f.gat (x - 1) (y - 1) - f.gat (x + 1) (y + 1)).natAbs
    let b := (db - dy).natAbs + (2 * g - f.gat (x + 1) (y - 1) - f.gat (x - 1) (y + 1)).natAbs
    let ca := da + dz
    let cb := db + dy
    let c := if a < b then rne ca 1 else if b < a then rne cb 1 else rne (ca + cb) 2
    let o := clamp16 (g + c)
    if ch = 0 then (f.p x y, g, o) else (o, g, f.p x y)

/-- Element i of MATRIX: nine coefficients, then three offsets. -/
def FrameIn.coef (f : FrameIn) (i : Nat) : Int := sgn 16 (u16At f.set_.matrix i)

/-- Density D_i of pixel (x, y) (R229). -/
def FrameIn.density (f : FrameIn) (i x y : Nat) : Nat :=
  let c := f.rgb x y
  let m := rne (f.coef (3 * i) * c.1 + f.coef (3 * i + 1) * c.2.1 + f.coef (3 * i + 2) * c.2.2) 12 + f.coef (9 + i)
  densityOf (clampI 1 65535 m).toNat

/-! Regions (R238) -/

/-- A region record. -/
structure Region where
  kind   : Nat
  chan   : Nat
  gal    : Nat
  half   : Nat
  x0     : Nat
  y0     : Nat
  w      : Nat
  h      : Nat
  col0   : Nat
  cpp    : Nat
  first  : Nat
  count  : Nat
  rowPix : Nat
  deriving DecidableEq, Repr

/-- The record that 32 bytes spell. -/
def regionOf (bs : Bytes) : Region :=
  { kind := byteAt bs 0, chan := byteAt bs 1, gal := byteAt bs 2, half := byteAt bs 3
    x0 := leAt bs 4 2, y0 := leAt bs 6 2, w := leAt bs 8 2, h := leAt bs 10 2
    col0 := leAt bs 12 4, cpp := leAt bs 16 4, first := leAt bs 20 4, count := leAt bs 24 2, rowPix := leAt bs 26 2 }

/-- The records of a REGIONS value. -/
def regionsOf (bs : Bytes) : List Region := (List.range (bs.length / 32)).map (fun i => regionOf (sliceB bs (32 * i) 32))

/-- A record is well made: its KIND, its fields' ranges, and zeros where fields are reserved. A PATCH has no field of a LADDER's. -/
def Region.ok (r : Region) (bs : Bytes) : Bool :=
  decide (1 ≤ r.w ∧ r.w ≤ 8192 ∧ 1 ≤ r.h ∧ r.h ≤ 8192) && allZero (sliceB bs 28 4) &&
  match r.kind with
  | 1 => true
  | 2 => decide (r.chan ≤ 2 ∧ r.gal ≤ 7 ∧ r.half ≤ 3 ∧ 0x4000 ≤ r.cpp ∧ r.cpp ≤ 0x400000 ∧ 1 ≤ r.count ∧ r.count ≤ 16384 ∧
      256 ≤ r.rowPix ∧ r.first + r.count ≤ 131072)
  | _ => false

/-- A REGIONS value is accepted. -/
def regionsOk (bs : Bytes) : Bool :=
  bs.length % 32 == 0 && (List.range (bs.length / 32)).all (fun i => (regionOf (sliceB bs (32 * i) 32)).ok (sliceB bs (32 * i) 32)) &&
    decide (sumN ((regionsOf bs).map (fun r => if r.kind = 2 then r.count else 0)) ≤ 32768)

/-- Columns of a span that lie in the frame. -/
def span (lo n limit : Nat) : List Nat := ((List.range n).map (lo + ·)).filter (fun i => decide (i < limit))

/-- n / d rounded to nearest, ties upward, for d > 0. -/
def halfUp (n d : Nat) : Nat := (2 * n + d) / (2 * d)

/-- The greatest r with r * r no more than n: bit by bit. -/
def isqrt : Nat → Nat → Nat → Nat
  | 0, r, _ => r
  | k + 1, r, n => if (r + 2 ^ k) * (r + 2 ^ k) ≤ n then isqrt k (r + 2 ^ k) n else isqrt k r n

/-- The population standard deviation of values, rounded to nearest with ties upward: the greatest s whose (2 s - 1) / 2 is no
more than the root of (n * sum of squares - square of the sum) / n^2. -/
def deviationOfAll (xs : List Nat) : Nat :=
  let n := xs.length
  if n = 0 then 0
  else
    let q := n * sumN (xs.map (fun x => x * x)) - sumN xs * sumN xs
    (isqrt 64 0 (4 * q / (n * n)) + 1) / 2

/-- The body of a PATCH result (R240, R242). -/
def FrameIn.patch (f : FrameIn) (r : Region) : Bytes :=
  let px := (span r.y0 r.h f.h).flatMap (fun y => (span r.x0 r.w f.w).map (fun x => (x, y)))
  let ds (i : Nat) : List Nat := px.map (fun q => f.density i q.1 q.2)
  let means := (List.range 3).map (fun i => if px.isEmpty then 0 else halfUp (sumN (ds i)) px.length)
  le 4 px.length ++ means.flatMap (le 2) ++ (List.range 3).flatMap (fun i => le 2 (deviationOfAll (ds i)))

/-- val of nozzle n of a LADDER region (R239); none is 0xFFFF. -/
def FrameIn.ladderVal (f : FrameIn) (r : Region) (g : PressAt) (n : Nat) : Nat :=
  let k := n / 2048
  let j := n % 2048
  match g.bays.find? (fun b => b.1 == k) with
  | none => 0xFFFF
  | some (_, start, cnt) =>
    if cnt ≤ j then 0xFFFF
    else
      let x := start + j
      let row := g.rows * (k % 2) + x % g.rows
      let ya := r.y0 + (row * r.rowPix + 255) / 256 + 1
      let yb : Int := (r.y0 + (row + 1) * r.rowPix / 256 : Nat) - 2
      let num : Int := ((x * 256 : Nat) - (r.col0 : Int)) * 256
      let u : Int := r.x0 + (2 * num + r.cpp) / (2 * r.cpp)
      let cols := (List.range (2 * r.half + 1)).map (fun (i : Nat) => u - r.half + i)
      let rows := (span r.y0 r.h f.h).filter (fun y => decide (ya ≤ y) && decide ((y : Int) ≤ yb))
      let vals := (cols.filter (fun c => decide ((r.x0 : Int) ≤ c ∧ c < r.x0 + r.w ∧ c < f.w))).filterMap (fun c =>
        if rows.isEmpty then none
        else some ((sumN (rows.map (fun y => f.density r.chan c.toNat y)) + rows.length / 2) / rows.length))
      if vals.isEmpty then 0xFFFF else maxN vals

/-- The body of a LADDER result (R242). -/
def FrameIn.ladder (f : FrameIn) (r : Region) (g : PressAt) : Bytes :=
  let bs := (List.range r.count).flatMap (fun i => le 2 (f.ladderVal r g (r.first + i)))
  fit ((bs.length + 3) / 4 * 4) bs

/-- The result of region i, with its head (R242). -/
def FrameIn.result (f : FrameIn) (press : List PressAt) (swapOf : Nat → Nat) (i : Nat) (r : Region) : Bytes :=
  let body := if r.kind = 1 then f.patch r else f.ladder r (press.getD r.gal ⟨8, []⟩)
  [BitVec.ofNat 8 r.kind, BitVec.ofNat 8 i, BitVec.ofNat 8 (if r.kind = 1 then 0 else r.gal), 0] ++ le 4 body.length ++
    le 4 (if r.kind = 1 then 0 else swapOf r.gal) ++ le 4 (if r.kind = 1 then 0 else r.first) ++ body

end Sys2Proof.Machine
end

