-- ==== Sys2Proof/Machine/Modes.lean ====
section
/-! DEFINITION. Requests for modes, the printing galleries, the SAFE latch's commands and its causes held, supply and clock
faults (R23, R148, R161, R211, R408, R412, R426-R434). -/

namespace Sys2Proof.Machine

/-! Fitness of a gallery (R161, R211, R23) -/

/-- The columns of two bays meet. -/
def State.shareColumn (s : State) (b c : Nat) : Bool :=
  decide (s.colStart b < s.colStart c + s.nozzles c) && decide (s.colStart c < s.colStart b + s.nozzles b)

/-- The bays of gallery g are placed as R161 asks. -/
def State.geometryFit (s : State) (g : Nat) : Bool :=
  let bays := s.popBays g
  bays.all (fun b => decide (s.colStart b + s.nozzles b ≤ 262144)) &&
    bays.all (fun b => bays.all (fun c => decide (c ≤ b) ||
      (decide (s.colStart b < s.colStart c) && !(s.shareColumn b c && s.val (0x4000 + b) 3 == s.val (0x4000 + c) 3))))

/-- Bay b's lane and head are fit, and its waveforms are loaded and mapped: the first four conditions of R211. A table that
the module holds and this engine has not loaded since reset is taken as fitting (DEDUCED, log entry 43). -/
def State.bayMapped (s : State) (b : Nat) : Bool :=
  let x := s.bay b
  s.running (b / 16) && (s.lane (b / 16)).linkTime && (x.idState == .accepted || x.idState == .overridden) &&
    x.wavesLoaded && (x.waves.isEmpty || (le 28 (s.val (0x3030 + 0x100 * (b / 64)) 8)).all (fun w => thas x.waves w.toNat))

/-- Bay b is fit for READY: no waveform lasts longer than its minimum fire period either (R211). -/
def State.bayFit (s : State) (b : Nat) : Bool :=
  s.bayMapped b && (s.bay b).waves.all (fun w => decide (w.2 * 36700 * s.bayLimit b ≤ 32768 * 1000000000000))

/-- Condition B of one gallery: R148, R161, R211, each with its code. -/
def State.galleryUnfit (s : State) (g : Nat) : Nat :=
  if s.unfit g then 0xAB060007
  else if !s.geometryFit g then 0xAB070002
  else if (s.popBays g).any (fun b => decide (s.lead g ≤ s.alongLines b)) then 0xAB070003
  else if (s.popBays g).any (fun b => !s.bayFit b) then 0xAB080006
  else 0

/-- The lead of gallery g leaves its frames their time (R23). -/
def State.leadFits (s : State) (g : Nat) : Bool :=
  decide (s.galLimit g * (33600 + s.fullFrameCk g) ≤ s.lead g * 1200000000000)

/-- The first refusal of a list of galleries. -/
def firstRefusal (check : Nat → Nat) : List Nat → Nat
  | [] => 0
  | g :: gs => if check g ≠ 0 then check g else firstRefusal check gs

/-! Conditions (R428) -/

/-- Some enabled gate that would act in mode m is WITHDRAWN or in FAULT. -/
def State.gateBars (s : State) (m : Mode) : Bool := (List.range 8).any (fun n => s.gateDown n && s.gateActs m n)

/-- Condition A for a target mode. -/
def State.conditionA (s : State) (m : Mode) : Nat :=
  if s.sys.latch then 0xAB020003 else if s.gateBars m then 0xAB070005 else if s.coldTrip then 0xAB110003 else 0

/-- Condition B. -/
def State.conditionB (s : State) : Nat :=
  if s.gallerySet.isEmpty then 0xAB020006 else firstRefusal s.galleryUnfit s.gallerySet

/-- Condition C for the galleries of mask want, of which those of mask had are in PRINT already. -/
def State.conditionC (s : State) (want had : Nat) : Nat :=
  if want = 0 ∨ want &&& s.val 0x1100 3 ≠ want then 0xAB020006
  else firstRefusal (fun g => if s.leadFits g then 0 else 0xAB020011) ((onesOf 8 want).filter (fun g => !bitOf had g))

/-- The gate check that every requested entry to a mode makes (R174). -/
def State.gateCode (s : State) (m : Mode) : Nat := if s.gateBars m then 0xAB070005 else 0

/-- The conditions of a move of R427's table, after the first two checks. -/
def State.moveRefused (s : State) (m : Mode) : Nat :=
  match s.sys.mode, m with
  | .idle, .service => s.conditionA .service
  | .idle, .ready => if s.conditionA .ready ≠ 0 then s.conditionA .ready else s.conditionB
  | .service, .ready => if s.conditionA .ready ≠ 0 then s.conditionA .ready else s.conditionB
  | .ready, .print => if s.gateCode .print ≠ 0 then s.gateCode .print else s.conditionC (s.val 0x1100 4) 0
  | .ready, .service => s.gateCode .service
  | .print, .service => s.gateCode .service
  | .print, .ready => s.gateCode .ready
  | _, _ => 0

/-- The moves that a request may make (R427). -/
def isMove (m n : Mode) : Bool :=
  match m, n with
  | .idle, .service => true
  | .idle, .ready => true
  | .service, .ready => true
  | .ready, .print => true
  | .print, .ready => true
  | .ready, .service => true
  | .print, .service => true
  | .service, .idle => true
  | .ready, .idle => true
  | .print, .idle => true
  | _, _ => false

/-- The mode a MODE_REQUEST names. -/
def modeOfRequest (v : Nat) : Option Mode :=
  match v with
  | 1 => some .idle
  | 2 => some .service
  | 3 => some .ready
  | 4 => some .print
  | _ => none

/-- MODE_REQUEST's refusals (R427, R428, R430). -/
def checkModeRequest (v : Nat) (s : State) : Nat :=
  match modeOfRequest v with
  | none => 0xAB010005
  | some m =>
    if s.sys.mode == m then 0
    else if !isMove s.sys.mode m then (if s.sys.latch then 0xAB020003 else 0xAB020005)
    else if s.holdsMode m then 0xAB010007
    else if s.sys.shutdown then 0xAB02000A
    else s.moveRefused m

/-- MODE_REQUEST accepted. -/
def requestMode (v : Nat) (s : State) : State :=
  match modeOfRequest v with
  | none => s
  | some m =>
    if s.sys.mode == m then s
    else changeMode m (if m == .print then s.val 0x1100 4 else 0) 0 s

/-- A write of PRINT_GALLERIES is checked at once in PRINT (R427, R428). -/
def checkPrintGalleries (v : Nat) (s : State) : Nat := if s.sys.mode == .print then s.conditionC v s.sys.printing else 0

/-- PRINT_GALLERIES written: in PRINT, galleries are added or stopped, and MODE_CHANGED tells of it (R440). -/
def printGalleries (v : Nat) (s : State) : State :=
  if s.sys.mode == .print && v != s.sys.printing then
    speedWarn (raiseMode .print 0 { s with sys := { s.sys with printing := v } })
  else s

/-! The SAFE latch (R431, R433) -/

/-- A region that only a reset restores has been lost (R384, R425). -/
def State.regionLost (s : State) : Bool := s.res.capacity == 0 || s.res.removed.any (fun r => decide (r.lo < s.heapBase))

/-- A THERMAL cause is held. -/
def State.thermalHeld (s : State) : Bool :=
  s.therm.sensors.any (fun p => decide (p.1 / 4096 ≤ 1) && p.2.state == .highTrip) || decide (3 ≤ s.failedDies)

/-- A cause of the table is held, the gates apart. -/
def State.causeHeld (s : State) : Bool :=
  s.thermalHeld || s.regionLost || s.sys.railsBad != 0 || s.sys.clocksBad % 8 != 0 || bitOf s.sys.causes 9

/-- SAFE_CLEAR's refusals. -/
def checkSafeClear (s : State) : Nat :=
  if !s.sys.latch then 0
  else if (List.range 8).any s.gateDown then 0xAB070005
  else if s.causeHeld then 0xAB020004
  else if s.pair.role == .relinquished || s.pair.role == .degraded then 0xAB0C0004
  else 0

/-- SAFE_CLEAR accepted. -/
def safeClear (s : State) : State :=
  if !s.sys.latch then s
  else raise 0x0203 0 (zeros 4 ++ le 4 s.sys.causes) { s with sys := { s.sys with latch := false, causes := 0 } }

/-! HEAD_POWER_OFF (R429) -/

/-- The last line left to fire has passed: HEAD_POWER 0 is written to the modules. -/
def doHeadPowerOff (s : State) : State :=
  match s.sys.powerOffAt with
  | some t =>
    if s.sys.mode == .idle && decide (t ≤ s.clk.core) then
      headPowerAll false { s with sys := { s.sys with powerOffAt := none } }
    else if s.sys.mode == .idle then s
    else { s with sys := { s.sys with powerOffAt := none } }
  | none => s

/-- HEAD_POWER_OFF. -/
def execHeadPowerOff (dt : Nat) (s : State) : Host.Outcome State Fault Refusal := next (doHeadPowerOff (advance dt s))

/-! Supplies and clocks (R408, R412, R434) -/

/-- A rail's last reading, in mV. -/
def noteRail (rail mv : Nat) (s : State) : State := setVal 0x1841 (rail + 1) (clampN 0xFFFF mv) s

/-- A rail stands inside its window again. -/
def doSupplyRestored (rail mv : Nat) (s : State) : State :=
  noteRail rail mv { s with sys := { s.sys with railsBad := setBit s.sys.railsBad rail false } }

/-- SUPPLY_RESTORED. -/
def execSupplyRestored (dt : Nat) (rail : Fin 10) (mv : Nat) (s : State) : Host.Outcome State Fault Refusal :=
  next (doSupplyRestored rail.val mv (advance dt s))

/-- The bit of a clock in clocksBad. -/
def clockBit : ClockFault → Nat
  | .xtal => 0
  | .pll => 1
  | .hlref => 2
  | .enref => 3
  | .peref => 4

end Sys2Proof.Machine
end

