-- ==== Sys2Proof/Machine/Wire.lean ====
section
/-! DEFINITION. The bytes of Ethernet frames, ARP, IPv4, UDP and ICMP (R299-R303). The layouts are those of IEEE 802.3 and 802.1Q
and of RFC 826, 791, 768 and 792, which the spec names without repeating them (PRESUMED, log entry 74). -/

namespace Sys2Proof.Machine

/-! Checksums (RFC 1071) -/

/-- Ones' complement sum of the 16-bit words of a byte string, folded. -/
def onesSum : Nat → Bytes → Nat → Nat
  | 0, _, acc => (acc % 65536 + acc / 65536) % 65536 + (acc % 65536 + acc / 65536) / 65536
  | n + 1, bs, acc => onesSum n (bs.drop 2) (acc + 256 * byteAt bs 0 + byteAt bs 1)

/-- The sum of a whole byte string. -/
def wordSum (bs : Bytes) : Nat := onesSum ((bs.length + 1) / 2) bs 0

/-- The checksum of a byte string, its checksum field included, is correct. -/
def sumOk (bs : Bytes) : Bool := wordSum bs == 65535

/-- The checksum of a byte string whose checksum field is zero. -/
def checksum (bs : Bytes) : Nat := 65535 - wordSum bs

/-! Packets -/

/-- An IPv4 datagram as the engine sends it: header length 5, TTL 64, Don't Fragment set, More Fragments not (R300). -/
def ipv4 (ident dscp proto src dst : Nat) (body : Bytes) : Bytes :=
  let h (c : Nat) : Bytes :=
    [0x45, BitVec.ofNat 8 (4 * dscp)] ++ be 2 (20 + body.length) ++ be 2 ident ++ be 2 0x4000 ++
      [64, BitVec.ofNat 8 proto] ++ be 2 c ++ be 4 src ++ be 4 dst
  h (checksum (h 0)) ++ body

/-- The pseudo-header of a UDP datagram of n bytes. -/
def udpPseudo (src dst n : Nat) : Bytes := be 4 src ++ be 4 dst ++ [0, 17] ++ be 2 n

/-- A UDP datagram with its checksum (R303). -/
def udpBytes (src dst sport dport : Nat) (payload : Bytes) : Bytes :=
  let n := 8 + payload.length
  let h (c : Nat) : Bytes := be 2 sport ++ be 2 dport ++ be 2 n ++ be 2 c
  let c := checksum (udpPseudo src dst n ++ h 0 ++ payload)
  h (if c = 0 then 65535 else c) ++ payload

/-- An ICMP echo reply: identifier and sequence number, and the data, of its request (R302). -/
def echoReply (echo : Nat) (data : Bytes) : Bytes :=
  let m (c : Nat) : Bytes := [0, 0] ++ be 2 c ++ be 4 echo ++ data
  m (checksum (m 0))

/-- An ARP packet: operation, sender and target (R301). -/
def arpBytes (op smac sip tmac tip : Nat) : Bytes :=
  be 2 1 ++ be 2 0x0800 ++ [6, 4] ++ be 2 op ++ be 6 smac ++ be 4 sip ++ be 6 tmac ++ be 4 tip

/-! Frames -/

/-- A frame, destination address to FCS, tagged where the port has a VID (R299), padded to 64 bytes. -/
def ethFrame (dst src vid pcp type : Nat) (body : Bytes) : Bytes :=
  let h := be 6 dst ++ be 6 src ++ (if vid = 0 then [] else be 2 0x8100 ++ be 2 (pcp * 8192 + vid)) ++ be 2 type
  let f := h ++ body ++ zeros (60 - (h.length + body.length))
  f ++ le 4 (crcOf .crc32 f)

/-- The word that two zero bytes at the end of a payload take so that the sum of the whole stays what it was when its earlier
bytes were zeros (R330). -/
def sumKeeper (old new : Bytes) : Nat := onesSum 1 [] (wordSum old + (65535 - wordSum new))

end Sys2Proof.Machine
end

