-- ==== Sys2Proof/Machine/Net.lean ====
section
/-! DEFINITION. The Ethernet ports and launch queues (R298-R304, R332, R333): links, frames, ARP and ICMP. IPv4 and MAC
addresses are numbers whose most significant octet is transmitted first. -/

namespace Sys2Proof.Machine

/-! Ports -/

/-- A configuration entry of port p (R320). -/
def State.netCfg (s : State) (p sub : Nat) : Nat := s.val (0x1A00 + 0x10 * p) sub

/-- LINK of port p. -/
def State.linkOf (s : State) (p : Nat) : Nat := s.val (0x1A01 + 0x10 * p) 1

/-- A 32-bit or 64-bit status counter of port p counts. -/
def netCount (p sub w : Nat) (s : State) : State := bump (0x1A01 + 0x10 * p) sub w s

/-- The bytes of IP_CONFIG: address, netmask, gateway. -/
def State.ipConfig (s : State) (p : Nat) : Bytes := le 12 (s.netCfg p 2)

/-- The port's IPv4 address, netmask and gateway. -/
def State.ipOf (s : State) (p : Nat) : Nat := ofBe (sliceB (s.ipConfig p) 0 4)
/-- The netmask. -/
def State.maskOf (s : State) (p : Nat) : Nat := ofBe (sliceB (s.ipConfig p) 4 4)
/-- The gateway. -/
def State.gatewayOf (s : State) (p : Nat) : Nat := ofBe (sliceB (s.ipConfig p) 8 4)

/-- SHARED_IP. -/
def State.sharedIp (s : State) : Nat := ofBe (le 4 (s.val 0x1A20 2))

/-- SHARED_IP is answered on port p: on a pair member, on SHARED_PORT, while ACTIVE (R304). -/
def State.sharedOn (s : State) (p : Nat) : Bool :=
  s.pair.member && s.pair.role == .active && s.val 0x1A20 1 == p && s.sharedIp != 0

/-- The addresses that port p answers for. -/
def State.ownIps (s : State) (p : Nat) : List Nat :=
  (if s.ipOf p = 0 then [] else [s.ipOf p]) ++ (if s.sharedOn p then [s.sharedIp] else [])

/-- The port's MAC (R299). -/
def macOf (p : Nat) : Nat := (Config.macBase.toNat + p) % 2 ^ 48

/-- VID of the port's VLAN, 0 for none. -/
def State.vidOf (s : State) (p : Nat) : Nat := s.netCfg p 3 % 4096

/-- PTP runs over UDP on port p, so that the port joins 224.0.1.129 (R330). A port without an address has no IP (R300). -/
def State.joins (s : State) (p : Nat) : Bool := s.flag 0x1B10 1 && s.val 0x1B10 2 == p && s.val 0x1B10 3 == 1 && s.ipOf p != 0

/-- clockIdentity of the PTP port (R330). -/
def State.clockId (s : State) : Nat :=
  let m := macOf (s.val 0x1B10 2 % 2)
  m / 2 ^ 24 * 2 ^ 40 + 0xFFFE000000 + m % 2 ^ 24

/-- The multicast MAC of a group: 01-00-5E and the group's low 23 bits (R317). -/
def groupMac (ip : Nat) : Nat := 0x01005E000000 + ip % 2 ^ 23

/-! The bytes of PTP messages (R330), in the layout of IEEE 1588-2019 (PRESUMED, log entry 74) -/

/-- A timestamp: seconds and nanoseconds. -/
def ptpStamp (t : Nat) : Bytes := be 6 (t / sT) ++ be 4 (t % sT / 65536)

/-- Body of a message after its header. A Sync that a Follow_Up completes, and a Delay_Req, carry the time 0. -/
def State.ptpBody (s : State) (kind time requester : Nat) : Bytes :=
  match kind with
  | 0 => ptpStamp (if s.flag 0x1B10 6 then 0 else time)
  | 2 => ptpStamp 0
  | 3 => ptpStamp time ++ be 10 requester
  | 4 => ptpStamp time ++ be 2 (s.val 0x1B10 12) ++ [0, BitVec.ofNat 8 (s.val 0x1B10 7), (if s.flag 0x1B10 5 then 248 else 255), 0xFE] ++
      be 2 0xFFFF ++ [BitVec.ofNat 8 (s.val 0x1B10 8)] ++ be 8 s.clockId ++ [0, 0, 0xA0]
  | _ => ptpStamp time

/-- messageType, controlField and logMessageInterval by kind. -/
def State.ptpCodes (s : State) (kind : Nat) : Nat × Nat × Nat :=
  match kind with
  | 0 => (0, 0, s.val 0x1B10 9)
  | 1 => (8, 2, s.val 0x1B10 9)
  | 2 => (1, 1, 0x7F)
  | 3 => (9, 3, s.val 0x1B10 11)
  | _ => (11, 5, s.val 0x1B10 10)

/-- A message. Flags: twoStep in a Sync; currentUtcOffset valid while TRACED, and ptpTimescale, in an Announce. -/
def State.ptpMessage (s : State) (kind seq time requester : Nat) : Bytes :=
  let body := s.ptpBody kind time requester
  let c := s.ptpCodes kind
  [BitVec.ofNat 8 c.1, 0x12] ++ be 2 (34 + body.length) ++ [BitVec.ofNat 8 (s.val 0x1B10 4), 0,
    (if kind = 0 ∧ s.flag 0x1B10 6 = true then 2 else 0), (if kind = 4 then BitVec.ofNat 8 (8 + 4 * b2n s.clk.traced) else 0)] ++
    zeros 12 ++ be 8 s.clockId ++ be 2 1 ++ be 2 seq ++ [BitVec.ofNat 8 c.2.1, BitVec.ofNat 8 c.2.2] ++ body

/-- Over UDP a one-step Sync carries two bytes more, by which the checksum made before it left stays correct (R330). -/
def State.ptpPayload (s : State) (kind seq time requester : Nat) : Bytes :=
  let m := s.ptpMessage kind seq time requester
  if kind = 0 ∧ s.flag 0x1B10 6 = false then m ++ be 2 (sumKeeper (s.ptpMessage kind seq 0 requester) m) else m

/-- A PTP message's frame body and MAC destination, and its type. -/
def State.ptpFrame (s : State) (p ident kind seq time requester : Nat) : Nat × Nat × Bytes :=
  if s.val 0x1B10 3 = 1 then
    let port := if kind = 0 ∨ kind = 2 then 319 else 320
    (groupMac 0xE0000181, 0x0800,
      ipv4 ident 0 17 (s.ipOf p) 0xE0000181 (udpBytes (s.ipOf p) 0xE0000181 port port (s.ptpPayload kind seq time requester)))
  else (0x011B19000000, 0x88F7, s.ptpMessage kind seq time requester)

/-! The bytes of every frame that leaves (R299-R303) -/

/-- MAC destination, EtherType and body. Publications, event push and the Catalogue protocol leave from UDP port 45510. -/
def State.carried (s : State) (p ident : Nat) (o : NetOut) : Nat × Nat × Bytes :=
  match o with
  | .udp own dst port dscp mac bs => (mac.getD 0, 0x0800, ipv4 ident dscp 17 own dst (udpBytes own dst 45510 port bs))
  | .icmp own dst mac echo bs => (mac, 0x0800, ipv4 ident 0 1 own dst (echoReply echo bs))
  | .arpRequest own target => (0xFFFFFFFFFFFF, 0x0806, arpBytes 1 (macOf p) own 0 target)
  | .arpReply mac ip own => (mac, 0x0806, arpBytes 2 (macOf p) own mac ip)
  | .gratuitous ip => (0xFFFFFFFFFFFF, 0x0806, arpBytes 1 (macOf p) ip 0 ip)
  | .ptp kind seq time requester => s.ptpFrame p ident kind seq time requester

/-- The frame from the port's own MAC. The spec gives the IPv4 identification no value: a free value. -/
def State.frameOf (s : State) (p pcp : Nat) (o : NetOut) : Bytes :=
  let c := s.carried p ((Config.freeValue s.free).toNat % 65536) o
  ethFrame c.1 (macOf p) (s.vidOf p) pcp c.2.1 c.2.2

/-! Launch queues (R332, R333) -/

/-- Queue q of port p. -/
def State.txq (s : State) (p q : Nat) : List TxFrame := tget [] s.net.queues (8 * p + q)

/-- The queue takes a new content. -/
def setTxq (p q : Nat) (fs : List TxFrame) (s : State) : State :=
  { s with net := { s.net with queues := tset s.net.queues (8 * p + q) fs } }

/-- Bytes of a frame on the wire with preamble and gap (R332). -/
def State.wireBytes (s : State) (p : Nat) (o : NetOut) : Nat := (s.frameOf p 0 o).length + 20

/-- Device time that n bytes take at the port's speed. -/
def State.wireTime (s : State) (p n : Nat) : Nat := (n * 8 * 65536 * 10 ^ (s.linkOf p - 1) + 9) / 10

/-- The earliest launch time held on port p. -/
def State.nextLaunch (s : State) (p : Nat) : Option Nat :=
  (List.range 8).foldl (fun acc q =>
    match (s.txq p q).head? with
    | some f =>
      match f.launch, acc with
      | some t, some u => some (min t u)
      | some t, none => some t
      | none, a => a
    | none => acc) none

/-- A frame may start now: the link is up, and it ends before the earliest launch time held. -/
def State.mayStart (s : State) (p : Nat) (f : TxFrame) : Bool :=
  s.linkOf p != 0 &&
  match s.nextLaunch p with
  | some t => decide (s.now + s.wireTime p (s.wireBytes p f.out) ≤ t)
  | none => true

/-- PCP of a frame: the port's for queue 0, PTP_PCP for PTP, else the queue's number (R299, R330). -/
def State.pcpOf (s : State) (p q : Nat) (o : NetOut) : Nat :=
  match o with
  | .ptp _ _ _ _ => s.val 0x1B10 14
  | _ => if q = 0 then s.netCfg p 3 / 8192 else q

/-- Device time as PTP event messages are stamped: the counter's own nanoseconds, with a fraction of 0 (R324). -/
def State.ptpNow (s : State) : Nat := s.clk.counter / 2 ^ 48 * 65536

/-- What the frame carries as it leaves: a Sync and a Delay_Req carry the time they leave (R324, R330). -/
def State.stamped (s : State) (o : NetOut) : NetOut :=
  match o with
  | .ptp k n t i => .ptp k n (if k = 0 ∨ k = 2 then s.ptpNow else t) i
  | o => o

/-- What its leaving means to PTP: SYNC_SENT, with the Follow_Up of a two-step Sync at the end of its queue, and the Delay_Req
outstanding. -/
def noteLeft (p : Nat) (o : NetOut) (s : State) : State :=
  match o with
  | .ptp 0 n t i =>
    let s1 := { s with ptp := { s.ptp with syncSent := wrapAdd 32 s.ptp.syncSent 1 } }
    if s.flag 0x1B10 6 && decide ((s1.txq p 7).length < 64) then setTxq p 7 (s1.txq p 7 ++ [⟨none, .ptp 1 n t i, none⟩]) s1 else s1
  | .ptp 2 _ t _ => { s with ptp := { s.ptp with delayReqAt := some t } }
  | _ => s

/-- The message is of PTP. -/
def NetOut.isPtp : NetOut → Bool
  | .ptp _ _ _ _ => true
  | _ => false

/-- A frame leaves the port. A PTP message whose unit has lost control is not sent (R331). -/
def leaveFrame (p q : Nat) (f : TxFrame) (s : State) : State :=
  if f.out.isPtp && !s.inControl then s
  else
    let o := s.stamped f.out
    let pcp := s.pcpOf p q o
    let s1 := netCount p 3 64 (draw (emit (.ethernet p q (s.vidOf p) pcp o (s.frameOf p pcp o)) s))
    let s2 := match f.pub with
      | some (n, _) => bump (0x1610 + n) 8 32 s1
      | none => s1
    noteLeft p o s2

/-- The highest queue whose first frame has no launch time and may start. -/
def State.readyQueue (s : State) (p : Nat) : Option Nat :=
  (List.range 8).foldl (fun acc q =>
    match (s.txq p q).head? with
    | some f => if f.launch.isNone && s.mayStart p f then some q else acc
    | none => acc) none

/-- Frames without a launch time leave, at most n of them. -/
def pumpPort (p : Nat) : Nat → State → State
  | 0, s => s
  | n + 1, s =>
    match s.readyQueue p with
    | none => s
    | some q =>
      match s.txq p q with
      | [] => s
      | f :: rest => pumpPort p n (leaveFrame p q f (setTxq p q rest s))

/-- All that may leave does: 8 queues of 64 frames, and the Follow_Ups of 64 Syncs. -/
def pumpAll (p : Nat) (s : State) : State := pumpPort p 1024 s

/-- SLACK of queue q. -/
def State.slack (s : State) (p q : Nat) : Nat := usT (s.val (0x1B20 + p) (1 + q))

/-- A frame is dropped for its launch time: LAUNCH_DROPPED, and MISSED of its publication (R317, R333). -/
def dropLaunch (p q : Nat) (f : TxFrame) (s : State) : State :=
  let s1 := bump (0x1B20 + p) (9 + q) 32 s
  let s2 := raiseLimited (sCk 1) 0x0E04 p 0 ([BitVec.ofNat 8 p, BitVec.ofNat 8 q, 0, 0] ++ le 4 (s1.val (0x1B20 + p) (9 + q))) s1
  match f.pub with
  | some (n, seq) => raiseLimited (sCk 1) 0x0D09 n 0 (le 1 n ++ zeros 3 ++ le 4 seq) (bump (0x1610 + n) 9 32 s2)
  | none => s2

/-- A frame joins queue q of port p; one that finds 64 frames there is lost. -/
def enqueueTx (p q : Nat) (f : TxFrame) (s : State) : State :=
  if 64 ≤ (s.txq p q).length then s
  else
    match f.launch with
    | some t =>
      if t + s.slack p q < s.now then dropLaunch p q f s else pumpAll p (setTxq p q (s.txq p q ++ [f]) s)
    | none => pumpAll p (setTxq p q (s.txq p q ++ [f]) s)

/-- A frame of queue 0 without a launch time. -/
def sendNow (p : Nat) (o : NetOut) (s : State) : State := enqueueTx p 0 ⟨none, o, none⟩ s

/-- A higher queue of port p holds a frame whose launch time has come. -/
def State.higherDue (s : State) (p q : Nat) : Bool :=
  (List.range 8).any (fun r => decide (q < r) &&
    match (s.txq p r).head? with
    | some f => match f.launch with | some t => decide (t ≤ s.now) | none => false
    | none => false)

/-- The first frame of queue q leaves at its launch time, within SLACK of it. -/
def doFrameLaunch (p q : Nat) (s : State) : State :=
  match s.txq p q with
  | [] => s
  | f :: rest =>
    match f.launch with
    | none => s
    | some t =>
      if s.linkOf p = 0 ∨ s.now < t ∨ t + s.slack p q < s.now ∨ s.higherDue p q then s
      else pumpAll p (leaveFrame p q f (setTxq p q rest s))

/-- FRAME_LAUNCH. -/
def execFrameLaunch (dt : Nat) (port : Fin 2) (queue : Fin 8) (s : State) : Host.Outcome State Fault Refusal :=
  next (doFrameLaunch port.val queue.val (advance dt s))

/-- The first frame of queue q has not started by its launch time plus SLACK. -/
def doLaunchDropped (p q : Nat) (s : State) : State :=
  match s.txq p q with
  | [] => s
  | f :: rest =>
    match f.launch with
    | none => s
    | some t => if t + s.slack p q < s.now then pumpAll p (dropLaunch p q f (setTxq p q rest s)) else s

/-- LAUNCH_DROPPED. -/
def execLaunchDropped (dt : Nat) (port : Fin 2) (queue : Fin 8) (s : State) : Host.Outcome State Fault Refusal :=
  next (doLaunchDropped port.val queue.val (advance dt s))

/-! ARP (R301) -/

/-- An ARP request for an address goes out. -/
def sendArp (p ip : Nat) (s : State) : State := sendNow p (.arpRequest (s.ipOf p) ip) s

/-- A gratuitous ARP for the port's address. -/
def announceIp (p : Nat) (s : State) : State := if s.ipOf p = 0 then s else sendNow p (.gratuitous (s.ipOf p)) s

/-- An address lies in port p's subnet. -/
def State.inSubnet (s : State) (p ip : Nat) : Bool := (ip &&& s.maskOf p) == (s.ipOf p &&& s.maskOf p)

/-- The next hop to an address, if there is one. -/
def State.nextHop (s : State) (p ip : Nat) : Option Nat :=
  if s.ipOf p = 0 then none
  else if s.inSubnet p ip then some ip
  else if s.gatewayOf p = 0 then none
  else some (s.gatewayOf p)

/-- The address is a multicast group. -/
def isMulticast (ip : Nat) : Bool := ip / 2 ^ 28 == 14

/-- The cached MAC of a next hop. -/
def State.arpOf (s : State) (p ip : Nat) : Option Nat :=
  (s.net.arp.find? (fun e => e.port == p && e.ip == ip)).map (fun e => e.mac)

/-- The frame with its destination MAC. -/
def TxFrame.toMac (f : TxFrame) (mac : Nat) : TxFrame :=
  match f.out with
  | .udp own d n dscp _ bs => { f with out := .udp own d n dscp (some mac) bs }
  | _ => f

/-- A datagram waits for its next hop, at most 4 of them; the first one starts the requests. -/
def waitArp (p q h : Nat) (f : TxFrame) (s : State) : State :=
  match s.net.arpWait.find? (fun w => w.port == p && w.ip == h) with
  | some _ =>
    { s with net := { s.net with arpWait := s.net.arpWait.map (fun w =>
        if w.port == p && w.ip == h && decide (w.waiting.length < 4) then { w with waiting := w.waiting ++ [(q, f)] } else w) } }
  | none =>
    sendArp p h { s with net := { s.net with arpWait := s.net.arpWait ++ [⟨p, h, s.clk.core, 1, [(q, f)]⟩] } }

/-- A UDP datagram of the engine's own goes to queue q of port p, through ARP where it needs a next hop; one with no route is
lost, as is every one of a port without an address (R300). DSCP is that of replies only (R320). -/
def sendUdp (p q : Nat) (launch : Option Nat) (dst dport : Nat) (payload : Bytes) (pub : Option (Nat × Nat)) (s : State) : State :=
  let f : TxFrame := ⟨launch, .udp (s.ipOf p) dst dport 0 none payload, pub⟩
  if s.ipOf p = 0 then s
  else if isMulticast dst then enqueueTx p q (f.toMac (groupMac dst)) s
  else
    match s.nextHop p dst with
    | none => s
    | some h =>
      match s.arpOf p h with
      | some mac => enqueueTx p q (f.toMac mac) s
      | none => waitArp p q h f s

/-- The address that a datagram reached, from which it is answered. -/
def State.reachedIp (s : State) (src : NetSrc) : Nat := if src.shared then s.sharedIp else s.ipOf src.port.val

/-- A reply to a datagram goes to the MAC it came from (R301), with the port's DSCP (R320). -/
def replyUdp (src : NetSrc) (payload : Bytes) (s : State) : State :=
  let p := src.port.val
  sendNow p (.udp (s.reachedIp src) src.ip.toNat src.udp.toNat (s.netCfg p 4) (some src.mac.toNat) payload) s

/-- A request that is outstanding is answered: the cache entry is made or renewed, and what waited goes out. A full cache
gives up its oldest entry. -/
def arpAnswered (p ip mac : Nat) (s : State) : State :=
  match s.net.arpWait.find? (fun w => w.port == p && w.ip == ip) with
  | none => s
  | some w =>
    let others := s.net.arp.filter (fun e => !(e.port == p && e.ip == ip))
    let room := if 64 ≤ (others.filter (fun e => e.port == p)).length then
        (match takeFirst (fun e => e.port == p) others with | some (_, r) => r | none => others) else others
    let s1 := { s with net := { s.net with
      arp := room ++ [⟨p, ip, mac, s.clk.core⟩]
      arpWait := s.net.arpWait.filter (fun v => !(v.port == p && v.ip == ip)) } }
    forEach w.waiting (fun x s => enqueueTx p x.1 (x.2.toMac mac) s) s1

/-- One of at most n frames per second of port p: its count, and the tables after it. -/
def rateStep (cnt at_ : Tab Nat) (p now limit : Nat) : Bool × Tab Nat × Tab Nat :=
  if thas at_ p && decide (now < tget 0 at_ p + sCk 1) then
    (decide (tget 0 cnt p < limit), tset cnt p (tget 0 cnt p + 1), at_)
  else (true, tset cnt p 1, tset at_ p now)

/-- An ARP frame has arrived. -/
def doArp (p : Nat) (a : ArpFrame) (s : State) : State :=
  let s0 := netCount p 2 64 s
  let r := rateStep s0.net.arpRate s0.net.arpRateAt p s0.clk.core 1000
  let s1 := { s0 with net := { s0.net with arpRate := r.2.1, arpRateAt := r.2.2 } }
  if !r.1 then s1
  else
    let own := s1.ownIps p
    let s2 := if own.contains a.senderIp.toNat && a.senderMac.toNat != macOf p then
        raiseLimited (sCk 10) 0x0D08 p 0 ([BitVec.ofNat 8 p, 0] ++ be 6 a.senderMac.toNat) s1
      else s1
    if a.request then
      (if own.contains a.targetIp.toNat then sendNow p (.arpReply a.senderMac.toNat a.senderIp.toNat a.targetIp.toNat) s2 else s2)
    else arpAnswered p a.senderIp.toNat a.senderMac.toNat s2

/-- ARP_RECEIVED. -/
def execArpReceived (dt : Nat) (port : Fin 2) (arp : ArpFrame) (s : State) : Host.Outcome State Fault Refusal :=
  let s1 := advance dt s
  next (if s1.host.ready && s1.linkOf port.val != 0 then doArp port.val arp s1 else s1)

/-- A request is sent again 250 and 500 ms after the first. -/
def doArpRetry (p ip : Nat) (s : State) : State :=
  match s.net.arpWait.find? (fun w => w.port == p && w.ip == ip) with
  | none => s
  | some w =>
    if w.sent < 3 ∧ w.since + msCk (250 * w.sent) ≤ s.clk.core then
      sendArp p ip { s with net := { s.net with arpWait := s.net.arpWait.map (fun v =>
        if v.port == p && v.ip == ip then { v with sent := v.sent + 1 } else v) } }
    else s

/-- ARP_RETRY. -/
def execArpRetry (dt : Nat) (port : Fin 2) (ip : BitVec 32) (s : State) : Host.Outcome State Fault Refusal :=
  next (doArpRetry port.val ip.toNat (advance dt s))

/-- Nothing has resolved a next hop within 1 s. -/
def doArpUnresolved (p ip : Nat) (s : State) : State :=
  match s.net.arpWait.find? (fun w => w.port == p && w.ip == ip) with
  | none => s
  | some w =>
    if w.since + sCk 1 ≤ s.clk.core then
      raiseLimited (sCk 1) 0x0D07 p 0 (le 1 p ++ zeros 3 ++ be 4 ip)
        (netCount p 9 32 { s with net := { s.net with arpWait := s.net.arpWait.filter (fun v => !(v.port == p && v.ip == ip)) } })
    else s

/-- ARP_UNRESOLVED. -/
def execArpUnresolved (dt : Nat) (port : Fin 2) (ip : BitVec 32) (s : State) : Host.Outcome State Fault Refusal :=
  next (doArpUnresolved port.val ip.toNat (advance dt s))

/-- Port, UDP port and address of a DEST entry (R320). -/
def destOf (v : Nat) : Nat × Nat × Nat :=
  let bs := le 8 v
  (byteAt bs 0, leAt bs 2 2, ofBe (sliceB bs 4 4))

/-- An enabled publication's next hop on port p is this address. -/
def State.published (s : State) (p ip : Nat) : Bool :=
  (List.range 16).any (fun n =>
    let d := destOf (s.val (0x1610 + n) 2)
    s.flag (0x1610 + n) 1 && d.1 == p && !isMulticast d.2.2 && s.nextHop p d.2.2 == some ip)

/-- A cache entry reaches ARP_AGE, or 10 s less where a publication uses it. -/
def doArpAge (p ip : Nat) (s : State) : State :=
  match s.net.arp.find? (fun e => e.port == p && e.ip == ip) with
  | none => s
  | some e =>
    let age := sCk (s.netCfg p 5)
    if e.at_ + age ≤ s.clk.core then
      { s with net := { s.net with arp := s.net.arp.filter (fun x => !(x.port == p && x.ip == ip)) } }
    else if e.at_ + age ≤ s.clk.core + sCk 10 && s.published p ip && !s.net.arpWait.any (fun w => w.port == p && w.ip == ip) then
      sendArp p ip { s with net := { s.net with arpWait := s.net.arpWait ++ [⟨p, ip, s.clk.core, 1, []⟩] } }
    else s

/-- ARP_AGE_EXPIRY. -/
def execArpAgeExpiry (dt : Nat) (port : Fin 2) (ip : BitVec 32) (s : State) : Host.Outcome State Fault Refusal :=
  next (doArpAge port.val ip.toNat (advance dt s))

/-! SHARED_IP (R304) -/

/-- A gratuitous ARP for SHARED_IP goes out, where this unit answers for it. -/
def announceShared (s : State) : State :=
  if s.sharedOn (s.val 0x1A20 1) then sendNow (s.val 0x1A20 1) (.gratuitous s.sharedIp) s else s

/-- The unit enters ACTIVE: the first gratuitous ARP, and two to come. -/
def sharedUp (s : State) : State :=
  announceShared { s with net := { s.net with sharedLeft := 2, sharedAt := s.clk.core } }

/-- The second and third, 100 ms and 300 ms after entry to ACTIVE. -/
def doSharedArp (s : State) : State :=
  let due := if s.net.sharedLeft = 2 then 100 else 300
  if s.net.sharedLeft = 0 ∨ s.clk.core < s.net.sharedAt + msCk due ∨ s.pair.role ≠ .active then s
  else announceShared { s with net := { s.net with sharedLeft := s.net.sharedLeft - 1 } }

/-- SHARED_IP_ARP. -/
def execSharedIpArp (dt : Nat) (s : State) : Host.Outcome State Fault Refusal := next (doSharedArp (advance dt s))

/-! NET_LINK (R298) -/

/-- The LINK values that a MODE can take. -/
def linkFits (mode link : Nat) : Bool :=
  link == 0 || match mode with
    | 1 => link == 1
    | 2 => link == 2
    | 3 => decide (2 ≤ link)
    | _ => false

/-- A port's link comes up or goes down. -/
def netLink (p link : Nat) (s : State) : State :=
  if s.linkOf p = link then s
  else
    let s1 := raise 0x0D01 0 [BitVec.ofNat 8 p, BitVec.ofNat 8 link] (setVal (0x1A01 + 0x10 * p) 1 link s)
    if link = 0 then s1 else pumpAll p (if s.linkOf p = 0 then announceIp p s1 else s1)

/-- NET_LINK. -/
def execNetLink (dt : Nat) (port : Fin 2) (link : Fin 5) (s : State) : Host.Outcome State Fault Refusal :=
  let s1 := advance dt s
  next (if s1.host.ready && linkFits (s1.netCfg port.val 1) link.val && (link.val == 0 || !bitOf s1.sys.clocksBad 3) then
    netLink port.val link.val s1 else s1)

/-! Received frames that fail a check (R298-R303) -/

/-- The UDP datagram of an IPv4 packet is taken: its checksum, and a port the engine serves (R303). -/
def State.udpTaken (s : State) (p : Nat) (ip : Bytes) : Bool :=
  let u := ip.drop 20
  let dport := ofBe (sliceB u 2 2)
  (ofBe (sliceB u 6 2) == 0 || sumOk (udpPseudo (ofBe (sliceB ip 12 4)) (ofBe (sliceB ip 16 4)) (ofBe (sliceB u 4 2)) ++ u.take (ofBe (sliceB u 4 2)))) &&
    (dport == 45510 || (s.joins p && (dport == 319 || dport == 320)))

/-- An IPv4 datagram is accepted (R300, R303). -/
def State.ipTaken (s : State) (p : Nat) (ip : Bytes) : Bool :=
  let total := ofBe (sliceB ip 2 2)
  let dst := ofBe (sliceB ip 16 4)
  byteAt ip 0 == 0x45 && sumOk (ip.take 20) && byteAt ip 6 % 64 == 0 && byteAt ip 7 == 0 && decide (20 ≤ total) &&
    decide (total ≤ ip.length) && ((s.ownIps p).contains dst || (s.joins p && dst == 0xE0000181)) &&
    (byteAt ip 9 != 17 || s.udpTaken p (ip.take total))

/-- EtherType and body, without the FCS, of a frame that the VLAN rules accept (R299). -/
def State.vlanTaken (s : State) (p : Nat) (frame : Bytes) : Option (Nat × Bytes) :=
  let t := ofBe (sliceB frame 12 2)
  let vid := ofBe (sliceB frame 14 2) % 4096
  let f := frame.take (frame.length - 4)
  if t = 0x8100 then
    (if vid = s.vidOf p then some (ofBe (sliceB frame 16 2), f.drop 18) else none)
  else if s.vidOf p = 0 then some (t, f.drop 14) else none

/-- A PTP message of the port's domain and of a kind that it takes: Sync, Delay_Req, Delay_Resp, Announce (R330). -/
def State.ptpTaken (s : State) (m : Bytes) : Bool := [0, 1, 9, 11].contains (byteAt m 0 % 16) && byteAt m 4 == s.val 0x1B10 4

/-- The frame is one that another command stands for: ARP, an echo request, a Catalogue datagram, a PTP message. Every other good
frame is received and ignored. -/
def State.handled (s : State) (p t : Nat) (body : Bytes) : Bool :=
  if t = 0x0806 then true
  else if t = 0x88F7 then s.flag 0x1B10 1 && s.val 0x1B10 2 == p && s.val 0x1B10 3 == 0 && s.ptpTaken body
  else if t = 0x0800 then
    match byteAt body 9 with
    | 1 => byteAt body 20 == 8
    | 17 => ofBe (sliceB body 22 2) == 45510 || s.ptpTaken (body.drop 28)
    | _ => false
  else false

/-- A frame of the port's wire, destination address to FCS, whose check value was good or not: it is counted and
discarded where it fails a check, or ignored where nothing takes it; MAC control frames are ignored. -/
def doFiltered (p : Nat) (frame : Bytes) (fcsOk : Bool) (s : State) : State :=
  let limit := if ofBe (sliceB frame 12 2) = 0x8100 then 1522 else 1518
  let s1 := if limit < frame.length then netCount p 5 32 s else s
  let s2 := if fcsOk then s1 else netCount p 4 32 s1
  if limit < frame.length ∨ !fcsOk ∨ frame.length < 64 ∨ ofBe (sliceB frame 12 2) = 0x8808 then s2
  else
    match s.vlanTaken p frame with
    | none => netCount p 6 32 (netCount p 2 64 s2)
    | some (t, body) =>
      if t = 0x0800 ∧ !s.ipTaken p body then netCount p 6 32 (netCount p 2 64 s2)
      else if s.handled p t body then s2
      else netCount p 2 64 s2

/-- ETHERNET_FRAME_FILTERED. -/
def execEthernetFrameFiltered (dt : Nat) (port : Fin 2) (frame : Bytes) (fcsOk : Bool) (s : State) : Host.Outcome State Fault Refusal :=
  let s1 := advance dt s
  next (if s1.host.ready && s1.linkOf port.val != 0 then doFiltered port.val frame fcsOk s1 else s1)

/-! ICMP (R302) -/

/-- A datagram reaches an address that the port answers for. -/
def State.reaches (s : State) (src : NetSrc) : Bool :=
  s.host.ready && s.linkOf src.port.val != 0 && (if src.shared then s.sharedOn src.port.val else s.ipOf src.port.val != 0)

/-- An echo request, with its identifier and sequence number: answered, within the rate. -/
def doEcho (src : NetSrc) (echo : Nat) (data : Bytes) (s : State) : State :=
  let p := src.port.val
  let s0 := netCount p 2 64 s
  if 1472 < data.length then s0
  else
    let r := rateStep s0.net.icmpRate s0.net.icmpRateAt p s0.clk.core 100
    let s1 := { s0 with net := { s0.net with icmpRate := r.2.1, icmpRateAt := r.2.2 } }
    if r.1 then netCount p 8 32 (sendNow p (.icmp (s1.reachedIp src) src.ip.toNat src.mac.toNat echo data) s1) else s1

/-- A datagram that reaches no address of the port is counted in FILTERED. -/
def onDatagram (src : NetSrc) (f : State → State) (s : State) : State :=
  if s.reaches src then f s
  else if s.host.ready && s.linkOf src.port.val != 0 then netCount src.port.val 6 32 (netCount src.port.val 2 64 s)
  else s

/-- ICMP_ECHO. -/
def execIcmpEcho (dt : Nat) (src : NetSrc) (echo : EchoRequest) (s : State) : Host.Outcome State Fault Refusal :=
  next (onDatagram src (doEcho src echo.id.toNat echo.data) (advance dt s))

end Sys2Proof.Machine
end

