-- ==== Sys2Proof/Machine/Protocol.lean ====
section
/-! DEFINITION. The Catalogue protocol's messages, keys, sessions and limits on sources (R305-R316), KEY (R313) and the
event push (R318). REQUEST and IDENT_READ stand with the Catalogue's service. -/

namespace Sys2Proof.Machine

/-! Messages (R305, R306) -/

/-- A message: its header's fields, body and TAG. -/
structure Msg where
  kind    : Nat
  session : Nat
  seq     : Nat
  gen     : Nat
  body    : Bytes
  tag     : Bytes
  deriving DecidableEq, Repr

/-- Kinds that carry a TAG, of those a client sends. -/
def taggedKind (k : Nat) : Bool := k == 2 || k == 3 || k == 4

/-- The message that a datagram's payload spells. -/
def msgOf (bs : Bytes) : Msg :=
  let n := leAt bs 6 2
  { kind := byteAt bs 5, session := leAt bs 8 4, seq := leAt bs 12 4, gen := leAt bs 16 4
    body := sliceB bs 32 n, tag := bs.drop (32 + n) }

/-- A service body's LENGTH is that of the data it carries, and its reserved bytes are zero (R41, R306). -/
def bodyOk (body : Bytes) : Bool :=
  decide (8 ≤ body.length) && leAt body 6 2 == body.length - 8 && byteAt body 1 == 0 && byteAt body 5 == 0

/-- The body's length agrees with the kind's row. -/
def kindLength (kind : Nat) (body : Bytes) : Bool :=
  match kind with
  | 1 => body.isEmpty
  | 2 => body.length == 32
  | 3 => bodyOk body && decide (body.length ≤ 1424)
  | 4 => body.isEmpty
  | 6 => bodyOk body && byteAt body 0 == 1 && body.length == 8
  | _ => false

/-- The datagram is one that a client may send (R306). An IDENT_READ carries a READ alone, without data. -/
def wellFormed (bs : Bytes) : Bool :=
  let m := msgOf bs
  decide (32 ≤ bs.length) && leAt bs 0 4 == 0x50434241 && byteAt bs 4 == 1 && allZero (sliceB bs 20 12) &&
    kindLength m.kind m.body && m.body.length == leAt bs 6 2 &&
    m.tag.length == (if taggedKind m.kind then 16 else 0)

/-- Header and body of a message from the engine (R305). -/
def State.message (s : State) (kind session seq : Nat) (body : Bytes) : Bytes :=
  le 4 0x50434241 ++ [1, BitVec.ofNat 8 kind] ++ le 2 body.length ++ le 4 session ++ le 4 seq ++ le 4 s.net.keyGen ++
    zeros 12 ++ body

/-- The message with its TAG under a key (R307). -/
def tagged (key msg : Bytes) : Bytes := msg ++ (hmac key msg).take 16

/-- The bytes of a label. -/
def asciiBytes (t : String) : Bytes := t.toList.map (fun c => BitVec.ofNat 8 c.toNat)

/-- K_s of a session (R307). -/
def sessionKey (psk ne nc : Bytes) (id : Nat) : Bytes := hmac psk (asciiBytes "ABCP-SES" ++ ne ++ nc ++ le 4 id)

/-- K_p (R307). -/
def State.pubKey (s : State) : Bytes := hmac s.net.key (asciiBytes "ABCP-PUB" ++ le 4 s.net.keyGen)

/-- REJECT (R306, R316). -/
def reject (src : NetSrc) (kind code : Nat) (s : State) : State :=
  replyUdp src (s.message 0xFF 0 0 (le 4 code ++ [BitVec.ofNat 8 kind, 0, 0, 0])) s

/-! Limits on sources (R314, R315) -/

/-- A bucket's depth: 200 tokens of 600,000 core clocks each. -/
def bucketDepth : Nat := 120000000

/-- The table's key of a source address: its own, or the overflow entry of a full table. -/
def State.sourceKey (s : State) (ip : Nat) : Nat :=
  if s.net.sources.any (fun x => x.ip == ip) then ip
  else if (s.net.sources.filter (fun x => decide (x.ip < 2 ^ 32))).length < 256 then ip else 2 ^ 32

/-- What is known of a source; a new one has a full bucket. -/
def State.source (s : State) (key : Nat) : Source :=
  match s.net.sources.find? (fun x => x.ip == key) with
  | some x => x
  | none => ⟨key, bucketDepth, s.clk.core, [], none⟩

/-- It takes a new content. -/
def setSource (x : Source) (s : State) : State :=
  if s.net.sources.any (fun y => y.ip == x.ip) then
    { s with net := { s.net with sources := s.net.sources.map (fun y => if y.ip == x.ip then x else y) } }
  else { s with net := { s.net with sources := s.net.sources ++ [x] } }

/-- The bucket refilled to now. -/
def Source.refill (x : Source) (now : Nat) : Source :=
  { x with tokens := clampN bucketDepth (x.tokens + (now - x.tokensAt)), tokensAt := now }

/-- A datagram to port 45510 draws a token, or is dropped; one of a source that is locked out is dropped. -/
def withToken (src : NetSrc) (f : State → State) (s : State) : State :=
  let key := s.sourceKey src.ip.toNat
  let x := (s.source key).refill s.clk.core
  if x.tokens < 600000 then
    let s1 := bump 0x1400 7 32 (setSource x s)
    raiseLimited (sCk 1) 0x0D06 key 0 (be 4 src.ip.toNat ++ le 4 (s1.val 0x1400 7)) s1
  else
    let s1 := setSource { x with tokens := x.tokens - 600000 } s
    if x.lockedAt.isSome then s1 else f s1

/-- Sixteen failures stand within 60 s. -/
def tooMany (fails : List Nat) (now : Nat) : Bool :=
  match fails[15]? with
  | some t => decide (now ≤ t + sCk 60)
  | none => false

/-- An authentication failure of a source: REJECT, the count, and a lockout (R315, R316). -/
def authFail (src : NetSrc) (kind code : Nat) (s : State) : State :=
  let key := s.sourceKey src.ip.toNat
  let x := s.source key
  let fails := (s.clk.core :: x.fails).take 16
  let s1 := raiseLimited (sCk 1) 0x0D04 key 0 (be 4 src.ip.toNat ++ le 2 code) (bump 0x1400 5 32 (reject src kind code s))
  if tooMany fails s.clk.core then
    raise 0x0D05 0 (be 4 src.ip.toNat) (bump 0x1400 6 32 (setSource { x with fails := fails, lockedAt := some s.clk.core } s1))
  else setSource { x with fails := fails } s1

/-- The transaction came in a datagram of port p. -/
def State.cameBy (s : State) (p : Nat) (t : Trans) : Bool :=
  match t.origin with
  | .request k _ => s.net.sessions.any (fun q => q.1 == k && q.2.src.port.val == p)
  | .ident src => src.port.val == p
  | _ => false

/-- Messages of port p that wait for Curator. The model's Curator takes a message as it comes unless an earlier transaction holds
it, so that those that wait are the transactions of the port that wait (R314; DESIGN CHOICE, log entry 76). -/
def State.queued (s : State) (p : Nat) : Nat := (s.cat.waiting.filter (s.cameBy p)).length

/-- A datagram to port 45510: counted, budgeted, checked for its form, dropped where the port's queue is full, and handed on where
it is of the kind. -/
def onMessage (kind : Nat) (src : NetSrc) (bs : Bytes) (f : Msg → State → State) (s : State) : State :=
  let p := src.port.val
  onDatagram src (fun s => withToken src (fun s =>
    if !wellFormed bs then netCount p 7 32 s
    else if 64 ≤ s.queued p then netCount p 10 32 s
    else if (msgOf bs).kind = kind then f (msgOf bs) s else s) (netCount p 2 64 s)) s

/-- MALFORMED_MESSAGE: a message of no kind a client may send. -/
def execMalformedMessage (dt : Nat) (src : NetSrc) (msg : Bytes) (s : State) : Host.Outcome State Fault Refusal :=
  let s1 := advance dt s
  next (if wellFormed msg then s1 else onMessage 0 src msg (fun _ s => s) s1)

/-! CHALLENGE and OPEN (R308, R309) -/

/-- The nonces with a new one of its port: the 64 most recent of a port are held. -/
def addNonce (x : Nonce) (ns : List Nonce) : List Nonce :=
  let same := ns.filter (fun n => n.port == x.port)
  if 64 ≤ same.length then
    (match takeFirst (fun n => n.port == x.port) ns with | some (_, r) => r | none => ns) ++ [x]
  else ns ++ [x]

/-- A CHALLENGE is answered with a fresh nonce. -/
def doChallenge (src : NetSrc) (s : State) : State :=
  let n := Config.random s.free
  let s1 := draw { s with net := { s.net with nonces := addNonce ⟨src.port.val, src.ip.toNat, n.toNat, s.clk.core⟩ s.net.nonces } }
  replyUdp src (s1.message 0x81 0 0 (le 16 n.toNat)) s1

/-- CHALLENGE. -/
def execChallenge (dt : Nat) (src : NetSrc) (msg : Bytes) (s : State) : Host.Outcome State Fault Refusal :=
  next (onMessage 1 src msg (fun _ s => doChallenge src s) (advance dt s))

/-- The nonce that a value names for this source, while it is valid. -/
def State.nonceOf (s : State) (src : NetSrc) (v : Nat) : Option Nonce :=
  s.net.nonces.find? (fun n => n.port == src.port.val && n.ip == src.ip.toNat && n.value == v && decide (s.clk.core < n.at_ + sCk 5))

/-- A session ID from the random source: never 0 and never that of an open session. -/
def State.freshSession (s : State) : Nat :=
  let v := (Config.random s.free).toNat
  let ok (i : Nat) : Bool := i != 0 && !s.net.sessions.any (fun p => p.2.id == i)
  (((List.range 10).map (fun k => (v + k) % 2 ^ 32)).find? ok).getD 1

/-- The session whose OPEN a datagram repeats byte for byte within 5 s (R309). -/
def State.repeated (s : State) (src : NetSrc) (msg : Bytes) : Option Session :=
  (s.net.sessions.find? (fun p => p.2.openMsg == msg && p.2.src.port == src.port && p.2.src.ip == src.ip &&
    p.2.src.udp == src.udp && decide (s.clk.core < p.2.openAt + sCk 5))).map (fun p => p.2)

/-- A session opens in slot k. -/
def openIn (k : Nat) (src : NetSrc) (msg : Bytes) (m : Msg) (n : Nonce) (s : State) : State :=
  let id := s.freshSession
  let key := sessionKey s.net.key (m.body.take 16) (m.body.drop 16) id
  let ack := tagged key (s.message 0x82 id 0 (le 2 30 ++ le 2 1424))
  let x : Session :=
    { id := id, src := src, lastSeq := 0, opened := s.now, lastMsg := s.clk.core, key := key, store := []
      openMsg := msg, openAck := ack, openAt := s.clk.core }
  let s1 := draw { s with net := { s.net with
    nonces := s.net.nonces.filter (fun y => y != n)
    sessions := tset s.net.sessions k x } }
  raise 0x0D02 0 (le 4 id ++ be 4 src.ip.toNat) (replyUdp src ack s1)

/-- An OPEN: the repeat of R309, or the checks of its list in order. -/
def doOpen (src : NetSrc) (msg : Bytes) (m : Msg) (s : State) : State :=
  match s.repeated src msg with
  | some x => replyUdp src x.openAck s
  | none =>
    if !s.net.keySet then reject src 2 0xAB0D0014 s
    else if m.gen ≠ s.net.keyGen then authFail src 2 0xAB0D0012 s
    else
      match s.nonceOf src (ofLe (m.body.take 16)) with
      | none => authFail src 2 0xAB0D0012 s
      | some n =>
        if m.tag ≠ (hmac s.net.key (msg.take (32 + m.body.length))).take 16 then authFail src 2 0xAB0D0010 s
        else
          match sessionIds.find? (fun k => !thas s.net.sessions k) with
          | none => reject src 2 0xAB0D0013 s
          | some k => openIn k src msg m n s

/-- OPEN. -/
def execOpenSession (dt : Nat) (src : NetSrc) (msg : Bytes) (s : State) : Host.Outcome State Fault Refusal :=
  next (onMessage 2 src msg (fun m s => doOpen src msg m s) (advance dt s))

/-! Tagged messages of a session -/

/-- The open session a message names, bound to its source; with its slot. -/
def State.boundSession (s : State) (src : NetSrc) (id : Nat) : Option (Nat × Session) :=
  s.net.sessions.find? (fun p => p.2.id == id && p.2.src.port == src.port && p.2.src.ip == src.ip && p.2.src.udp == src.udp)

/-- A tagged message of a session: it must be open and bound, the TAG must check, and the generation must agree (R315). -/
def onSession (kind : Nat) (src : NetSrc) (msg : Bytes) (m : Msg) (f : Nat → Session → State → State) (s : State) : State :=
  match s.boundSession src m.session with
  | none => authFail src kind 0xAB0D0011 s
  | some (k, x) =>
    if m.tag ≠ (hmac x.key (msg.take (32 + m.body.length))).take 16 then authFail src kind 0xAB0D0010 s
    else if m.gen ≠ s.net.keyGen then authFail src kind 0xAB0D0012 s
    else f k x s

/-- CLOSE: answered by CLOSE_ACK. -/
def doClose (src : NetSrc) (k : Nat) (x : Session) (s : State) : State :=
  closeSession k 0 (replyUdp src (tagged x.key (s.message 0x84 x.id 0 [])) s)

/-- CLOSE. -/
def execCloseRequest (dt : Nat) (src : NetSrc) (msg : Bytes) (s : State) : Host.Outcome State Fault Refusal :=
  next (onMessage 4 src msg (fun m s => onSession 4 src msg m (doClose src) s) (advance dt s))

/-! Expiries -/

/-- SESSION_IDLE_TIMEOUT: 30 s after the last accepted message. -/
def execSessionIdleTimeout (dt : Nat) (slot : Fin 8) (s : State) : Host.Outcome State Fault Refusal :=
  let s1 := advance dt s
  next (if s1.net.sessions.any (fun p => p.1 == slot.val && decide (p.2.lastMsg + sCk 30 ≤ s1.clk.core)) then
    closeSession slot.val 1 s1 else s1)

/-- NONCE_EXPIRY: the nonces of a port that are 5 s old are void. -/
def execNonceExpiry (dt : Nat) (port : Fin 2) (s : State) : Host.Outcome State Fault Refusal :=
  let s1 := advance dt s
  next { s1 with net := { s1.net with
    nonces := s1.net.nonces.filter (fun n => n.port != port.val || decide (s1.clk.core < n.at_ + sCk 5)) } }

/-- LOCKOUT_END: 10 s after it began, a lockout ends and the count clears. -/
def doLockoutEnd (ip : Nat) (s : State) : State :=
  let x := s.source (s.sourceKey ip)
  match x.lockedAt with
  | some t => if t + sCk 10 ≤ s.clk.core then setSource { x with lockedAt := none, fails := [] } s else s
  | none => s

/-- LOCKOUT_END. -/
def execLockoutEnd (dt : Nat) (ip : BitVec 32) (s : State) : Host.Outcome State Fault Refusal :=
  next (doLockoutEnd ip.toNat (advance dt s))

/-- 60 s after a source's last failure its count clears. -/
def doAuthExpiry (ip : Nat) (s : State) : State :=
  let x := s.source (s.sourceKey ip)
  match x.fails.head? with
  | some t => if t + sCk 60 ≤ s.clk.core then setSource { x with fails := [] } s else s
  | none => s

/-- AUTH_COUNT_EXPIRY. -/
def execAuthCountExpiry (dt : Nat) (ip : BitVec 32) (s : State) : Host.Outcome State Fault Refusal :=
  next (doAuthExpiry ip.toNat (advance dt s))

/-! Writes that the Catalogue's service hands on -/

/-- KEY is written: the key and its generation go to their Archive record, every session closes and every nonce is void
(R313). -/
def keyWrite (key : Bytes) (s : State) : State :=
  let gen := wrapAdd 32 s.net.keyGen 1
  let s1 := arcWrite 2 (key ++ le 4 gen) { s with net := { s.net with key := key, keySet := !allZero key, keyGen := gen } }
  let s2 := closeWhere (fun _ => true) 2 s1
  { s2 with net := { s2.net with nonces := [] } }

/-- Netmask of n leading ones. -/
def prefixMask (n : Nat) : Nat := 2 ^ 32 - 2 ^ (32 - n)

/-- An address may be a port's: not loopback, multicast, limited broadcast, nor its subnet's own or broadcast address. -/
def hostAddress (ip mask : Nat) : Bool :=
  ip / 2 ^ 24 != 127 && !isMulticast ip && ip != 0xFFFFFFFF && (ip &&& mask) != ip && (ip ||| (0xFFFFFFFF - mask)) != ip

/-- IP_CONFIG's refusal (R300): no check applies to the address 0.0.0.0. -/
def checkIpConfig (v : Nat) : Nat :=
  let bs := le 12 v
  let ip := ofBe (sliceB bs 0 4)
  let mask := ofBe (sliceB bs 4 4)
  let gw := ofBe (sliceB bs 8 4)
  if ip = 0 then 0
  else if !(List.range 23).any (fun i => prefixMask (8 + i) == mask) then 0xAB0D0001
  else if !hostAddress ip mask then 0xAB0D0001
  else if gw ≠ 0 ∧ (gw = ip ∨ (gw &&& mask) ≠ (ip &&& mask)) then 0xAB0D0001
  else 0

/-- IP_CONFIG of port p is written: its sessions close, and a gratuitous ARP follows (R300, R301). -/
def ipChanged (p : Nat) (s : State) : State := announceIp p (closeWhere (fun x => x.src.port.val == p) 3 s)

/-- SHARED_IP must lie in the subnet that an IP_CONFIG gives SHARED_PORT (R304); a port without an address has none. -/
def sharedFits (config : Bytes) (ip : Nat) : Bool :=
  let own := ofBe (sliceB config 0 4)
  let mask := ofBe (sliceB config 4 4)
  own != 0 && (ip &&& mask) == (own &&& mask)

/-- SHARED_IP and SHARED_PORT must agree (R304). -/
def State.checkShared (s : State) (port ip : Nat) : Nat :=
  if port = 0xFF ∨ ip = 0 ∨ sharedFits (s.ipConfig port) ip = true then 0 else 0xAB0D0001

/-- A new IP_CONFIG of port p must keep SHARED_IP in the port's subnet (R304). -/
def State.checkSharedConfig (s : State) (p v : Nat) : Nat :=
  if s.val 0x1A20 1 ≠ p ∨ s.sharedIp = 0 ∨ sharedFits (le 12 v) s.sharedIp = true then 0 else 0xAB0D0001

/-- CLOSE_SESSION's refusal (R320). -/
def checkCloseSession (v : Nat) (s : State) : Nat :=
  if v = 0xFFFFFFFF ∨ s.net.sessions.any (fun p => p.2.id == v) then 0 else 0xAB0D0004

/-- CLOSE_SESSION accepted. -/
def closeSessions (v : Nat) (s : State) : State := closeWhere (fun x => v == 0xFFFFFFFF || x.id == v) 4 s

/-! The event push (R318) -/

/-- A TAG under K_p; with no key set the spec gives it no value (log entry 5). -/
def State.pubTagged (s : State) (msg : Bytes) : Bytes :=
  if s.net.keySet then tagged s.pubKey msg else msg ++ (List.range 16).map (Config.freeByte s.free)

/-- The batch that is due goes out. -/
def doEventPush (s : State) : State :=
  let b := s.prov.backlog
  if !s.flag 0x1600 1 || b.isEmpty || (decide (b.length < 44) && decide (s.clk.core < s.prov.backlogAt + usCk (s.val 0x1600 4))) then s
  else
    let rs := b.take 44
    let seq := wrapAdd 32 s.prov.pushSeq 1
    let body := le 2 rs.length ++ [BitVec.ofNat 8 (b2n s.prov.dropped), 0] ++ le 4 (s.val 0x1600 6) ++ rs.flatMap Rec.bytes
    let d := destOf (s.val 0x1600 2)
    let s1 := { s with prov := { s.prov with backlog := b.drop 44, backlogAt := s.clk.core, dropped := false, pushSeq := seq } }
    draw (sendUdp (d.1 % 2) (s.val 0x1600 5) none d.2.2 d.2.1 (s.pubTagged (s.message 0x91 16 seq body)) none s1)

/-- EVENT_PUSH_SEND. -/
def execEventPushSend (dt : Nat) (s : State) : Host.Outcome State Fault Refusal := next (doEventPush (advance dt s))

end Sys2Proof.Machine
end

