-- ==== Sys2Proof/Machine/Time.lean ====
section
/-! DEFINITION. Steps of device time, the rate servo and the PTP port (R322-R331). Offsets are in ps, RATE in 2^-48. -/

namespace Sys2Proof.Machine

/-- Device-time units as ps, rounded (R6). -/
def psOf (x : Int) : Int := rne (x * 1000) 16

/-- ps as 2^-48 ns of the counter. -/
def counterOf (ps : Int) : Int := rneDiv (ps * 281474976710656) 1000

/-- The largest RATE: 500 ppm. -/
def rateMax : Int := 140737488355

/-! Steps (R327) -/

/-- Every head-link lane in RUN sends RESYNC and then TIME_SYNC twice; exchanges begun before the step are void. -/
def resyncLanes (s : State) : State :=
  forEach (List.range 32) (fun l s =>
    if s.running l then pumpLane l (setLane l { s.lane l with resync := true, syncQueue := 2, syncs := [] } s) else s) s

/-- What PTP holds of earlier moments, told in the new time. -/
def Ptp.shift (x : Ptp) (t : Int) : Ptp :=
  { x with
    syncAt := x.syncAt.map (fun u => ((u : Int) + t).toNat)
    delayReqAt := x.delayReqAt.map (fun u => ((u : Int) + t).toNat)
    t21 := x.t21 + psOf t, recent := [] }

/-- The counter steps by d, in 2^-48 ns; the epoch follows. -/
def moveClock (d : Int) (epoch : Nat) (s : State) : State :=
  let c := s.clk
  let t0 := s.now
  let s1 := { s with clk := { c with
    counter := ((c.counter : Int) + d).toNat, epoch := epoch, traced := true, stepPending := false
    lastStep := rneDiv d 281474976710656 } }
  { s1 with ptp := s1.ptp.shift ((s1.now : Int) - t0) }

/-- A step by d to an epoch: the predictor is invalid, the lanes resynchronise, and TIME_STEPPED is raised. -/
def stepTo (d : Int) (epoch : Nat) (s : State) : State :=
  let s1 := moveClock d epoch s
  raise 0x0E01 0 (le 8 (usg 64 s1.clk.lastStep)) (resyncLanes (predictorLost s1))

/-- A step by d on a unit in control: the epoch moves on, and a standby is told by a message of the mirror sequence. -/
def stepTime (d : Int) (s : State) : State :=
  let epoch := (s.clk.epoch + 1) % 16
  let s1 := stepTo d epoch s
  if s1.mirrors then mirrorSend (fun n => .step n d epoch) s1 else s1

/-- A drop-gate sweep is queued or running. -/
def State.sweeping (s : State) : Bool := (s.opOf 0x7C00 1).isSome

/-- No step is taken in PRINT or beside a sweep (R326). -/
def State.stepHeld (s : State) : Bool := s.sys.mode == .print || s.sweeping

/-- The mean of the latest four offsets. -/
def meanOffset (xs : List Int) : Int := rneDiv ((xs.take 4).foldl (· + ·) 0) 4

/-- Four offsets lie within 1 microsecond of one another. -/
def offsetsAgree (xs : List Int) : Bool :=
  let ys := xs.take 4
  ys.length == 4 && ys.all (fun a => ys.all (fun b => decide (a - b ≤ 1000000)))

/-- The first-lock step, or its deferral (R326). -/
def firstLock (s : State) : State :=
  if s.clk.traced || s.ptp.state != .slave || !offsetsAgree s.ptp.recent then s
  else if s.stepHeld then { s with clk := { s.clk with stepPending := true } }
  else stepTime (counterOf (-(meanOffset s.ptp.recent))) s

/-- DEFERRED_STEP: the pending step is taken at the first moment that nothing holds it. -/
def doDeferredStep (s : State) : State :=
  if s.clk.stepPending && !s.stepHeld && decide (4 ≤ s.ptp.recent.length) then
    stepTime (counterOf (-(meanOffset s.ptp.recent))) s
  else s

/-- DEFERRED_STEP. -/
def execDeferredStep (dt : Nat) (s : State) : Host.Outcome State Fault Refusal := next (doDeferredStep (advance dt s))

/-! SET_TIME (R329) -/

/-- SET_TIME's refusals. -/
def checkSetTime (v : Nat) (s : State) : Nat :=
  if s.sys.mode == .print then 0xAB020001
  else if s.sweeping then 0xAB010007
  else if !s.inControl then 0xAB0C0004
  else if v = 0 ∧ !(match s.ptp.offsetAt with | some t => decide (s.clk.core ≤ t + sCk 2) | none => false) then 0xAB0E0001
  else 0

/-- SET_TIME accepted. -/
def setTime (v : Nat) (s : State) : State :=
  if v = 0 then stepTime (counterOf (-s.ptp.offset)) s
  else stepTime (((ofTime96 v : Int) - s.now) * 4294967296) s

/-! The servo (R328) -/

/-- One run of the servo on an error o over an interval t. -/
def servo (o t : Int) (s : State) : State :=
  if t ≤ 0 then s
  else
    let f := tdiv (o * 281474976710656) t
    let integral := clampI (-rateMax) rateMax (s.ptp.integral - rne (f * s.val 0x1B10 16) 8)
    let rate := clampI (-rateMax) rateMax (integral - rne (f * s.val 0x1B10 15) 8)
    { s with clk := { s.clk with rate := rate }, ptp := { s.ptp with integral := integral } }

/-- LOCKED sets after 16 Syncs within 100 ns and clears after 4 beyond 1 microsecond. -/
def Ptp.judge (x : Ptp) (o : Int) : Ptp :=
  let good := if o.natAbs < 100000 then x.goodRun + 1 else 0
  let bad := if 1000000 < o.natAbs then x.badRun + 1 else 0
  { x with goodRun := good, badRun := bad, locked := if 16 ≤ good then true else if 4 ≤ bad then false else x.locked }

/-- TIME_DIVERGED beyond 1 ms, and below 500 microseconds again. -/
def noteDiverged (o : Int) (s : State) : State :=
  let tell (b : Bool) (s : State) : State :=
    raise 0x0E02 0 ([BitVec.ofNat 8 (b2n b), 0, 0, 0] ++ le 4 (usg 32 (clampI (-2147483648) 2147483647 (rneDiv o 1000000))))
      { s with clk := { s.clk with diverged := b } }
  if !s.clk.diverged && decide (1000000000 < o.natAbs) then tell true s
  else if s.clk.diverged && decide (o.natAbs < 500000000) then tell false s
  else s

/-! The PTP port -/

/-- The port that PTP runs on. -/
def State.ptpPort (s : State) : Nat := s.val 0x1B10 2 % 2

/-- PTP runs and its port's link is up; over UDP the port must have an address (R300). -/
def State.ptpUp (s : State) : Bool :=
  s.host.ready && s.flag 0x1B10 1 && s.linkOf s.ptpPort != 0 && (s.val 0x1B10 3 == 0 || s.ipOf s.ptpPort != 0) && s.ptp.state != .disabled && s.ptp.state != .initializing

/-- A PTP message has come in on its port: it is a frame received, and heard while PTP runs. -/
def onPtp (f : State → State) (s : State) : State := if s.ptpUp then f (netCount s.ptpPort 2 64 s) else s

/-- A time of 2^n s in core clocks. -/
def logCk (n : Int) : Nat := if n < 0 then sCk 1 / 2 ^ n.natAbs else sCk 1 * 2 ^ n.natAbs

/-- One of the logarithmic intervals of 0x1B10, in core clocks. -/
def State.ptpInterval (s : State) (sub : Nat) : Nat := logCk (s.ival 0x1B10 sub 1)

/-- What an offset measurement does once it is in hand: the servo, first lock, LOCKED, divergence. -/
def useOffset (o : Int) (prev : Option Int) (t : Int) (s : State) : State :=
  if !s.inControl then s
  else if !s.clk.traced then
    let s1 := match prev with | some p => servo (o - p) t s | none => s
    let s2 := if s1.ptp.state == .uncalibrated && offsetsAgree s1.ptp.recent then setPtp { s1.ptp with state := .slave } s1 else s1
    firstLock (setPtp (if s2.ptp.state == .slave then s2.ptp.judge o else s2.ptp) s2)
  else if s.ptp.state == .slave then
    noteDiverged o (let s1 := servo o t s
      setPtp (s1.ptp.judge o) s1)
  else if offsetsAgree s.ptp.recent then setPtp { s.ptp with state := .slave } s
  else s

/-- A Sync of the master the port follows, sent at the master's time, in 2^-16 ns. -/
def doSync (master : Int) (s : State) : State :=
  if s.inControl && s.ptp.state != .slave && s.ptp.state != .uncalibrated then s
  else
    let x := s.ptp
    let t2 : Nat := s.ptpNow
    let t21 := psOf ((t2 : Int) - master)
    let o := t21 - x.pathDelay - s.ival 0x1B10 13 4
    let t : Int := match x.syncAt with | some u => psOf ((t2 : Int) - u) | none => 0
    let prev := if x.recent.isEmpty then none else some x.offset
    useOffset o prev t { s with ptp := { x with
      offset := o, offsetAt := some s.clk.core, recent := (o :: x.recent).take 4
      syncReceived := wrapAdd 32 x.syncReceived 1, syncAt := some t2, t21 := t21 } }

/-- PTP_SYNC_RECEIVED. -/
def execPtpSyncReceived (dt : Nat) (master : Int) (s : State) : Host.Outcome State Fault Refusal :=
  next (onPtp (doSync master) (advance dt s))

/-- SYNC_TIMEOUT: no Sync for three intervals. RATE holds its last value. -/
def execSyncTimeout (dt : Nat) (s : State) : Host.Outcome State Fault Refusal := next (advance dt s)

/-- A Delay_Resp: the mean of the last 8 measurements, of those within 1 microsecond of the previous mean. -/
def doPtpDelayResp (received : Int) (s : State) : State :=
  let x := s.ptp
  match x.delayReqAt with
  | none => s
  | some t3 =>
    if x.syncAt.isNone then s
    else
      let d := rneDiv (x.t21 + psOf (received - t3)) 2
      let all := (d :: x.delays).take 8
      let used := if x.delays.isEmpty then all else all.filter (fun y => decide ((y - x.pathDelay).natAbs ≤ 1000000))
      { s with ptp := { x with
          delayReqAt := none, delays := all
          pathDelay := if used.isEmpty then x.pathDelay else rneDiv (used.foldl (· + ·) 0) used.length } }

/-- PTP_DELAY_RESP_RECEIVED. -/
def execPtpDelayRespReceived (dt : Nat) (received : Int) (s : State) : Host.Outcome State Fault Refusal :=
  next (onPtp (doPtpDelayResp received) (advance dt s))

/-- A PTP message joins queue 7 (R331, R332). -/
def sendPtp (launch : Option Nat) (kind seq time requester : Nat) (s : State) : State :=
  enqueueTx s.ptpPort 7 ⟨launch, .ptp kind seq time requester, none⟩ s

/-- A message of a kind that the engine numbers itself. -/
def sendCounted (launch : Option Nat) (kind time : Nat) (s : State) : State :=
  let n := tget 0 s.ptp.seqs kind
  sendPtp launch kind n time 0 { s with ptp := { s.ptp with seqs := tset s.ptp.seqs kind (wrapAdd 16 n 1) } }

/-- The port is MASTER of a unit in control. -/
def State.mastering (s : State) : Bool := s.ptpUp && s.inControl && s.ptp.state == .master

/-- A master answers a Delay_Req with Delay_Resp and the time it came, for the port and the sequenceId that asked. -/
def doDelayReq (requester seq : Nat) (s : State) : State := if s.mastering then sendPtp none 3 seq s.ptpNow requester s else s

/-- PTP_DELAY_REQ_RECEIVED. -/
def execPtpDelayReqReceived (dt : Nat) (req : DelayReq) (s : State) : Host.Outcome State Fault Refusal :=
  next (onPtp (doDelayReq req.requester.toNat req.seq.toNat) (advance dt s))

/-- A slave sends Delay_Req once per interval. -/
def doDelayReqSend (s : State) : State :=
  let x := s.ptp
  if s.ptpUp && s.inControl && (x.state == .slave || x.state == .uncalibrated) &&
      decide (x.lastDelaySent + s.ptpInterval 11 ≤ s.clk.core) then
    sendCounted none 2 0 { s with ptp := { x with lastDelaySent := s.clk.core } }
  else s

/-- PTP_DELAY_REQ_SEND. -/
def execPtpDelayReqSend (dt : Nat) (s : State) : Host.Outcome State Fault Refusal := next (doDelayReqSend (advance dt s))

/-- A grandmaster queues the Sync of the next multiple of the Sync interval. -/
def doSyncSend (s : State) : State :=
  let n := s.ival 0x1B10 9 1
  let i := if n < 0 then sT / 2 ^ n.natAbs else sT * 2 ^ n.natAbs
  let launch := (s.now / i + 1) * i
  if s.mastering && s.ptp.lastSyncSent != launch then
    sendCounted (some launch) 0 0 { s with ptp := { s.ptp with lastSyncSent := launch } }
  else s

/-- PTP_SYNC_SEND. -/
def execPtpSyncSend (dt : Nat) (s : State) : Host.Outcome State Fault Refusal := next (doSyncSend (advance dt s))

/-- A master sends an Announce once per interval. -/
def doAnnounceSend (s : State) : State :=
  if s.mastering && decide (s.ptp.lastAnnounceSent + s.ptpInterval 10 ≤ s.clk.core) then
    sendCounted none 4 s.now { s with ptp := { s.ptp with lastAnnounceSent := s.clk.core } }
  else s

/-- PTP_ANNOUNCE_SEND. -/
def execPtpAnnounceSend (dt : Nat) (s : State) : Host.Outcome State Fault Refusal := next (doAnnounceSend (advance dt s))

/-! The default BMCA (R330) -/

/-- The words by which clocks compare, most significant first. -/
def annWords (a : Announce) : List Nat :=
  [a.priority1.toNat, a.clockClass.toNat, a.accuracy.toNat, a.variance.toNat, a.priority2.toNat, a.identity.toNat]

/-- Lexicographic order, the lower being the better. -/
def lowerWords : List Nat → List Nat → Bool
  | x :: xs, y :: ys => if x = y then lowerWords xs ys else decide (x < y)
  | _, _ => false

/-- Announce a is better than b: the grandmaster first, then the path, then the sender. -/
def annBetter (a b : Announce) : Bool :=
  if a.identity = b.identity then lowerWords [a.stepsRemoved.toNat, a.sender.toNat] [b.stepsRemoved.toNat, b.sender.toNat]
  else lowerWords (annWords a) (annWords b)

/-- This clock's own data set. -/
def State.ownClock (s : State) : Announce :=
  { priority1 := BitVec.ofNat 8 (s.val 0x1B10 7), clockClass := if s.flag 0x1B10 5 then 248 else 255
    accuracy := 0xFE, variance := 0xFFFF, priority2 := BitVec.ofNat 8 (s.val 0x1B10 8)
    identity := BitVec.ofNat 64 s.clockId, stepsRemoved := 0, sender := BitVec.ofNat 64 s.clockId }

/-- A foreign master is qualified by two Announces within four intervals. -/
def State.qualified (s : State) (f : Foreign) : Bool :=
  match f.before with
  | some t => decide (s.clk.core ≤ t + 4 * s.ptpInterval 10)
  | none => false

/-- The best qualified foreign master. -/
def State.bestMaster (s : State) : Option Announce :=
  ((s.ptp.foreign.filter s.qualified).map (fun f => f.ann)).foldl (fun acc a =>
    match acc with
    | none => some a
    | some b => if annBetter a b then some a else some b) none

/-- The port's state follows the best master heard, on a unit in control. -/
def decideState (s : State) : State :=
  let x := s.ptp
  if !s.inControl then s
  else
    match s.bestMaster with
    | none =>
      if x.state == .listening then s
      else if s.flag 0x1B10 5 then setPtp { x with state := .master, gmIdentity := s.clockId, parent := none } s
      else setPtp (x.listen s.clk.core) s
    | some a =>
      if s.flag 0x1B10 5 && annBetter s.ownClock a then
        (if x.state == .master then s else setPtp { x with state := .master, gmIdentity := s.clockId, parent := none } s)
      else if x.parent == some a.sender.toNat && (x.state == .slave || x.state == .uncalibrated) then
        { s with ptp := { x with gmIdentity := a.identity.toNat } }
      else
        setPtp { x with
          state := .uncalibrated, gmIdentity := a.identity.toNat, parent := some a.sender.toNat
          recent := [], syncAt := none, delayReqAt := none } s

/-- The foreign masters with a new Announce. -/
def heardFrom (a : Announce) (now : Nat) (fs : List Foreign) : List Foreign :=
  match takeFirst (fun f => f.ann.sender == a.sender) fs with
  | some (f, rest) => ⟨a, now, some f.at_⟩ :: rest
  | none => ⟨a, now, none⟩ :: fs

/-- An Announce of another clock. -/
def doAnnounce (a : Announce) (s : State) : State :=
  if a.sender.toNat == s.clockId || decide (255 ≤ a.stepsRemoved.toNat) then s
  else
    let x := s.ptp
    let fresh := x.parent.isNone || x.parent == some a.sender.toNat
    decideState { s with ptp := { x with
      foreign := heardFrom a s.clk.core x.foreign, announceAt := if fresh then s.clk.core else x.announceAt } }

/-- PTP_ANNOUNCE_RECEIVED. -/
def execPtpAnnounceReceived (dt : Nat) (ann : Announce) (s : State) : Host.Outcome State Fault Refusal :=
  next (onPtp (doAnnounce ann) (advance dt s))

/-- Three Announce intervals have passed without an Announce of the master, or without any: the master is forgotten. -/
def doAnnounceTimeout (s : State) : State :=
  let x := s.ptp
  if !s.ptpUp || !s.inControl || x.state == .master || decide (s.clk.core < x.announceAt + 3 * s.ptpInterval 10) then s
  else
    let s1 := { s with ptp := { x with
      foreign := x.foreign.filter (fun f => some f.ann.sender.toNat != x.parent), parent := none, announceAt := s.clk.core } }
    if x.state == .listening then
      (if s.flag 0x1B10 5 && s1.bestMaster.isNone then setPtp { s1.ptp with state := .master, gmIdentity := s.clockId } s1 else s1)
    else decideState s1

/-- ANNOUNCE_RECEIPT_TIMEOUT. -/
def execAnnounceReceiptTimeout (dt : Nat) (s : State) : Host.Outcome State Fault Refusal := next (doAnnounceTimeout (advance dt s))

/-- PTP_ENABLE, GM_CAPABLE or the priorities are written, or BOOT ends: the port starts, stops, or decides again. -/
def ptpConfigured (s : State) : State :=
  if !s.host.ready then s
  else if !s.flag 0x1B10 1 then setPtp { (s.ptp.listen s.clk.core) with state := .disabled } s
  else if s.ptp.state == .disabled || s.ptp.state == .initializing then setPtp (s.ptp.listen s.clk.core) s
  else decideState s

end Sys2Proof.Machine
end

