-- ==== Sys2Proof/Machine/Cameras.lean ====
section
/-! DEFINITION. Camera ports and contexts, frames and their slots, the image pipeline and its reports, exposure commits and
the CCI masters (R218-R233, R238-R244). -/

namespace Sys2Proof.Machine

/-! Objects -/

/-- Camera context c. -/
def State.ctx (s : State) (c : Nat) : Ctx := tget {} s.ctxs c

/-- Context c takes a new content. -/
def setCtx (c : Nat) (x : Ctx) (s : State) : State := { s with ctxs := tset s.ctxs c x }

/-- An entry of context c (R232). -/
def State.ctxVal (s : State) (c sub : Nat) : Nat := s.val (0x7000 + c) sub

/-- A counter of context c counts. -/
def ctxCount (c sub : Nat) (s : State) : State := bump (0x7000 + c) sub 32 s

/-- Camera port p. -/
def State.port (s : State) (p : Nat) : Port := tget {} s.ports p

/-- Port p takes a new content. -/
def setPort (p : Nat) (x : Port) (s : State) : State := { s with ports := tset s.ports p x }

/-- A counter of port p counts. -/
def portCount (p sub : Nat) (s : State) : State := bump (0x7110 + p) sub 32 s

/-- Port p runs (R218). -/
def State.portRuns (s : State) (p : Nat) : Bool :=
  s.flag (0x7110 + p) 1 && s.sys.mode != .boot && s.sys.mode != .test

/-- The enabled context bound to a port and virtual channel (R220). -/
def State.ctxFor (s : State) (p vc : Nat) : Option Nat :=
  (List.range 16).find? (fun c => s.ctxOn c && s.ctxVal c 2 == p && s.ctxVal c 3 == vc)

/-- Slot k of context c. -/
def Ctx.slot (x : Ctx) (k : Nat) : FSlot := tget {} x.slots k

/-- Slot k takes a new content. -/
def Ctx.setSlot (x : Ctx) (k : Nat) (y : FSlot) : Ctx := { x with slots := tset x.slots k y }

/-- Reserve offset of slot k of context c (R225). -/
def State.frameBase (s : State) (c k : Nat) : Nat := s.slotOffset c + k * s.slotBytes c

/-! Exposure commits (R230) and the CCI masters (R231) -/

/-- The register writes of an exposure set. -/
def exposureWrites (bs : Bytes) : List (Nat × Nat) :=
  (List.range (bs.length / 4)).map (fun i => (leAt bs (4 * i) 2, byteAt bs (4 * i + 2)))

/-- F_APPLY of the write that starts now (R230). -/
def State.applyNow (s : State) (c : Nat) : Nat := wrapAdd 32 (s.ctx c).frameNumber (1 + s.ctxVal c 9)

/-- The context's epochs with one of them changed. -/
def Ctx.onEpoch (x : Ctx) (n : Nat) (f : Epoch → Epoch) : Ctx :=
  { x with epochs := x.epochs.map (fun e => if e.epoch = n then f e else e) }

/-- The first write of context c's set goes out on port p. -/
def sendExposure (p c : Nat) (s : State) : State :=
  match (s.ctx c).writing with
  | some w =>
    match w.writes with
    | (r, v) :: _ =>
      emit (.cci p (s.ctxVal c 10) r [BitVec.ofNat 8 v] false) (setPort p { s.port p with job := some (.exposure c) } s)
    | [] => s
  | none => s

/-- A waiting set of context c starts to be written on port p; one that waited behind another takes its F_APPLY now. -/
def startExposure (p c : Nat) (s : State) : State :=
  let x := s.ctx c
  match x.waiting with
  | none => s
  | some w =>
    let x1 := x.onEpoch w.epoch (fun e => if e.apply.isNone then { e with apply := some (s.applyNow c) } else e)
    sendExposure p c (setCtx c { x1 with writing := some w, waiting := none } s)

/-- The raw request goes out on port p. -/
def startRaw (p : Nat) (req : Bytes) (s : State) : State :=
  let n := byteAt req 4
  emit (.cci p (byteAt req 0) (leAt req 2 2) (if byteAt req 1 = 1 then le 1 n else sliceB req 8 n) (byteAt req 1 == 1))
    (setPort p { s.port p with job := some .raw } s)

/-- The free master takes the next thing: exposure writes before raw transactions. -/
def pumpCci (p : Nat) (s : State) : State :=
  let x := s.port p
  if x.job.isSome then s
  else
    match x.queue with
    | c :: rest => startExposure p c (setPort p { x with queue := rest } s)
    | [] =>
      match x.raw with
      | some (_, req) => startRaw p req s
      | none => s

/-- Context c's waiting set may go out: it queues for its port's master. -/
def offerExposure (c : Nat) (s : State) : State :=
  let p := s.ctxVal c 2
  let x := s.port p
  if (s.ctx c).waiting.isNone || (s.ctx c).writing.isSome || x.queue.contains c then s
  else pumpCci p (setPort p { x with queue := x.queue ++ [c] } s)

/-- EXPOSURE_COMMIT's refusals. -/
def checkCommit (c : Nat) (s : State) : Nat :=
  let x := s.ctx c
  if !s.ctxOn c || !s.flag (0x7110 + s.ctxVal c 2) 1 then 0xAB090002
  else if (s.dom (0x7000 + c) 0x13 []).isEmpty then 0xAB090003
  else if 4 ≤ (x.epochs.filter (fun e => match e.apply with | none => true | some a => decide (0 < serial32 a x.frameNumber))).length then 0xAB090004
  else 0

/-- EXPOSURE_COMMIT accepted: a set accepted and not yet started is replaced, its epoch void. -/
def commitExposure (c : Nat) (s : State) : State :=
  let x := s.ctx c
  let n := wrapAdd 32 x.epoch 1
  let kept := match x.waiting with
    | some w => x.epochs.filter (fun e => e.epoch != w.epoch)
    | none => x.epochs
  let apply := if x.writing.isSome then none else some (s.applyNow c)
  let s1 := setCtx c { x with
    epoch := n, epochs := kept ++ [⟨n, apply, false⟩]
    waiting := some ⟨n, exposureWrites (s.dom (0x7000 + c) 0x13 [])⟩ } s
  if x.incoming.isNone then offerExposure c s1 else s1

/-- CCI_FAILED of port p (R233). -/
def cciFailed (p ctx status reg : Nat) (s : State) : State :=
  raise 0x0905 (0x0310 + p) ([BitVec.ofNat 8 p, BitVec.ofNat 8 ctx, BitVec.ofNat 8 status, 0] ++ le 2 reg) (portCount p 12 s)

/-- An exposure write of context c ends on port p, with a status of 2 when it went well. -/
def exposureEnded (p c status : Nat) (s : State) : State :=
  let x := s.ctx c
  let s0 := setPort p { s.port p with job := none } s
  match x.writing with
  | none => pumpCci p s0
  | some w =>
    if status = 2 ∧ 1 < w.writes.length then
      sendExposure p c (setCtx c { x with writing := some { w with writes := w.writes.drop 1 } } s0)
    else
      let x1 := { x with writing := none }
      let s1 := if status = 2 then setCtx c x1 s0
        else
          let reg := match w.writes with | (r, _) :: _ => r | [] => 0
          cciFailed p c status reg (setCtx c (x1.onEpoch w.epoch (fun e => { e with failed := true })) s0)
      pumpCci p (if (s1.ctx c).incoming.isNone then offerExposure c s1 else s1)

/-- The raw transaction of port p ends. -/
def rawEnded (p status : Nat) (data : Bytes) (s : State) : State :=
  let x := s.port p
  match x.raw with
  | none => setPort p { x with job := none } s
  | some (k, req) =>
    let s1 := setPort p { x with job := none, raw := none, result := [BitVec.ofNat 8 status, 0, 0, 0] ++ fit 16 data } s
    let s2 := if status = 2 then s1 else cciFailed p 0xFF status (leAt req 2 2) s1
    let s3 := if (s2.slot k).active then
        (if (s2.slot k).state == .aborting then endOp k .aborted (s2.slot k).abortCode s2
         else if status = 2 then endOp k .done 0 s2 else endOp k .failed 0xAB090007 s2)
      else s2
    pumpCci p s3

/-- The transaction on port p's bus ends with a status: 2 done, 3 NACK, 4 stretch timeout, 5 bus fault. -/
def cciEnded (p status : Nat) (data : Bytes) (s : State) : State :=
  match (s.port p).job with
  | none => s
  | some (.exposure c) => exposureEnded p c status s
  | some .raw => rawEnded p status data s

/-- Status and data of a result. -/
def cciStatus : CciResult → Nat × Bytes
  | .done d => (2, d)
  | .nack => (3, [])
  | .busFault => (5, [])

/-- CCI_TRANSACTION_DONE. -/
def execCciTransactionDone (dt : Nat) (port : Fin 4) (result : CciResult) (s : State) : Host.Outcome State Fault Refusal :=
  next (cciEnded port.val (cciStatus result).1 (cciStatus result).2 (advance dt s))

/-- CCI_STRETCH_TIMEOUT. -/
def execCciStretchTimeout (dt : Nat) (port : Fin 4) (s : State) : Host.Outcome State Fault Refusal :=
  next (cciEnded port.val 4 [] (advance dt s))

/-- CCI_REQUEST's refusals: its fields, then a raw transaction outstanding. -/
def checkCci (p : Nat) (req : Bytes) (s : State) : Nat :=
  if 1 < byteAt req 1 then 0xAB010005
  else if 127 < byteAt req 0 ∨ byteAt req 4 = 0 ∨ 16 < byteAt req 4 then 0xAB010005
  else if (s.port p).raw.isSome then 0xAB090006
  else 0

/-- CCI_REQUEST accepted, as the operation of slot k. -/
def requestCci (p k : Nat) (req : Bytes) (s : State) : State :=
  pumpCci p (setPort p { s.port p with raw := some (k, req), result := 1 :: zeros 19 } s)

/-! Frames (R221-R225) -/

/-- FRAME_DAMAGED. -/
def frameDamaged (c reason flags frame : Nat) (s : State) : State :=
  raise 0x0904 (0x0300 + c) ([BitVec.ofNat 8 c, BitVec.ofNat 8 reason] ++ le 2 flags ++ le 4 frame) s

/-- A frame in progress is discarded whole: its slot is freed. -/
def discardFrame (c : Nat) (tell : Bool) (s : State) : State :=
  let x := s.ctx c
  match x.incoming with
  | none => s
  | some i =>
    match i.slot with
    | none => setCtx c { x with incoming := none } s
    | some k =>
      let y := x.slot k
      let s1 := setCtx c { (x.setSlot k {}) with incoming := none } s
      if tell then frameDamaged c 1 y.tags.flags y.tags.frame s1 else s1

/-- The number a Frame Start takes, the frames missing before it, and FN_INVALID (R221). -/
def Ctx.number (x : Ctx) (mode n : Nat) : Nat × Nat × Bool :=
  let one := wrapAdd 32 x.frameNumber 1
  match x.prev with
  | none => (one, 0, false)
  | some p =>
    if mode = 1 then (one, 0, false)
    else if n = 0 ∨ n = p then (one, 0, true)
    else
      let d := if p < n then n - p else n + 65535 - p
      (wrapAdd 32 x.frameNumber d, d - 1, false)

/-- The queue of firings at a Frame Start: how many are too old, the trigger taken, and what remains (R222). -/
def takeTrigger (now window : Nat) (ts : List (Int × Nat × Nat)) : Nat × Option (Int × Nat × Nat) × List (Int × Nat × Nat) :=
  let live := ts.filter (fun t => decide (now ≤ t.2.1 + window))
  let old := ts.length - live.length
  match takeFirst (fun t => decide (t.2.1 ≤ now)) live with
  | none => (old, none, live)
  | some (t, rest) => (old, some t, rest)

/-- The epoch that frame f carries, and whether its write failed (R230). -/
def Ctx.epochAt (x : Ctx) (f : Nat) : Nat × Bool :=
  x.epochs.foldl (fun acc e =>
    match e.apply with
    | some a => if serial32 a f ≤ 0 then (e.epoch, e.failed) else acc
    | none => acc) (0, false)

/-- The epochs that frame f or a later one may carry. -/
def Ctx.prune (x : Ctx) (f : Nat) : Ctx :=
  { x with epochs := x.epochs.filter (fun e => e.epoch == (x.epochAt f).1 ||
      match e.apply with | none => true | some a => decide (0 < serial32 a f)) }

/-- A Frame Start moves on F_APPLY of a set whose last write has not ended, and EXPOSURE_SLIP tells of it. -/
def slipExposure (c : Nat) (s : State) : State :=
  let x := s.ctx c
  let one (w : Option ExpWrite) (s : State) : State :=
    match w with
    | none => s
    | some w =>
      match (x.epochs.find? (fun e => e.epoch == w.epoch)).bind (fun e => e.apply) with
      | none => s
      | some a =>
        let b := wrapAdd 32 a 1
        raise 0x0902 (0x0300 + c) ([BitVec.ofNat 8 c, 0] ++ le 2 w.epoch ++ le 4 b)
          (setCtx c ((s.ctx c).onEpoch w.epoch (fun e => { e with apply := some b })) s)
  one x.waiting (one x.writing s)

/-- The ladder entries of gallery g that govern it: in a pair, those of the even one (R236). -/
def State.ladderRows (s : State) (g : Nat) : Nat := s.val (0x3040 + 0x100 * (if s.paired g then g / 2 * 2 else g)) 2

/-- The galleries as a Frame Start finds them (R239). -/
def State.pressNow (s : State) : List PressAt :=
  (List.range 8).map (fun g => ⟨s.ladderRows g, (s.popBays g).map (fun b => (b % 64, s.colStart b, s.nozzles b))⟩)

/-- Bits of a sample of a RAW data type. -/
def rawBits (dataType : Nat) : Nat :=
  match dataType with
  | 0x2A => 8
  | 0x2B => 10
  | _ => 12

/-- A Frame Start of context c with a sensor number. -/
def frameStart (c n : Nat) (s : State) : State :=
  let s0 := slipExposure c (discardFrame c true s)
  let x := s0.ctx c
  let num := x.number (s0.ctxVal c 11) n
  let trg := takeTrigger s0.now (usT (s0.val 0x7100 5)) x.trigs
  let s1 := bumpBy (0x7000 + c) 0x20 32 trg.1 s0
  let s2 := if num.2.1 = 0 then s1
    else raise 0x0903 (0x0300 + c) ([BitVec.ofNat 8 c, 0] ++ le 2 num.2.1 ++ le 4 num.1) (bumpBy (0x7000 + c) 0x1F 32 num.2.1 s1)
  let ep := x.epochAt num.1
  let tr := if s0.ctxVal c 8 = 0xFF then none else trg.2.1
  let tags : Tags :=
    { frame := num.1, epoch := ep.1, start := s0.now, press := s0.pressNow
      trigPos := match tr with | some t => t.1 | none => 0
      trigTime := match tr with | some t => t.2.1 | none => 0
      trigAt := match tr with | some t => t.2.2 | none => 0
      flags := b2n tr.isNone + 2 * b2n num.2.2 + 32 * b2n ep.2 }
  let k := [0, 1].find? (fun k => (x.slot k).state == .free)
  let x1 := { x.prune num.1 with
    frameNumber := num.1, prev := some n, trigs := trg.2.2
    incoming := some ⟨k, n, 0, s0.clk.core⟩ }
  match k with
  | some k =>
    setCtx c (x1.setSlot k ⟨.filling, tags, s0.frameBase c k, s0.ctxVal c 5, s0.ctxVal c 6, rawBits (s0.ctxVal c 4)⟩) s2
  | none => raise 0x0901 (0x0300 + c) ([BitVec.ofNat 8 c, 0, 0, 0] ++ le 4 num.1) (ctxCount c 0x1D (setCtx c x1 s2))

/-- A packet is ignored and counted (R219). -/
def ignorePacket (p : Nat) (s : State) : State := portCount p 11 s

/-- A packet reaches port p, whose header needed a correction or not, and has its effect while the port runs (R218, R219). -/
def onPacket (p : Nat) (corrected : Bool) (f : State → State) (s : State) : State :=
  if !s.portRuns p then s else f (if corrected then portCount p 8 s else s)

/-- A packet of a virtual channel: for the context that binds it, or ignored. -/
def toContext (p vc : Nat) (f : Nat → State → State) (s : State) : State :=
  match s.ctxFor p vc with
  | none => ignorePacket p s
  | some c => f c s

/-- CSI_FRAME_START. -/
def execCsiFrameStart (dt : Nat) (port : Fin 4) (header : CsiHeader) (number : BitVec 16) (s : State) :
    Host.Outcome State Fault Refusal :=
  next (onPacket port.val header.corrected (toContext port.val header.vc.val (fun c => frameStart c number.toNat)) (advance dt s))

/-- The bytes of n samples, right-justified, in a row of w pixels (R224, R225). -/
def rowBytes (w bits : Nat) (px : List (BitVec 12)) : Bytes :=
  fit (2 * w) ((px.take w).flatMap (fun v => le 2 (v.toNat % 2 ^ bits)))

/-- One line of context c's frame. -/
def frameLine (c : Nat) (px : List (BitVec 12)) (crcOk : Bool) (s : State) : State :=
  let x := s.ctx c
  match x.incoming with
  | none => s
  | some i =>
    let x1 := { x with incoming := some { i with lines := i.lines + 1 } }
    match i.slot with
    | none => setCtx c x1 s
    | some k =>
      let y := x.slot k
      let w := y.w
      let fl := if crcOk then y.tags.flags else setBit y.tags.flags 2 true
      let fl2 := if px.length = w then fl else setBit fl 3 true
      let s1 := setCtx c (x1.setSlot k { y with tags := { y.tags with flags := fl2 } }) s
      if i.lines < y.h then resWrite (y.base + 2 * w * i.lines) (rowBytes w y.bits px) s1 else s1

/-- A long packet for context c of port p: a line of its frame, if it is of its data type and a frame is in progress. -/
def longPacket (p dataType : Nat) (px : List (BitVec 12)) (crcOk : Bool) (c : Nat) (s : State) : State :=
  if s.ctxVal c 4 ≠ dataType ∨ (s.ctx c).incoming.isNone then ignorePacket p s
  else frameLine c px crcOk (if crcOk then s else portCount p 10 s)

/-- CSI_LONG_PACKET. -/
def execCsiLongPacket (dt : Nat) (port : Fin 4) (header : CsiHeader) (dataType : Byte) (pixels : List (BitVec 12)) (crcOk : Bool)
    (s : State) : Host.Outcome State Fault Refusal :=
  next (onPacket port.val header.corrected
    (toContext port.val header.vc.val (longPacket port.val dataType.toNat pixels crcOk)) (advance dt s))

/-- LINE_AT_ROW0 as the line clock stands (R243). -/
def State.lineAtRow0 (s : State) (c : Nat) (t : Tags) : Nat :=
  let k := s.lc
  let x := t.trigPos - s.ival (0x7210 + c) 2 4
  let gap : Int := posDiff k.bInt (wrap48 x) * 4294967296 + k.bFrac
  let moved := match k.originAt with | some o => decide (t.trigAt ≤ o) | none => false
  if bitOf t.flags 0 || k.state != .run || decide (gap ≤ 0) || moved then 0xFFFFFFFF
  else usg 32 ((k.lastTick : Int) + 1 + (-gap) / (s.val 0x2100 2 : Nat))

/-- A Frame End of context c. -/
def frameEnd (c n : Nat) (s : State) : State :=
  let x := s.ctx c
  match x.incoming with
  | none => s
  | some i =>
    let s1 := match i.slot with
      | none => setCtx c { x with incoming := none } s
      | some k =>
        let y := x.slot k
        let h := y.h
        let w := y.w
        let fl := if i.lines = h then y.tags.flags else setBit y.tags.flags 4 true
        let fl2 := if n = i.number then fl else setBit fl 6 true
        let t := { y.tags with flags := fl2, end_ := s.now, endAt := s.clk.core, lineAt0 := s.lineAtRow0 c y.tags }
        let s2 := setCtx c { (x.setSlot k { y with state := .full, tags := t }) with incoming := none } s
        let s3 := if i.lines < h then resWrite (y.base + 2 * w * i.lines) (zeros (2 * w * (h - i.lines))) s2 else s2
        if fl2 &&& 0x5C = 0 then s3 else frameDamaged c 0 fl2 t.frame (ctxCount c 0x1E s3)
    offerExposure c s1

/-- A Frame End for context c of port p, if a frame is in progress. -/
def endPacket (p n c : Nat) (s : State) : State := if (s.ctx c).incoming.isNone then ignorePacket p s else frameEnd c n s

/-- CSI_FRAME_END. -/
def execCsiFrameEnd (dt : Nat) (port : Fin 4) (header : CsiHeader) (number : BitVec 16) (s : State) :
    Host.Outcome State Fault Refusal :=
  next (onPacket port.val header.corrected (toContext port.val header.vc.val (endPacket port.val number.toNat)) (advance dt s))

/-- A packet of port p with an uncorrectable header, or one that nothing acts on (R219). -/
def doDiscard (p : Nat) (why : CsiDiscard) (s : State) : State :=
  match why with
  | .uncorrectable => onPacket p false (portCount p 9) s
  | .ignored corrected => onPacket p corrected (ignorePacket p) s

/-- CSI_PACKET_DISCARDED. -/
def execCsiPacketDiscarded (dt : Nat) (port : Fin 4) (why : CsiDiscard) (s : State) : Host.Outcome State Fault Refusal :=
  next (doDiscard port.val why (advance dt s))

/-- No Frame End within FRAME_TIMEOUT: the frame is discarded, and the blanking that follows may start a write. -/
def doFrameTimeout (c : Nat) (s : State) : State :=
  match (s.ctx c).incoming with
  | none => s
  | some i =>
    if i.startAt + msCk (s.val 0x7100 6) ≤ s.clk.core then offerExposure c (discardFrame c true s) else s

/-- CAMERA_FRAME_TIMEOUT. -/
def execCameraFrameTimeout (dt : Nat) (ctx : Fin 16) (s : State) : Host.Outcome State Fault Refusal :=
  next (doFrameTimeout ctx.val (advance dt s))

/-! Write effects -/

/-- A context's ENABLE is written: with a new value, the frame it receives is discarded, and the next one takes the next number
(R221). Its other slots stay as they are: a HELD one until FREEZE 0, a FULL or PROCESSING one until the pipeline has done with it
(R225, R226). -/
def enableCtx (c v old : Nat) (s : State) : State :=
  if v = old then s
  else
    let s1 := discardFrame c false s
    setCtx c { s1.ctx c with prev := none } s1

/-- A port's ENABLE is written: the frames of its contexts in progress are discarded, and their next takes the next number. -/
def enablePort (p : Nat) (s : State) : State :=
  forEach (List.range 16) (fun c s =>
    if s.ctxVal c 2 = p then
      let s1 := discardFrame c false s
      setCtx c { s1.ctx c with prev := none } s1
    else s) s

/-- In BOOT and TEST every frame in progress is discarded (R218). -/
def dropFrames (s : State) : State := forEach (List.range 16) (fun c s => discardFrame c false s) s

/-- A pipeline parameter of context c is written (R226). -/
def pipeWritten (c : Nat) (s : State) : State := setCtx c { s.ctx c with pipeVersion := wrapAdd 32 (s.ctx c).pipeVersion 1 } s

/-- Two enabled contexts would bind one port and virtual channel (R220). -/
def State.boundTwice (s : State) (c : Nat) : Bool :=
  s.ctxOn c && (List.range 16).any (fun d => d != c && s.ctxOn d && s.ctxVal d 2 == s.ctxVal c 2 && s.ctxVal d 3 == s.ctxVal c 3)

/-- DEFECTS lies inside the frame, strictly ascending by (y, x) (R232). -/
def State.defectsOk (s : State) (c : Nat) (bs : Bytes) : Bool :=
  let n := bs.length / 4
  let key (i : Nat) : Nat := u16At bs (2 * i + 1) * 65536 + u16At bs (2 * i)
  bs.length % 4 == 0 && (List.range n).all (fun i =>
    decide (u16At bs (2 * i) < s.ctxVal c 5) && decide (u16At bs (2 * i + 1) < s.ctxVal c 6) &&
      (i == 0 || decide (key (i - 1) < key i)))

/-- FREEZE's refusal. -/
def checkFreeze (c v : Nat) (s : State) : Nat :=
  let x := s.ctx c
  if v = 1 ∧ (x.freeze || (x.slot 0).state == .held || (x.slot 1).state == .held) = true then 0xAB090005 else 0

/-- FREEZE accepted: 1 makes a hold pending; 0 releases. -/
def freezeCtx (c v : Nat) (s : State) : State :=
  let x := s.ctx c
  if v = 1 then setCtx c { x with freeze := true } s
  else
    setCtx c { x with
      freeze := false
      slots := x.slots.map (fun p => if p.2.state == .held then (p.1, { p.2 with state := .free }) else p) } s

/-! The pipeline (R226) -/

/-- A slot that the pipeline may take. -/
def State.fullSlots (s : State) : List (Nat × Nat) :=
  (List.range 16).flatMap (fun c => ([0, 1].filter (fun k => ((s.ctx c).slot k).state == .full)).map (fun k => (c, k)))

/-- The one it takes: the earliest Frame End, on a tie the lower context. -/
def State.nextSlot (s : State) : Option (Nat × Nat) :=
  s.fullSlots.foldl (fun acc p =>
    match acc with
    | none => some p
    | some q => if ((s.ctx p.1).slot p.2).tags.endAt < ((s.ctx q.1).slot q.2).tags.endAt then some p else some q) none

/-- The parameters loaded for a frame of context c. -/
def State.pipeSet (s : State) (c : Nat) : PipeSet :=
  { bayer := s.ctxVal c 7, black := le 8 (s.ctxVal c 12), defects := s.dom (0x7000 + c) 0x10 []
    shading := s.dom (0x7000 + c) 0x0E (domDefault (0x7000 + c) 0x0E), shadingOn := s.flag (0x7000 + c) 15
    wb := le 8 (s.ctxVal c 13), matrix := le 24 (s.ctxVal c 17) }

/-- The free pipeline takes a slot. -/
def doPipeStart (s : State) : State :=
  if s.pipe.active.isSome || s.sys.mode == .boot || s.sys.mode == .test then s
  else
    match s.nextSlot with
    | none => s
    | some (c, k) =>
      let x := s.ctx c
      let y := x.slot k
      let z := { y with state := FSlotState.processing, tags := { y.tags with pipeVersion := x.pipeVersion } }
      setCtx c (x.setSlot k z)
        { s with pipe := { s.pipe with active := some (c, k), set_ := some (s.pipeSet c), frame := z, takenAt := s.clk.core } }

/-- PIPELINE_FRAME_START. -/
def execPipelineFrameStart (dt : Nat) (s : State) : Host.Outcome State Fault Refusal := next (doPipeStart (advance dt s))

/-- TABLE_SWAP_NUMBER of gallery g for a line (R243). -/
def State.swapNumber (s : State) (line g : Nat) : Nat :=
  let z := (s.gal g).noz
  let after := (z.history.filter (fun w => decide (0 < serial32 w line))).length
  if line = 0xFFFFFFFF ∨ (after = z.history.length ∧ z.history.length < z.swapCount) then 0xFFFFFFFF
  else usg 32 ((z.swapCount : Int) - after)

/-- A slot's frame as the pipeline reads it. -/
def State.frameIn (s : State) (y : FSlot) (set_ : PipeSet) : FrameIn :=
  { w := y.w, h := y.h, bits := y.bits, set_ := set_
    raw := fun i j => ofLe (s.resRead (y.base + 2 * (y.w * j + i)) 2) }

/-- The condition report of a frame of context c (R241, R242). -/
def State.report (s : State) (c : Nat) (y : FSlot) (set_ : PipeSet) : Bytes :=
  let t := y.tags
  let rs := regionsOf (s.dom (0x7210 + c) 1 [])
  let f := s.frameIn y set_
  let body := (List.range rs.length).flatMap (fun i => f.result t.press (s.swapNumber t.lineAt0) i (rs.getD i (regionOf [])))
  le 4 0x52434241 ++ [1, BitVec.ofNat 8 c] ++ le 2 t.flags ++ le 4 t.frame ++ le 4 t.epoch ++ le 4 t.pipeVersion ++
    le 6 (usg 48 t.trigPos) ++ [BitVec.ofNat 8 rs.length, 0] ++ le 12 (time96 t.trigTime) ++ le 12 (time96 t.start) ++
    le 12 (time96 t.end_) ++ le 4 t.lineAt0 ++ le 4 (80 + body.length) ++ zeros 8 ++ body

/-- A report as it crosses the pair link from or to a unit that is not in control: TRIGGER_POSITION moved by d (R242, R284). -/
def reportMoved (d : Int) (r : Bytes) : Bytes := r.take 20 ++ le 6 (usg 48 (sgn 48 (leAt r 20 6) + d)) ++ r.drop 26

/-- A report goes to Curator, to egress, to the peer and to LAST_REPORT (R244, R276). -/
def deliverReport (c frame : Nat) (r : Bytes) (s : State) : State :=
  let s1 := setDom (0x7210 + c) 4 r (bump 0x7200 1 32 { s with reports := s.reports ++ [⟨r, true, (regionsOf (s.dom (0x7210 + c) 1 [])).map (·.count)⟩], lastContext := c })
  let s2 := if s1.flag (0x7210 + c) 3 then queueRecord 1 r s1 else s1
  let s3 := if s2.pair.member && 0 < s2.linkState then emit (.pair (.report (if s2.inControl then r else reportMoved (-s2.pair.delta) r))) s2 else s2
  raise 0x0A01 (0x0300 + c) ([BitVec.ofNat 8 c, 0, 0, 0] ++ le 4 frame) s3

/-- The means of the PATCH results of a report, by region: D0, D1, D2. -/
def patchMeans (r : Bytes) : List (List Nat) :=
  let rec go : Nat → Bytes → List (List Nat)
    | 0, _ => []
    | n + 1, bs =>
      let len := leAt bs 4 4
      (if byteAt bs 0 = 1 then [leAt bs 20 2, leAt bs 22 2, leAt bs 24 2] else []) :: go n (bs.drop (16 + len))
  go (byteAt r 26) (r.drop 80)

/-- A photometric calibration takes a report of its context whose FLAGS bits 2-5 are clear (R398). -/
def feedPhoto (c : Nat) (r : Bytes) (s : State) : State :=
  match s.cal.photo with
  | none => s
  | some p =>
    if p.context = c ∧ leAt r 6 2 &&& 0x3C = 0 then
      { s with cal := { s.cal with photo := some { p with frames := p.frames ++ [(patchMeans r).flatten], sinceAt := s.clk.core } } }
    else s

/-- The pipeline finishes its frame. -/
def doPipeDone (s : State) : State :=
  match s.pipe.active, s.pipe.set_ with
  | some (c, k), some set_ =>
    let x := s.ctx c
    let y := s.pipe.frame
    let px := y.w * y.h
    if s.clk.core < s.pipe.takenAt + 2400 + px then s
    else
      let r := s.report c y set_
      let x1 := x.setSlot k { x.slot k with state := if x.freeze then .held else .free }
      let s1 := setCtx c { x1 with freeze := false } (ctxCount c 0x1C { s with pipe := { s.pipe with
        active := none, set_ := none, total := wrapAdd 32 s.pipe.total 1
        recent := (s.clk.core, px) :: s.pipe.recent.filter (fun q => decide (s.clk.core < q.1 + sCk 1)) } })
      feedPhoto c r (deliverReport c y.tags.frame r s1)
  | _, _ => s

/-- PIPELINE_FRAME_DONE. -/
def execPipelineFrameDone (dt : Nat) (s : State) : Host.Outcome State Fault Refusal := next (doPipeDone (advance dt s))

/-! What the entries show (R232) -/

/-- EPOCH_STATE of context c. -/
def State.epochState (s : State) (c : Nat) : Nat :=
  let x := s.ctx c
  if x.epochs.any (fun e => e.epoch == x.epoch && e.failed) then 3
  else if x.waiting.isSome then 1
  else if x.writing.isSome then 2
  else 0

/-- F_APPLY of context c. -/
def State.fApply (s : State) (c : Nat) : Nat :=
  let x := s.ctx c
  match x.epochs.find? (fun e => e.epoch == x.epoch) with
  | some e => e.apply.getD 0xFFFFFFFF
  | none => 0

/-- SLOT_STATE of context c. -/
def State.slotState (s : State) (c : Nat) : Nat := ((s.ctx c).slot 0).state.code + 16 * ((s.ctx c).slot 1).state.code

/-- STATE of port p. The spec gives no condition for 3, so that it does not appear. -/
def State.portState (s : State) (p : Nat) : Nat :=
  if !s.portRuns p then 0
  else if (List.range 16).any (fun c => s.ctxOn c && s.ctxVal c 2 == p && (s.ctx c).incoming.isSome) then 2
  else 1

/-- PIPE_LOAD (R232). -/
def State.pipeLoad (s : State) : Nat :=
  sumN (s.pipe.recent.map (fun q => if s.clk.core < q.1 + sCk 1 then q.2 else 0)) / 1000

end Sys2Proof.Machine
end

