-- ==== Sys2Proof/Machine/Loop.lean ====
section
/-! DEFINITION. The colour loop: what it takes from condition reports, and its table updates (R252-R256). -/

namespace Sys2Proof.Machine

/-! Nozzles whose column another bay prints too (R249) -/

/-- The bay of gallery g that shares press column x with bay b. -/
def State.sharerOf (s : State) (g b x : Nat) : Option Nat :=
  (s.popBays g).find? (fun c => c != b && decide (s.colStart c ≤ x) && decide (x < s.colStart c + s.nozzles c))

/-- The nozzle that shares nozzle n's column, by nozzle index. -/
def State.partnerNozzle (s : State) (g n : Nat) : Option Nat :=
  let x := s.colStart (64 * g + n / 2048) + n % 2048
  match s.sharerOf g (64 * g + n / 2048) x with
  | none => none
  | some c => some (2048 * (c % 64) + (x - s.colStart c))

/-- The entry e of nozzle n with state st, as measured: in an overlap STITCH is set where the nozzle is MISSING and its
partner in table t is not (R249). -/
def State.judged (s : State) (g : Nat) (t : NozTable) (n e st : Nat) : Nat :=
  match s.partnerNozzle g n with
  | none => entSetState e st (entStitch e)
  | some m => entSetState e st (st == 2 && entState (t.ent m) != 2)

/-! LOOP_ENABLE (R252) -/

/-- LOOP_ENABLE's refusal. -/
def checkLoopEnable (g v : Nat) (s : State) : Nat :=
  let st := (s.gal g).noz.spareState
  if v = 1 ∧ (st == .loading || st == .armed) = true then 0xAB0A0002 else 0

/-- LOOP_ENABLE has been written: 1 takes the tables and clears the per-nozzle counters, not the reference EPOCHs (R252, R253). -/
def enableLoop (g : Nat) (s : State) : State :=
  if s.flag (0x7810 + g) 1 then setLoop g { s.loop g with owner := true, runs := [] } s else s

/-! Results of a report (R253) -/

/-- One LADDER result: its region, gallery, TABLE_SWAP_NUMBER, first nozzle, and values in nozzle order. -/
structure Ladder where
  region : Nat
  gal    : Nat
  swaps  : Nat
  first  : Nat
  vals   : List Nat
  deriving DecidableEq, Repr

/-- The values of a LADDER body of an own region of n nozzles; of the peer's report, which does not say how many there are,
all but a last 0, which pads (log entry 40). -/
def ladderVals (own : Bool) (n : Nat) (body : Bytes) : List Nat :=
  let vs := (List.range (body.length / 2)).map (fun i => leAt body (2 * i) 2)
  if own then vs.take n else if vs.getLast? == some 0 then vs.dropLast else vs

/-- The LADDER results among n results that begin at bs. -/
def laddersFrom (own : Bool) : List Nat → Nat → Bytes → List Ladder
  | _, 0, _ => []
  | ns, k + 1, bs =>
    let len := leAt bs 4 4
    let rest := laddersFrom own (ns.drop 1) k (bs.drop (16 + len))
    if byteAt bs 0 = 2 then
      ⟨byteAt bs 1, byteAt bs 2, leAt bs 8 4, leAt bs 12 4, ladderVals own (ns.headD 0) (sliceB bs 16 len)⟩ :: rest
    else rest

/-- The LADDER results of a report. -/
def Delivered.ladders (d : Delivered) : List Ladder := laddersFrom d.own d.counts (byteAt d.bytes 26) (d.bytes.drop 80)

/-- The key of the last EPOCH used of a result's context and region. -/
def Delivered.epochKey (d : Delivered) (x : Ladder) : Nat := (if d.own then 0 else 128) + 8 * byteAt d.bytes 5 + x.region

/-- Each value with its nozzle, where there is one. -/
def Ladder.usable (x : Ladder) : List (Nat × Nat) :=
  ((List.range x.vals.length).map (fun i => (x.first + i, x.vals.getD i 0xFFFF))).filter (fun p => p.2 != 0xFFFF)

/-- A report of these FLAGS may be used: bits 0 and 2-5 are clear. -/
def flagsClear (v : Nat) : Bool := v &&& 0x3D == 0

/-- The result meets the conditions of R253, but for its EPOCH. -/
def State.resultFits (s : State) (d : Delivered) (x : Ladder) (good : Nat) : Bool :=
  s.flag (0x7810 + x.gal) 1 && s.inPrint x.gal && flagsClear (leAt d.bytes 6 2) &&
    x.swaps == (s.gal x.gal).noz.swapCount && (s.loop x.gal).update == .idle && decide (s.val 0x7800 12 ≤ good)

/-! Classes and gain steps (R254, R255) -/

/-- The median, taking the lower middle value for an even count. -/
def lowerMedian (xs : List Nat) : Nat :=
  let ys := xs.mergeSort
  ys.getD ((ys.length - 1) / 2) 0

/-- The class of a value: 0 M, 1 W, 2 G, none neutral. -/
def State.classOf (s : State) (ref v : Nat) : Option Nat :=
  if v * 10000 < ref * s.val 0x7800 3 then some 0
  else if v * 10000 < ref * s.val 0x7800 4 then some 1
  else if ref * s.val 0x7800 5 ≤ v * 10000 then some 2
  else none

/-- A nozzle's run after a value of class c. -/
def nextRun (c : Option Nat) (r : Option Run) : Option Run :=
  match c, r with
  | none, _ => none
  | some k, some q => if q.cls = k then some ⟨k, clampN 255 (q.len + 1)⟩ else some ⟨k, 1⟩
  | some k, none => some ⟨k, 1⟩

/-- The state that a run sets, once it is long enough: M MISSING, W WEAK, G GOOD. -/
def State.runState (s : State) (r : Option Run) : Option Nat :=
  match r with
  | none => none
  | some q =>
    if q.cls = 0 then (if s.val 0x7800 6 ≤ q.len then some 2 else none)
    else if q.cls = 1 then (if s.val 0x7800 7 ≤ q.len then some 1 else none)
    else if s.val 0x7800 8 ≤ q.len then some 0
    else none

/-- The gain after a step, and whether the last clamp acted. A reference of 0 divides nothing: rel is then a free value. -/
def State.gainStep (s : State) (ref v gain : Nat) : Nat × Bool :=
  let e : Int := (ref : Int) - v
  let rel : Int := if ref = 0 then sgn 64 (Config.freeValue s.free).toNat else tdiv (e * 65536) ref
  let slew : Int := s.val 0x7800 2
  let step := clampI (-slew) slew (rne (rel * s.val 0x7800 1) 8)
  let want : Int := gain + rne (gain * step) 16
  let got := clampI (s.val 0x7800 9) (s.val 0x7800 10) want
  (got.toNat, got != want)

/-- What a report has changed so far: the tables' view of each gallery, and the nozzles that took their step. -/
structure LoopWork where
  table   : NozTable
  stepped : List Nat
  deriving DecidableEq, Repr

/-- The loop's event sources are the galleries'. -/
def loopEvent (code g : Nat) (arg : Bytes) (s : State) : State := raise code (0x0100 + g) arg s

/-- Nozzle n's run and state take a value. -/
def judgeNozzle (g ref : Nat) (p : Nat × Nat) (w : LoopWork × State) : LoopWork × State :=
  let s := w.2
  let x := s.loop g
  let r := nextRun (s.classOf ref p.2) (if thas x.runs p.1 then some (tget ⟨0, 0⟩ x.runs p.1) else none)
  let s1 := setLoop g { x with runs := match r with | some q => tset x.runs p.1 q | none => terase x.runs p.1 } s
  match s.runState r with
  | none => (w.1, s1)
  | some st =>
    let e := w.1.table.ent p.1
    let w1 := { w.1 with table := w.1.table.put p.1 (s.judged g w.1.table p.1 e st) }
    if entState e = st then (w1, s1)
    else (w1, bump (0x7810 + g) 5 32 (loopEvent 0x0A02 g ([BitVec.ofNat 8 g, BitVec.ofNat 8 (entState e), BitVec.ofNat 8 st, 0] ++ le 4 p.1) s1))

/-- Nozzle n takes its gain step, unless it is MISSING or has taken one in this update. -/
def stepNozzle (g ref : Nat) (p : Nat × Nat) (w : LoopWork × State) : LoopWork × State :=
  let e := w.1.table.ent p.1
  if entState e = 2 ∨ w.1.stepped.contains p.1 = true then w
  else
    let r := w.2.gainStep ref p.2 (entGain e)
    let s1 := if ref = 0 then draw w.2 else w.2
    let s2 := if r.2 then raiseLimited (sCk 1) 0x0A05 g (0x0100 + g) (argB4 g p.1) s1 else s1
    ({ table := w.1.table.put p.1 (entSetGain e r.1), stepped := p.1 :: w.1.stepped }, s2)

/-- A used result: every usable value in nozzle order, classes first, then steps. -/
def useResult (g ref : Nat) (vs : List (Nat × Nat)) (w : LoopWork × State) : LoopWork × State :=
  forEach vs (stepNozzle g ref) (forEach vs (judgeNozzle g ref) w)

/-- A result of another EPOCH than its reference clears the counters of the nozzles it covers. -/
def otherEpoch (d : Delivered) (x : Ladder) (s : State) : State :=
  let y := s.loop x.gal
  setLoop x.gal { y with
    runs := y.runs.filter (fun q => !(decide (x.first ≤ q.1) && decide (q.1 < x.first + x.vals.length)))
    epochs := tset y.epochs (d.epochKey x) (leAt d.bytes 12 4) } s

/-- One LADDER result for gallery g (R253). -/
def takeResult (d : Delivered) (x : Ladder) (w : LoopWork × State) : LoopWork × State :=
  let s := w.2
  let z := (s.gal x.gal).noz
  let sound := x.usable.filter (fun p => entState (z.active.ent p.1) != 2)
  let epochs := (s.loop x.gal).epochs
  if !s.resultFits d x sound.length then (w.1, bump (0x7810 + x.gal) 4 32 s)
  else if thas epochs (d.epochKey x) && tget 0 epochs (d.epochKey x) != leAt d.bytes 12 4 then
    (w.1, otherEpoch d x (bump (0x7810 + x.gal) 4 32 s))
  else
    let y := s.loop x.gal
    useResult x.gal (lowerMedian (sound.map (·.2))) x.usable
      (w.1, bump (0x7810 + x.gal) 3 32 (setLoop x.gal { y with epochs := tset epochs (d.epochKey x) (leAt d.bytes 12 4) } s))

/-! Updates (R256) -/

/-- The update of gallery g begins with LOAD of ID 0; a LOAD that cannot start drops it. -/
def beginUpdate (g : Nat) (changes : Tab Nat) (s : State) : State :=
  match s.freeSlot with
  | none => s
  | some k =>
    if checkLoad g false s ≠ 0 then s
    else
      let s1 := mirrorEntry (0x3021 + 0x100 * g) 1 (zeros 4) s
      let s2 := startOp k (0x3021 + 0x100 * g) 1 (nozzleBit g) (zeros 4) (beginLoad g s1)
      setLoop g { s2.loop g with update := .loading k, changes := changes } s2

/-- The entries of table t that differ from the active table's, those that have become reset entries again among them. -/
def State.changedEntries (s : State) (g : Nat) (t : NozTable) : Tab Nat :=
  let a := (s.gal g).noz.active
  (a.entries.filter (fun p => !thas t.entries p.1)).foldl (fun acc p => tset acc p.1 resetEntry)
    (t.entries.filter (fun p => p.2 != a.ent p.1))

/-- The LADDER results of one report for gallery g, and the update they begin. -/
def takeResults (d : Delivered) (g : Nat) (s : State) : State :=
  let xs := d.ladders.filter (fun x => x.gal == g)
  if xs.isEmpty then s
  else
    let w := forEach xs (takeResult d) ((⟨(s.gal g).noz.active, []⟩ : LoopWork), s)
    let ch := w.2.changedEntries g w.1.table
    if ch.isEmpty then w.2 else beginUpdate g ch w.2

/-- Curator takes the oldest report delivered; the loop uses it on a unit in control only (R252, R253). -/
def doLoopReport (s : State) : State :=
  match s.reports with
  | [] => s
  | d :: rest =>
    let s1 := { s with reports := rest }
    if s1.inControl then forEach (List.range 8) (takeResults d) s1 else s1

/-- LOOP_REPORT. -/
def execLoopReport (dt : Nat) (s : State) : Host.Outcome State Fault Refusal := next (doLoopReport (advance dt s))

/-- S_w of a loop swap armed now. -/
def State.loopSwapLine (s : State) (g : Nat) : Nat :=
  usg 32 ((s.lc.lastTick : Int) - s.barOffset g + s.lead g + s.val 0x7800 11)

/-- The changed entries go into the spare, each mirrored as an EDIT. -/
def editSpare (g : Nat) (s : State) : State :=
  forEach (s.loop g).changes (fun p s =>
    let data := le 4 p.1 ++ le 8 p.2
    editTable g data (mirrorEntry (0x3021 + 0x100 * g) 3 data s)) s

/-- The update of gallery g is completed once its LOAD is done: the spare is edited and its swap armed (R256). -/
def doLoopUpdate (g : Nat) (s : State) : State :=
  let x := s.loop g
  if x.update != .waiting then s
  else if (s.gal g).noz.spareState != .ready || !s.inControl then setLoop g { x with update := .idle } s
  else
    let line := s.loopSwapLine g
    let s1 := mirrorEntry (0x3021 + 0x100 * g) 4 (le 4 line) (editSpare g s)
    let s2 := setVal (0x7810 + g) 6 line (bump (0x7810 + g) 2 32 (armSwap g line 1 s1))
    loopEvent 0x0A03 g ([BitVec.ofNat 8 g, 0] ++ le 2 (clampN 0xFFFF x.changes.length) ++ le 4 line)
      (setLoop g { x with update := .armed } s2)

/-- LOOP_UPDATE. -/
def execLoopUpdate (dt : Nat) (g : Fin 8) (s : State) : Host.Outcome State Fault Refusal := next (doLoopUpdate g.val (advance dt s))

end Sys2Proof.Machine
end

