-- ==== Sys2Proof/Machine/Takeover.lean ====
section
/-! DEFINITION. Taking control: arbitration, contention, the takeover, and the new unit's part of a handover (R277, R278,
R288-R291). -/

namespace Sys2Proof.Machine

/-! Entering ACTIVE -/

/-- The lanes in SHADOW that meet p train from DETECT. -/
def trainShadow (p : Lane → Bool) (s : State) : State :=
  forEach (List.range 32) (fun l s =>
    if (s.lane l).train.state == .shadow && p (s.lane l) then startDetect l s else s) s

/-- A lane in SHADOW that was not in RUN under the old active trains from DETECT (R290). -/
def trainOthers (s : State) : State := trainShadow (fun x => !x.peerRun) s

/-- Lines that this unit shadowed and never sent take the fire-at that the predictor gives them, for their print records. -/
def dateLines (s : State) : State :=
  if !s.pred.valid then s
  else
    forEach (List.range 8) (fun g s =>
      let x := s.gal g
      setGal g { x with lines := x.lines.map (fun y =>
        if y.fireAt.isSome then y else { y with fireAt := some (s.fireAt g y.line), deadline := (s.deadlineOf g y.line).toNat }) } s) s

/-- The unit asserts ACTIVE_N and enters ACTIVE: the shared address is announced, the lanes take their places, and the
colour loop's counters restart at zero (R278, R295, R304). -/
def enterActive (s : State) : State :=
  let s1 := { s with
    pair := { s.pair with role := .active, activeN := true, aligned := false, alignAt := none, alignDue := none, alignSnap := none }
    loops := s.loops.map (fun p => (p.1, { p.2 with runs := [] })) }
  placeLanes (sharedUp (dateLines s1))

/-! Planning a gallery's takeover (R289) -/

/-- The first line of gallery g's own parity not before n. -/
def State.ownParity (s : State) (g n : Nat) : Nat := if s.paired g && n % 2 != g % 2 then wrapAdd 32 n 1 else n

/-- The first line of gallery g whose predicted fire-at is at or after device time t. -/
def State.firstAfter (s : State) (g : Nat) (t : Int) : Nat :=
  let trim := rne (s.regTrim g * (s.pred.p * (s.step g : Int))) 6
  s.ownParity g (usg 32 (s.pred.mPhi + ceilDiv (t - s.pred.phi - trim) s.pred.p - s.barOffset g))

/-- The last line that gallery g has computed: the newest complete one; with none, the one of the last tick. -/
def State.lastComputed (s : State) (g : Nat) : Nat :=
  match (s.gal g).lines.find? (fun y => y.drops.isSome) with
  | some y => y.line
  | none => s.ownParity g (usg 32 ((s.lc.lastTick : Int) - s.barOffset g))

/-- Core clocks of the TAKEOVER and the TIME after it on the slowest lane of gallery g: 42 and 9 symbols (R181, R291). -/
def State.takeoverCk (s : State) (g : Nat) : Nat :=
  maxN ((lanesOf g).map (fun l => (51 * s.symbolTenths l + 9) / 10))

/-- n_1: the lowest line after n whose frame, started after a TAKEOVER at device time due, can end by its deadline. -/
def State.firstFitting (s : State) (g due : Nat) : Nat → Nat → Nat
  | 0, n => n
  | k + 1, n =>
    if ((due + ckT (s.takeoverCk g + s.fullFrameCk g) : Nat) : Int) ≤ s.deadlineOf g n then n
    else s.firstFitting g due k ((n + s.step g) % 4294967296)

/-- n_1 where nothing is predicted: the lowest line from n on whose deadline, its tick n - 2, has not come. -/
def State.firstOpen (s : State) (g : Nat) : Nat → Nat → Nat
  | 0, n => n
  | k + 1, n => if s.tickPassed g n then s.firstOpen g k ((n + s.step g) % 4294967296) else n

/-- The lanes of gallery g that were in RUN under the old active, a mask; while a handover runs, those left to take over. -/
def State.takeLanes (s : State) (g done : Nat) : Nat :=
  sumN ((List.range 4).map (fun i =>
    let x := s.lane (4 * g + i)
    if x.peerRun && x.train.state == .shadow && !bitOf done (4 * g + i) then 2 ^ i else 0))

/-- The plan of gallery g at device time t: with a valid predictor and line frames, from the first line that fires at or after
t; else from the last line computed, at once. -/
def State.planTake (s : State) (g t done : Nat) (predicted : Bool) : TakePlan :=
  let held := s.pair.relinquished.isSome
  if predicted && s.pred.valid && s.inReadyPrint g then
    let n := s.firstAfter g t
    let due := (s.fireAt g n).toNat + usT 1
    ⟨n, s.firstFitting g due 64 ((n + s.step g) % 4294967296), due, s.takeLanes g done, held⟩
  else
    let n := s.lastComputed g
    let first := (n + s.step g) % 4294967296
    ⟨n, if s.inReadyPrint g then s.firstOpen g 64 first else first, t, s.takeLanes g done, held⟩

/-! The gap -/

/-- Line n of gallery g lies in the takeover gap: it fires nowhere, and its print record says so, that of a line which this unit
does not hold as well (R289, R339). -/
def markGap (g n : Nat) (s : State) : State :=
  match (s.gal g).find n with
  | none =>
    let x := s.gal g
    setGal g { x with lines := x.lines ++ [{ (s.newLine g n).because 10 with barred := 15 }] } s
  | some y => putLine g (y.because 10) s

/-- The gap's lines: those after the last line fired under the old reign and before n_1. After a RELINQUISH the modules fire
what they hold up to n_T; after a loss of power they discard n_T too (R289). -/
def State.gapLines (s : State) (g : Nat) (p : TakePlan) : List Nat :=
  let first := if p.held then p.nT + s.step g else p.nT
  let n := ((serial32 p.n1 (first % 4294967296)).toNat + s.step g - 1) / s.step g
  (List.range n).map (fun i => (first + i * s.step g) % 4294967296)

/-- Gallery g's takeover is done: its gap is counted. Where no line is printed there is none. -/
def finishTake (g : Nat) (p : TakePlan) (s : State) : State :=
  let gap := if s.inPrint g then s.gapLines g p else []
  let s1 := forEach gap (markGap g) s
  { s1 with pair := { s1.pair with
      takes := terase s1.pair.takes g
      gapLines := wrapAdd 32 s1.pair.gapLines gap.length
      lastGap := max s1.pair.lastGap gap.length } }

/-- TAKEOVER is raised once every gallery is done (R289, R297). -/
def noteTaken (s : State) : State :=
  if s.pair.takes.isEmpty then
    raise 0x0C01 0 (le 2 s.pair.reign ++ le 2 s.pair.lastGap ++ le 4 s.pair.firstN1) s
  else s

/-- Galleries whose lanes are all done finish. -/
def finishTakes (s : State) : State :=
  if s.pair.takes.isEmpty then s
  else noteTaken (forEach s.pair.takes (fun q s => if q.2.lanes = 0 then finishTake q.1 q.2 s else s) s)

/-! TAKEOVER on a lane (R213, R290) -/

/-- The lane leaves SHADOW for RUN with a TAKEOVER of line n, then TIME_SYNC twice, WAVE_MAP and HEAD_POWER (R168, R202); its bays
keep what BAY_STATE said. -/
def takeLane (l n : Nat) (s : State) : State :=
  let x := s.lane l
  let at20 := s.clk.core + msCk 20
  let prev := usg 32 ((n : Int) - s.step (l / 4))
  let s1 := setLane l { x with
    train := { x.train with state := .run, timeouts := 0, marginal := false }, moduleMarginal := false
    delay := none, linkTime := true, aliveTx := 0, aliveRx := none, badRun := 0, validAt := at20
    syncs := [], syncQueue := 2, syncDue := s.clk.core + msCk (s.val (0x5000 + l) 13), timeAt := s.clk.core
    sending := none, lastLine := some prev, lastShot := none, cancel := none, cancelShot := none, resync := false
    ctrlQueue := [], outstanding := [], peerRun := false, settingUp := false, moduleLost := none } s
  let s2 := forEach (s1.laneBays l) (fun b s =>
    setBay b { s.bay b with missing := false, statusAt := at20, reading := [] } s) s1
  sendBays l (writeModule l (sendFrame l { type := 0x20, line := n } (raiseLaneUp l s2)))

/-- TAKEOVER leaves on a lane whose gallery's moment has come; a lane that has left SHADOW since, for TEST or DISABLED, sends
nothing (R192, R198). -/
def doTakeoverLane (l : Nat) (s : State) : State :=
  let g := l / 4
  match s.pair.takes.find? (fun q => q.1 == g) with
  | none => s
  | some (_, p) =>
    if s.pair.role != .active || !bitOf p.lanes (l % 4) || decide (s.now < p.due) then s
    else
      let s1 := if (s.lane l).train.state == .shadow then takeLane l p.n1 s else s
      finishTakes { s1 with pair := { s1.pair with takes := tset s1.pair.takes g { p with lanes := setBit p.lanes (l % 4) false } } }

/-- TAKEOVER_LANE_SEND. -/
def execTakeoverLaneSend (dt : Nat) (lane : Fin 32) (s : State) : Host.Outcome State Fault Refusal :=
  next (doTakeoverLane lane.val (advance dt s))

/-- No master tick within 1 ms of t_d: what is left goes at once, from the last line computed (R289). -/
def doTickTimeout (s : State) : State :=
  if s.pair.role != .active || decide (s.now < s.pair.takeAt + usT 1000) || decide (s.pair.takeAt ≤ s.lc.lastTickAt) then s
  else
    { s with pair := { s.pair with takes := s.pair.takes.map (fun q =>
        let p := s.planTake q.1 s.now 0 false
        (q.1, { p with lanes := q.2.lanes, held := q.2.held })) } }

/-- TAKEOVER_TICK_TIMEOUT. -/
def execTakeoverTickTimeout (dt : Nat) (s : State) : Host.Outcome State Fault Refusal := next (doTickTimeout (advance dt s))

/-! Takeover (R288, R289) -/

/-- The reign that this unit takes: one more than the old, unless a handover's first TAKEOVER has already begun it. -/
def State.newReign (s : State) : Nat :=
  match s.pair.hand with
  | some h => if h.confirmed then s.pair.reign else nextReign s.pair.reign
  | none => nextReign s.pair.reign

/-- t_d: the standby takes control. -/
def takeOver (s : State) : State :=
  let done := match s.pair.hand with | some h => h.lanesDone | none => 0
  let s1 := enterActive { s with pair := { s.pair with
    reign := s.newReign, takeovers := wrapAdd 32 s.pair.takeovers 1, peerStale := true, takeAt := s.now, lastGap := 0
    hand := none, mirrorSeq := s.pair.mirrorNext.getD 0, mirrorNext := none } }
  let s2 := emit (.pair (.takeover s1.pair.reign)) (trainOthers s1)
  let takes := (List.range 8).map (fun g => (g, s2.planTake g s.now done true))
  finishTakes { s2 with pair := { s2.pair with takes := takes, firstN1 := (s2.planTake 0 s.now done true).n1 } }

/-! The new unit's part of a handover (R291) -/

/-- Lanes that still await this unit's TAKEOVER. -/
def State.lanesToTake (s : State) : Nat :=
  ((List.range 32).filter (fun l => (s.lane l).peerRun && (s.lane l).train.state == .shadow)).length

/-- The handover is over for the new unit once it is ACTIVE and every lane is taken. -/
def closeHand (s : State) : State :=
  match s.pair.hand with
  | some h => if h.taking && s.pair.role == .active && s.lanesToTake = 0 then { s with pair := { s.pair with hand := none } } else s
  | none => s

/-- The old unit has released ACTIVE_N: the new one asserts its own, and both raise HANDOVER_DONE. -/
def endHandover (h : HandPlan) (s : State) : State :=
  let s1 := enterActive { s with pair := { s.pair with
    reign := s.newReign, hand := some { h with confirmed := true }, peerStale := false
    mirrorSeq := s.pair.mirrorNext.getD 0, mirrorNext := none } }
  closeHand (raise 0x0C06 0 (le 2 s1.pair.reign ++ zeros 2 ++ le 4 h.mh) (trainOthers s1))

/-- The moment of lane l's TAKEOVER has come: 0.5 microseconds after D(n_y), or after YIELDED where no line frames go out. -/
def State.handDue (s : State) (h : HandPlan) (g : Nat) : Bool :=
  let ny := tget 0 h.ny g
  if s.inReadyPrint g then
    if s.pred.valid then decide (s.deadlineOf g ny + (nsT 500 : Int) ≤ (s.now : Int)) else s.deadlinePassed g ny
  else match h.yieldedAt with
    | some t => decide (t + nsT 500 ≤ s.now)
    | none => false

/-- The line of gallery g after which this unit takes over. -/
def State.handLine (s : State) (h : HandPlan) (g : Nat) : Nat := if s.inReadyPrint g then tget 0 h.ny g else s.lastComputed g

/-- TAKEOVER leaves on a lane in a handover; the first one begins the new reign. -/
def doHandLane (l : Nat) (s : State) : State :=
  let g := l / 4
  let x := s.lane l
  match s.pair.hand with
  | none => s
  | some h =>
    if !h.taking || !x.peerRun || x.train.state != .shadow || !s.handDue h g then s
    else
      let s1 := { s with pair := { s.pair with
        reign := s.newReign, hand := some { h with confirmed := true, lanesDone := setBit h.lanesDone l true } } }
      closeHand (takeLane l ((s.handLine h g + s.step g) % 4294967296) s1)

/-- HANDOVER_TAKEOVER_SEND. -/
def execHandoverTakeoverSend (dt : Nat) (lane : Fin 32) (s : State) : Host.Outcome State Fault Refusal :=
  next (doHandLane lane.val (advance dt s))

/-! PEER_ACTIVE_N and arbitration (R278, R288) -/

/-- Both units are asserted outside a handover: unit B gives way, and both raise ROLE_CONTENTION. -/
def contend (s : State) : State :=
  let s1 := raise 0x0C09 0 (le 1 (b2n s.unitB)) s
  if s1.unitB then enterSyncing (lanesToShadow s1) else s1

/-- The peer has asserted ACTIVE_N. -/
def peerRises (s : State) : State :=
  match s.pair.role with
  | .arbitrating => enterSyncing s
  | .active => if s.pair.hand.isSome || !s.pair.activeN then s else contend s
  | _ => s

/-- The old unit's last YIELD has left: YIELDED says so, or the moment of every gallery's TAKEOVER has come (R291; DEDUCED, log
entry 66). -/
def State.yielded (s : State) (h : HandPlan) : Bool :=
  h.yieldedAt.isSome || ((List.range 8).any (fun g => s.inReadyPrint g) &&
    (List.range 8).all (fun g => !s.inReadyPrint g || s.handDue h g))

/-- PEER_ACTIVE_N is inactive on a standby: the end of a handover whose lanes have yielded, or the loss of the old active, which is
a takeover (R288, R291). -/
def peerGone (s : State) : State :=
  match s.pair.hand with
  | some h => if h.taking && s.pair.relinquished.isNone && s.yielded h then endHandover h s else takeOver s
  | none => takeOver s

/-- The peer has released ACTIVE_N. -/
def peerFalls (s : State) : State :=
  match s.pair.role with
  | .standby => peerGone s
  | .syncing => raise 0x0C08 0 (le 1 s.pair.role.code) s
  | .stale => raise 0x0C08 0 (le 1 s.pair.role.code) s
  | .degraded => raise 0x0C08 0 (le 1 s.pair.role.code) s
  | _ => s

/-- The filtered level of PEER_ACTIVE_N changes. -/
def doPeerActive (asserted : Bool) (s : State) : State :=
  if s.pair.peerActive == asserted then s
  else
    let s1 := { s with pair := { s.pair with peerActive := asserted } }
    if asserted then peerRises s1 else peerFalls s1

/-- PEER_ACTIVE_CHANGE. -/
def execPeerActiveChange (dt : Nat) (asserted : Bool) (s : State) : Host.Outcome State Fault Refusal :=
  next (doPeerActive asserted (advance dt s))

/-- Unit B has waited ARBITRATION_WAIT with PEER_ACTIVE_N inactive: it enters ACTIVE and its lanes train (R192, R278). -/
def doArbitration (s : State) : State :=
  if s.pair.role == .arbitrating && !s.pair.peerActive && decide (s.pair.arbitrateAt + msCk (s.val 0x1200 9) ≤ s.clk.core) then
    trainShadow (fun _ => true) (enterActive s)
  else s

/-- ARBITRATION_TIMEOUT. -/
def execArbitrationTimeout (dt : Nat) (s : State) : Host.Outcome State Fault Refusal := next (doArbitration (advance dt s))

end Sys2Proof.Machine
end

