-- ==== Sys2Proof/Machine/Boot.lean ====
section
/-! DEFINITION. Resets, the ROM, the end of BOOT, fatal faults and firmware (R33, R323, R412-R425, R435-R437). -/

namespace Sys2Proof.Machine

/-! The ROM (R417-R421) -/

/-- A line of the ROM on DBG_TXD. -/
def romLine (code : Nat) (s : State) : State := emit (.romLine code) s

/-- The first check of R417 that an image in flash fails, or 0. -/
def Image.code (x : Image) : Nat :=
  if x.check ≠ 0 ∧ x.check ≤ 3 then x.check
  else if x.security < Config.securityFloor.toNat then 4
  else if x.check = 0 then 0 else 5

/-- Image n in flash: 0 A, 1 B. -/
def State.image (s : State) (n : Nat) : Image := if n = 0 then s.sys.imageA else s.sys.imageB

/-- The ROM's code for image n. -/
def State.romCode (s : State) (n : Nat) : Nat := 16 * (n + 1) + (s.image n).code

/-- The ROM reads and checks image n, and writes its line. -/
def romCheck (n : Nat) (s : State) : State :=
  let c := s.romCode n
  romLine c { s with sys := if n = 0 then { s.sys with romA := c } else { s.sys with romB := c } }

/-- Image n is the one that runs. -/
def runImage (n : Nat) (fallback : Bool) (s : State) : State :=
  { s with sys := { s.sys with running := n, runVersion := (s.image n).version, fallback := fallback } }

/-- No authentic image: the ROM halts. -/
def romHalt (s : State) : State := romLine 0xE0 { s with sys := { s.sys with halted := true } }

/-- One named image, or a halt. -/
def romOnly (n : Nat) (s : State) : State :=
  let s1 := romCheck n s
  if (s1.image n).code = 0 then runImage n false s1 else romHalt s1

/-- Steps 1 and 2 of R419: a trial that has failed three times is reverted, and one that goes on is counted. -/
def romTrial (s : State) : State :=
  let b := s.storedBoot
  let s0 := { s with sys := { s.sys with bootControl := b } }
  if !b.trial then s0
  else if b.attempts = 3 then
    writeBoot { b with preferred := 1 - b.preferred, trial := false, attempts := 0 }
      { s0 with sys := { s0.sys with
          held := s0.sys.held ++ [⟨0x0205, [BitVec.ofNat 8 b.preferred, 0, 0, 0] ++ le 4 (s.image b.preferred).version⟩] } }
  else writeBoot { b with attempts := b.attempts + 1 } s0

/-- Steps 3 and 4: the preferred image, else the other, else a halt. -/
def romSelect (s : State) : State :=
  let n := s.sys.bootControl.preferred
  let s1 := romCheck n s
  if (s1.image n).code = 0 then runImage n false s1
  else
    let s2 := romCheck (1 - n) s1
    if (s2.image (1 - n)).code = 0 then runImage (1 - n) true s2 else romHalt s2

/-- The ROM's work in this BOOT, once. -/
def runRom (s : State) : State :=
  if s.sys.romOn then s
  else
    let s1 := romLine 0 { s with sys := { s.sys with romOn := true } }
    match s.sys.straps % 4 with
    | 0 => romSelect (romTrial s1)
    | 1 => romOnly 0 { s1 with sys := { s1.sys with bootControl := s1.storedBoot } }
    | 2 => romOnly 1 { s1 with sys := { s1.sys with bootControl := s1.storedBoot } }
    | _ => romLine 0x30 { s1 with sys := { s1.sys with bootControl := s1.storedBoot } }

/-- The first check of R417 that an image's header and payload fail, or 0. -/
def imageCheck (bs : Bytes) : Nat :=
  let len := leAt bs 16 4
  if decide (bs.length < 256) || leAt bs 0 4 != 0x49464241 || byteAt bs 4 != 1 || leAt bs 6 2 != 0xB0 || byteAt bs 5 != 0 ||
      leAt bs 20 4 != 0 || !allZero (sliceB bs 152 104) || !inR 1 6291456 len || bs.length != 256 + len then 1
  else if sha256 (sliceB bs 56 32) != le 32 Config.keyHash.toNat then 2
  else if !Config.ed25519 (sliceB bs 56 32) (bs.take 88) (sliceB bs 88 64) then 3
  else if leAt bs 12 4 < Config.securityFloor.toNat then 4
  else if sha256 (bs.drop 256) != sliceB bs 24 32 then 5
  else 0

/-- An image received on DBG_RXD while the ROM waits for one. -/
def doRecovery (image : Bytes) (crc : Nat) (s : State) : State :=
  if s.sys.mode != .boot || s.sys.straps % 4 != 3 || s.sys.recovered then s
  else
    let s1 := runRom s
    if crc32c image = crc ∧ imageCheck image = 0 then
      romLine 0x31 { s1 with sys := { s1.sys with recovered := true, running := 2, runVersion := leAt image 8 4 } }
    else romLine 0x30 (romLine 0x32 s1)

/-- RECOVERY_IMAGE_RECEIVED. -/
def execRecoveryImageReceived (dt : Nat) (image : Bytes) (crc : BitVec 32) (s : State) : Host.Outcome State Fault Refusal :=
  next (doRecovery image crc.toNat (advance dt s))

/-! Resets (R33, R53, R323, R413) -/

/-- What every reset keeps: what stands outside the engine, the boot flash, the Archive's records, the levels of the pins. -/
def resetBase (cause straps : Nat) (s : State) : State :=
  { State.reset with
    pending := s.pending, out := s.out, free := s.free
    sys := { State.reset.sys with
      straps := straps, railsBad := s.sys.railsBad, clocksBad := s.sys.clocksBad, resetCause := cause, bootStart := s.clk.core
      imageA := s.sys.imageA, imageB := s.sys.imageB }
    arc := { State.reset.arc with slots := s.arc.slots, pfail := s.arc.pfail }
    encs := s.encs.map (fun p => (p.1, { ({} : Enc) with a := p.2.a, b := p.2.b }))
    probes := s.probes.map (fun p => (p.1, { ({} : Probe) with level := p.2.level }))
    gates := s.gates.map (fun p => (p.1, { ({} : Gate) with p := p.2.p, c := p.2.c }))
    pair := { State.reset.pair with peerActive := s.pair.peerActive } }

/-- A reset other than PORST_N: the always-on clock, the self-test results and the test access port go on, and the ROM starts. -/
def warmReset (cause : Nat) (s : State) : State :=
  runRom { resetBase cause s.sys.straps s with
    clk := { s.clk with stepPending := false, diverged := false }
    ptp := { ({} : Ptp) with integral := s.clk.rate }
    test := { s.test with run := none }
    tap := s.tap }

/-- PORST_N goes low; straps are the levels that are sampled at its release. -/
def coldReset (straps : Nat) (s : State) : State :=
  runRom { resetBase 0 straps s with sys := { (resetBase 0 straps s).sys with bootStart := 0 }, porstLow := true, tap := s.tap }

/-- PORST. -/
def execPorst (dt : Nat) (straps : Fin 16) (s : State) : Host.Outcome State Fault Refusal := next (coldReset straps.val (advance dt s))

/-- The RESET command's moment, or the end of a self-test, has come. -/
def doResetTakes (s : State) : State :=
  match s.sys.resetAt with
  | some t => if t ≤ s.clk.core then warmReset 2 s else s
  | none => s

/-- RESET_TAKE_EFFECT. -/
def execResetTakeEffect (dt : Nat) (s : State) : Host.Outcome State Fault Refusal := next (doResetTakes (advance dt s))

/-! Fatal faults (R435) -/

/-- A fatal fault: the SAFE latch, giving up control, and a warm reset to follow. In TEST it is a SAFE cause like any other
(R450). -/
def fatal (bit giveUpCause resetCause : Nat) (s : State) : State :=
  if s.sys.mode == .test then safeSet bit s
  else
    let s1 := safeSet bit (giveUp giveUpCause s)
    if s1.sys.fatalAt.isSome then s1
    else { s1 with sys := { s1.sys with fatalAt := some (s1.clk.core + msCk 1, resetCause) } }

/-- WATCHDOG_EXPIRY. -/
def execWatchdogExpiry (dt : Nat) (s : State) : Host.Outcome State Fault Refusal := next (fatal 8 5 3 (advance dt s))

/-- LOCKSTEP_MISMATCH. -/
def execLockstepMismatch (dt : Nat) (s : State) : Host.Outcome State Fault Refusal := next (fatal 7 1 4 (advance dt s))

/-- The warm reset 1 ms after a fatal fault. -/
def doFatalReset (s : State) : State :=
  match s.sys.fatalAt with
  | some (t, cause) => if t ≤ s.clk.core then warmReset cause s else s
  | none => s

/-- FATAL_WARM_RESET. -/
def execFatalWarmReset (dt : Nat) (s : State) : Host.Outcome State Fault Refusal := next (doFatalReset (advance dt s))

/-! The end of BOOT (R424) -/

/-- The Archive's records of the key, the excluded ranks and the analogue calibration are taken (R313, R383, R397). -/
def loadRecords (s : State) : State :=
  let s1 := match s.arcRecord 2 with
    | some (_, p) =>
      let n := p.length - 4
      { s with net := { s.net with key := p.take n, keySet := !allZero (p.take n), keyGen := leAt p n 4 } }
    | none => s
  let s2 := match s1.arcRecord 3 with
    | some (_, p) => { s1 with dram := { s1.dram with exclude := leAt p 0 4 } }
    | none => s1
  match s2.arcRecord 4 with
  | some (_, p) => { s2 with cal := { s2.cal with calibrated := true, gain := leAt p 0 4, offset := sgn 32 (leAt p 4 4), time := leAt p 8 12 } }
  | none => { s2 with cal := { s2.cal with calibrated := false, gain := Config.factoryGain.toNat, offset := Config.factoryOffset.toInt } }

/-- What the loaded parameters set going: gates, emulated encoders, colour loops, lamp chains, PTP. -/
def applyParams (s : State) : State :=
  let s1 := forEach (List.range 8) firstGateState s
  let s2 := forEach [0, 1] enableEmu s1
  let s3 := forEach (List.range 8) (fun g s => if s.flag (0x7810 + g) 1 then enableLoop g s else s) s2
  forEach (List.range 4) (fun ch s => if s.flag (0x8000 + ch) 1 then enableChain ch s else s) s3

/-- Arbitration at the end of BOOT (R277, R278). -/
def arbitrate (s : State) : State :=
  if !s.pair.member then s
  else if s.pair.peerActive then enterSyncing s
  else if !s.unitB then enterActive s
  else { s with pair := { s.pair with role := .arbitrating, arbitrateAt := s.clk.core } }

/-- The SAFE causes that are held, or that the last reset restores (R424). -/
def bootCauses (s : State) : State :=
  let set_ (c : Bool) (bit : Nat) (s : State) : State := if c then takeCause bit s else s
  let s1 := set_ (s.sys.resetCause == 3) 8 (set_ (s.sys.resetCause == 4) 7 s)
  set_ (s1.sys.clocksBad % 8 != 0) 6 (set_ (s1.sys.railsBad != 0) 5 (set_ (s1.res.capacity == 0) 4 (set_ s1.thermalHeld 3 s1)))

/-- Events that BOOT holds are raised. -/
def raiseHeld (evs : List HeldEvent) (s : State) : State := forEach evs (fun e s => raise e.code 0 e.arg s) s

/-- The self-test's event stands before BOOT_COMPLETE, the others after it (R424, R449); the DRAM channels, whose sensors have had
no report yet, start in band 1 (R388). -/
def bootEvents (trained : List Bool) (s : State) : State :=
  let y := s.sys
  let s1 := raiseHeld (y.held.filter (fun e => e.code == 0x1201)) { s with sys := { y with held := [] } }
  let s2 := raise 0x0204 0 ([BitVec.ofNat 8 y.resetCause, BitVec.ofNat 8 y.running, BitVec.ofNat 8 (y.straps % 4), BitVec.ofNat 8 (b2n y.fallback)] ++ le 4 y.bootTime) s1
  holdBand 1 (holdBand 0 (raiseUntrained trained (raiseHeld (s.badSlots ++ y.held.filter (fun e => e.code != 0x1201)) s2)))

/-- The Archive is loaded, the DRAM trained, and the engine enters IDLE. -/
def enterIdle (trained : List Bool) (s : State) : State :=
  let s1 := trainBoot trained (loadRecords (loadParams s))
  let s2 := applyParams (startClock { s1 with
    sys := { s1.sys with
      mode := .idle, modeChanges := wrapAdd 32 s1.sys.modeChanges 1, bootTime := (s1.clk.core - s1.sys.bootStart) / msCk 1 }
    pair := { s1.pair with member := s1.flag 0x1200 1 } })
  raiseMode .boot 2 (crcDefaults s2)

/-- PORST_N has risen: the pins and the test access port are the engine's again (R453). -/
def releasePins (s : State) : State := if s.porstLow then { s with porstLow := false, tap := {} } else s

/-- BOOT ends: trained says which ranks trained, by channel and rank. A halted ROM, or one that waits for an image, does not
end it. -/
def doBootComplete (trained : List Bool) (s : State) : State :=
  if s.sys.mode != .boot then s
  else
    let s0 := runRom (releasePins s)
    if s0.sys.halted || (s0.sys.straps % 4 == 3 && !s0.sys.recovered) then s0
    else
      let s1 := bootCauses (placeLanes (arbitrate (enterIdle trained s0)))
      bootEvents trained (ptpConfigured { s1 with host := { s1.host with ready := true, heartbeatAt := s1.clk.core } })

/-- BOOT_COMPLETE. -/
def execBootComplete (dt : Nat) (trained : List Bool) (s : State) : Host.Outcome State Fault Refusal :=
  next (doBootComplete trained (advance dt s))

/-! Firmware (R436, R437) -/

/-- The image that an update writes: the one that is not running; while a recovery image runs, the one not preferred. -/
def State.updateTarget (s : State) : Nat :=
  if s.sys.running = 0 then 1 else if s.sys.running = 1 then 0 else 1 - s.sys.bootControl.preferred

/-- Image n in flash becomes x. -/
def setImage (n : Nat) (x : Image) (s : State) : State :=
  { s with sys := if n = 0 then { s.sys with imageA := x } else { s.sys with imageB := x } }

/-- FW_UPDATE's own refusal: the held image is not authentic. -/
def checkFwUpdate (s : State) : Nat := if imageCheck (s.dom 0x1120 1 []) = 0 then 0 else 0xAB020007

/-- An update begins to erase: the region is not authentic until it is whole. -/
def beginFwUpdate (s : State) : State := setImage s.updateTarget { s.image s.updateTarget with check := 1 } s

/-- The last slice of the update in slot k: the region read back is right, or the flash failed. -/
def finishFwUpdate (k : Nat) (obs : SliceObs) (s : State) : State :=
  let bs := s.dom 0x1120 1 []
  if obs == .flashBad then endOp k .failed 0xAB020008 s
  else
    let n := s.updateTarget
    endOp k .done 0 (writeBoot { s.sys.bootControl with preferred := n, trial := true, attempts := 0 }
      (setImage n ⟨leAt bs 8 4, leAt bs 12 4, 0⟩ s))

/-- FW_CONFIRM's refusal. -/
def checkFwConfirm (s : State) : Nat :=
  if s.sys.bootControl.trial && s.sys.running == s.sys.bootControl.preferred then 0 else 0xAB020009

/-- FW_CONFIRM accepted. -/
def fwConfirm (s : State) : State :=
  writeBoot { s.sys.bootControl with trial := false, attempts := 0, confirmed := s.sys.runVersion } s

/-! Clocks (R412) -/

/-- A clock stands within its limits again. -/
def doClockRestored (which : ClockFault) (s : State) : State :=
  { s with sys := { s.sys with clocksBad := setBit s.sys.clocksBad (clockBit which) false } }

/-- CLOCK_RESTORED. -/
def execClockRestored (dt : Nat) (which : ClockFault) (s : State) : Host.Outcome State Fault Refusal :=
  next (doClockRestored which (advance dt s))

end Sys2Proof.Machine
end

