-- ==== Sys2Proof/Machine/Calib.lean ====
section
/-! DEFINITION. Analogue and photometric calibration, and sensors whose readings stop (R388, R394-R398). -/

namespace Sys2Proof.Machine

/-- What bars a calibration start beside its mode (R394, R404, R438). -/
def calBarred (s : State) : Nat :=
  if !s.inControl then 0xAB0C0001
  else if s.sys.shutdown then 0xAB02000A
  else if s.arc.pfail then 0xAB110007
  else 0

/-! Analogue (R396, R397) -/

/-- The reference as read with factory values lies within 2% of VREF_ACTUAL. -/
def vrefClose (vref : Nat) (d : Int) : Bool :=
  decide ((d * Config.factoryGain.toNat - vref * 16777216).natAbs * 50 ≤ vref * 16777216)

/-- A slice of CAL_ANALOGUE in slot k: once both sets are converted it ends. -/
def sliceAnalogue (k : Nat) (obs : SliceObs) (s : State) : State :=
  match obs with
  | .convert offset mean stable =>
    let vref := s.val 0x1840 1
    let d := mean - offset
    if !stable || d ≤ 0 || !vrefClose vref d then endOp k .failed 0xAB110002 s
    else
      let gain := clampN 0xFFFFFFFF (rneDiv (vref * 16777216) d).toNat
      let off := clampI (-2147483648) 2147483647 offset
      let t := time96 s.now
      endOp k .done 0 (arcWrite 4 (le 4 gain ++ le 4 (usg 32 off) ++ le 12 t ++ le 4 vref)
        { s with cal := { s.cal with calibrated := true, gain := gain, offset := off, time := t } })
  | _ => s

/-! Photometric (R398) -/

/-- Certified density k of patch i. -/
def State.certified (s : State) (i k : Nat) : Nat := leAt (le 48 (s.val 0x1850 1)) (6 * i + 2 * k) 2

/-- CAL_PHOTO's own refusals for context c. -/
def checkPhoto (c : Nat) (s : State) : Nat :=
  let n := s.val 0x1850 2
  let rs := regionsOf (s.dom (0x7210 + c) 1 [])
  if !s.ctxOn c || !(List.range n).all (fun i => (rs[i]?.map (·.kind)) == some 1) ||
      (List.range 3).any (fun k => (List.range n).all (fun i => s.certified i k == s.certified 0 k)) then 0xAB110004
  else 0

/-- round(65535 * 10^(-d / 1000)), exactly: the greatest v with (2 v - 1)^1000 * 10^d no more than 131070^1000. -/
def linearOf (d : Nat) : Nat :=
  lastTrue (fun v => v == 0 || decide ((2 * v - 1) ^ 1000 * 10 ^ d ≤ 131070 ^ 1000)) 16 0

/-- A fit lc = a lm + b, both over one denominator. -/
structure Fit where
  a   : Int
  b   : Int
  den : Int
  deriving DecidableEq, Repr

/-- The least-squares fit of (lm, lc) pairs. Equal lm have no unique fit: a is then the free value given. -/
def fitOf (ps : List (Nat × Nat)) (free : Int) : Fit :=
  let n : Int := ps.length
  let sx : Int := sumN (ps.map (·.1))
  let sy : Int := sumN (ps.map (·.2))
  let sxx : Int := sumN (ps.map (fun p => p.1 * p.1))
  let sxy : Int := sumN (ps.map (fun p => p.1 * p.2))
  let d := n * sxx - sx * sx
  if d = 0 then ⟨free * n, sy - free * sx, n⟩
  else
    let a := n * sxy - sx * sy
    ⟨n * a, sy * d - a * sx, n * d⟩

/-- The residual of one patch in 0.001 density. -/
def Fit.resid (f : Fit) (lm cert : Nat) : Nat :=
  let x := f.a * lm + f.b
  let d := if x ≤ f.den then milliLog 65535 1
    else if 65535 * f.den ≤ x then 0
    else milliLog (65535 * f.den).toNat x.toNat
  ((d : Int) - cert).natAbs

/-- The mean over the frames of density k of patch i, rounded half up. -/
def photoMean (frames : List (List Nat)) (i k : Nat) : Nat := halfUp (sumN (frames.map (fun f => f.getD (3 * i + k) 0))) (max 1 frames.length)

/-- The fit of channel k. -/
def State.photoFit (s : State) (frames : List (List Nat)) (k : Nat) : Fit :=
  fitOf ((List.range (s.val 0x1850 2)).map (fun i => (linearOf (photoMean frames i k), linearOf (s.certified i k))))
    (sgn 64 (Config.freeValue (s.free + k)).toNat)

/-- The largest residual of all channels and patches. -/
def State.photoResid (s : State) (frames : List (List Nat)) : Nat :=
  maxN ((List.range 3).flatMap (fun k => (List.range (s.val 0x1850 2)).map (fun i =>
    (s.photoFit frames k).resid (linearOf (photoMean frames i k)) (s.certified i k))))

/-- Element i of context c's MATRIX. -/
def State.matrixAt (s : State) (c i : Nat) : Int := sgn 16 (leAt (le 24 (s.ctxVal c 0x11)) (2 * i) 2)

/-- The new MATRIX: nine coefficients, then three offsets. -/
def State.photoMatrix (s : State) (frames : List (List Nat)) (c : Nat) : List Int :=
  (List.range 9).map (fun i => let f := s.photoFit frames (i / 3); rneDiv (f.a * s.matrixAt c i) f.den) ++
  (List.range 3).map (fun k => let f := s.photoFit frames k; rneDiv (f.a * s.matrixAt c (9 + k) + f.b) f.den)

/-- CAL_FRAMES reports have come: MATRIX is corrected, or the fit fails. -/
def finishPhoto (p : PhotoCal) (s : State) : State :=
  let fs := p.frames.take (s.val 0x1850 3)
  let m := s.photoMatrix fs p.context
  let r := clampN 0xFFFF (s.photoResid fs)
  let s1 := setVal 0x1850 6 r { s with cal := { s.cal with photo := none }, free := s.free + 3 }
  if m.any (fun x => x < -32768 || 32767 < x) || decide (s.val 0x1850 4 < r) then endOp p.slot .failed 0xAB110006 s1
  else
    endOp p.slot .done 0 (setVal 0x1850 7 p.context
      (pipeWritten p.context (setVal (0x7000 + p.context) 0x11 (ofLe (m.flatMap (fun x => le 2 (usg 16 x)))) s1)))

/-- A slice of CAL_PHOTO in slot k: it begins to collect, or ends once it has its reports. -/
def slicePhoto (k : Nat) (s : State) : State :=
  match s.cal.photo with
  | none => { s with cal := { s.cal with photo := some ⟨k, ofLe (s.slot k).arg, [], s.clk.core⟩ } }
  | some p => if p.slot = k ∧ s.val 0x1850 3 ≤ p.frames.length then finishPhoto p s else s

/-- An aborted CAL_PHOTO collects no more. -/
def dropPhoto (s : State) : State := { s with cal := { s.cal with photo := none } }

/-- 10 s have passed without a usable report. -/
def doPhotoTimeout (s : State) : State :=
  match s.cal.photo with
  | none => s
  | some p => if p.sinceAt + sCk 10 ≤ s.clk.core then endOp p.slot .failed 0xAB110005 (dropPhoto s) else s

/-- CAL_PHOTO_TIMEOUT. -/
def execCalPhotoTimeout (dt : Nat) (s : State) : Host.Outcome State Fault Refusal := next (doPhotoTimeout (advance dt s))

/-! SENSOR_STALE (R388) -/

/-- The readings of sensor id have stopped, by its class's condition. -/
def State.sensorStopped (s : State) (id : Nat) : Bool :=
  let n := id % 4096
  let old (ck : Nat) : Bool := decide ((s.sensor id).at_ + ck ≤ s.clk.core)
  match id / 4096 with
  | 1 => old (msCk 10) || !s.chanInService n
  | 2 => !s.running (n / 16) || !s.populated n || old (msCk (s.val (0x5000 + n / 16) 12))
  | 3 => !s.running (n / 16) || !s.populated n || old (msCk (s.val (0x5000 + n / 16) 12))
  | 4 => !s.flag (0x8100 + n) 1 || !s.native (n / 512) || (s.chain (n / 512)).state == 0
  | _ => false

/-- A sensor other than a die sensor takes UNKNOWN. -/
def doSensorStale (id : Nat) (s : State) : State :=
  if thas s.therm.sensors id && s.sensorStopped id then
    (if id / 4096 = 1 then holdBand (id % 4096) (forgetSensor id s) else forgetSensor id s)
  else s

/-- SENSOR_STALE. -/
def execSensorStale (dt : Nat) (id : BitVec 16) (s : State) : Host.Outcome State Fault Refusal :=
  next (doSensorStale id.toNat (advance dt s))

end Sys2Proof.Machine
end

