-- ==== Sys2Proof/Machine/Pair.lean ====
section
/-! DEFINITION. The pair link's messages and what a standby keeps of them (R276, R279, R281, R283-R287, R291, R293). -/

namespace Sys2Proof.Machine

/-! The image of a resynchronisation (R293) -/

/-- The mirrored entries as they stand; a command holds no value, and KEY stands apart from the values, with its KEY_GENERATION (R313). -/
def State.mirroredEntries (s : State) : List ResyncItem :=
  .entry 0x1400 1 (fit 32 s.net.key) :: .entry 0x1400 3 (le 4 s.net.keyGen) ::
    allIndices.flatMap (fun p => (p.2.filter (fun r => r.mirrored && r.acc != .cmd && r.acc != .wo)).map (fun r =>
      .entry (BitVec.ofNat 16 p.1) (BitVec.ofNat 8 r.sub) (s.entryBytes p.1 r)))

/-- The committed segments. -/
def State.imageSegments (s : State) : List ResyncItem :=
  (s.res.segs.filter (fun g => g.state == .committed)).map (fun g =>
    .segment (BitVec.ofNat 32 g.id) (BitVec.ofNat 8 g.type) (s.segBytes g))

/-- The caption queues. -/
def State.imageQueues (s : State) : List ResyncItem :=
  (List.range 64).map (fun q =>
    let c := s.queue q
    .captions (Fin.ofNat 64 q) (BitVec.ofNat 32 c.base) (BitVec.ofNat 32 c.next) (c.tiles.map (fun t => (BitVec.ofNat 32 t.1, t.2))))

/-- One nozzle table. -/
def tableItem (g : Nat) (spare : Bool) (st : SpareState) (swaps : Nat) (t : NozTable) : ResyncItem :=
  .table (Fin.ofNat 8 g) spare (Fin.ofNat 4 st.code) (BitVec.ofNat 32 t.source) (BitVec.ofNat 32 swaps)
    (t.entries.map (fun e => (Fin.ofNat 131072 e.1, BitVec.ofNat 64 e.2)))

/-- Both nozzle tables of every gallery, and a swap that is armed. -/
def State.imageTables (s : State) : List ResyncItem :=
  (List.range 8).flatMap (fun g =>
    let z := (s.gal g).noz
    [tableItem g false z.spareState z.swapCount z.active, tableItem g true z.spareState z.swapCount z.spare] ++
    (match z.swap with
      | some w => if w.done then [] else [.swap (Fin.ofNat 8 g) (BitVec.ofNat 32 w.line) (Fin.ofNat 2 w.owner)]
      | none => []))

/-- The live plans. -/
def State.imagePlans (s : State) : List ResyncItem :=
  let item (armed : Bool) (p : Plan) : ResyncItem := .plan armed (BitVec.ofNat 32 p.id) (BitVec.ofNat 32 p.base) (BitVec.ofNat 32 p.switch)
  s.plans.active.toList.map (item false) ++ s.plans.armed.toList.map (item true)

/-- The whole image, from the mirror sequence that follows it to its end. -/
def State.resyncImage (s : State) : List ResyncItem :=
  [.start (BitVec.ofNat 32 s.pair.mirrorSeq),
    .mode (BitVec.ofNat 8 s.sys.mode.code) (BitVec.ofNat 8 s.sys.printing) (BitVec.ofNat 32 s.sys.causes)] ++
  s.mirroredEntries ++ s.imageSegments ++ s.imageQueues ++ s.imageTables ++ s.imagePlans ++
  ((List.range 512).filter s.populated).map (fun b => .bay (Fin.ofNat 512 b) (s.bayState b)) ++ [.finish]

/-! HEARTBEAT (R279) -/

/-- A heartbeat leaves on pair-link lane i in RUN, 10 microseconds after the last. -/
def doHeartbeat (i : Nat) (s : State) : State :=
  let k := 32 + i
  let x := s.lane k
  if !s.running k || decide (s.clk.core < x.beatAt + usCk 10) then s
  else
    emit (.pair (.heartbeat i s.pair.role.code s.pair.reign s.sys.mode.code s.lc.lastTick s.pair.confirmed))
      (setLane k { x with beatAt := s.clk.core } s)

/-- HEARTBEAT_SEND. -/
def execHeartbeatSend (dt : Nat) (lane : Fin 2) (s : State) : Host.Outcome State Fault Refusal :=
  next (doHeartbeat lane.val (advance dt s))

/-- The image of a resynchronisation goes to the peer, and it is aligned anew. -/
def sendImage (s : State) : State :=
  emit (.pair (.resync s.resyncImage)) { s with pair := { s.pair with alignAt := none, imageAt := some s.clk.core } }

/-- The peer that resynchronises shows by its heartbeats that no image has reached it: it goes out again, MIRROR_TIMEOUT after the
last (DESIGN CHOICE, log entry 67: the spec names no message that asks for it). -/
def State.imageDue (s : State) : Bool :=
  s.pair.peerConfirmed == 0xFFFFFFFF &&
    match s.pair.imageAt with
    | none => true
    | some t => decide (t + msCk (s.val 0x1200 8) ≤ s.clk.core)

/-- What an active unit does as its peer's role changes: a standby confirms again and is aligned anew, one that resynchronises
gets the image, one that has left shadowing is STALE to it. -/
def peerBecomes (old new : Nat) (s : State) : State :=
  if s.pair.role != .active then s
  else if old == new then (if (new = 3 ∨ new = 5) ∧ s.imageDue = true then sendImage s else s)
  else if new = 4 then { s with pair := { s.pair with peerStale := false, alignAt := none } }
  else
    let s1 := { s with pair := { s.pair with peerStale := true } }
    if new = 3 ∨ new = 5 then sendImage s1 else s1

/-- A heartbeat of the peer: role, reign, mode, LAST_TICK and the last sequence it confirmed. A unit that is not in control
takes the reign of the active (R278, R289). -/
def doHeard (role reign mode tick confirmed : Nat) (s : State) : State :=
  if s.linkState = 0 then s
  else
    let p := s.pair
    let follows := role == 2 && (p.role == .arbitrating || p.role == .syncing || p.role == .standby || p.role == .stale) && p.hand.isNone
    peerBecomes p.peerRole role { s with pair := { p with
      peerRole := role, peerReign := reign, peerMode := mode, peerTick := tick, peerConfirmed := confirmed
      heartbeatAt := s.clk.core, heartbeatLost := false, reign := if follows then reign else p.reign
      relinquished := if role = 2 then none else p.relinquished } }

/-- HEARTBEAT_RECEIVED. -/
def execHeartbeatReceived (dt : Nat) (role : Byte) (reign : BitVec 16) (mode : Byte) (tick confirmed : BitVec 32) (s : State) :
    Host.Outcome State Fault Refusal :=
  next (doHeard role.toNat reign.toNat mode.toNat tick.toNat confirmed.toNat (advance dt s))

/-- Three heartbeats in a row are missing on every lane. -/
def doHeartbeatLost (s : State) : State :=
  if s.pair.peerRole = 0xFF ∨ s.pair.heartbeatLost ∨ s.clk.core < s.pair.heartbeatAt + usCk 30 then s
  else raise 0x0C03 0 [BitVec.ofNat 8 s.pair.role.code, BitVec.ofNat 8 s.linkState] { s with pair := { s.pair with heartbeatLost := true } }

/-- HEARTBEAT_LOST. -/
def execHeartbeatLost (dt : Nat) (s : State) : Host.Outcome State Fault Refusal := next (doHeartbeatLost (advance dt s))

/-! Staleness (R281) -/

/-- The link has been down on every lane for MIRROR_TIMEOUT. -/
def doLinkDownTimeout (s : State) : State :=
  match s.pair.downAt with
  | none => s
  | some t => if t + msCk (s.val 0x1200 8) ≤ s.clk.core then becomeStale 1 s else s

/-- PAIR_LINK_DOWN_TIMEOUT. -/
def execPairLinkDownTimeout (dt : Nat) (s : State) : Host.Outcome State Fault Refusal := next (doLinkDownTimeout (advance dt s))

/-! What the peer tells (R276, R283, R285) -/

/-- A message of the peer arrives, while the link carries messages. -/
def onPair (f : State → State) (s : State) : State := if s.linkState = 0 then s else f s

/-- A condition report of the peer joins those the colour loop looks at. -/
def takeReport (r : Bytes) (s : State) : State :=
  { s with reports := s.reports ++ [⟨if s.inControl then r else reportMoved s.pair.delta r, false, []⟩] }

/-- REPORT_RECEIVED. -/
def execReportReceived (dt : Nat) (report : Bytes) (s : State) : Host.Outcome State Fault Refusal :=
  next (onPair (takeReport report) (advance dt s))

/-- The identity state a code names. -/
def idStateOf (n : Nat) : IdState :=
  match n with
  | 1 => .accepted
  | 2 => .overridden
  | 3 => .disabled
  | 4 => .noAnswer
  | _ => .notRead

/-- A unit that is not in control holds the active's BAY_STATE of a bay, and of an accepted record its coefficients (R209). -/
def takeBay (b : Nat) (t : Sys2Proof.BayState) (s : State) : State :=
  if s.inControl then s
  else
    let l := b / 16
    let s1 := if t.idState.toNat = 1 then takeCoefficients b t.record s else s
    setLane l { s1.lane l with caps := t.caps.toNat, peerRun := t.lane.toNat == 5 }
      (setBay b { s.bay b with
        idState := idStateOf t.idState.toNat, record := t.record, accepted := if t.idState.toNat = 1 then t.record else (s.bay b).accepted
        temp := t.temp.toInt, supply := t.supply.toNat, band := t.band.toNat, trim := t.trim.toNat, inkCold := t.inkCold } s1)

/-- BAY_STATE_RECEIVED. -/
def execBayStateReceived (dt : Nat) (bay : Fin 512) (st : Sys2Proof.BayState) (s : State) : Host.Outcome State Fault Refusal :=
  next (onPair (takeBay bay.val st) (advance dt s))

/-- A starvation decision of the active stands in place of this unit's own. -/
def takeDecision (q i : Nat) (starved : Bool) (s : State) : State :=
  if s.pair.role != .standby then s
  else
    let c := s.queue q
    let was := tget false c.decided i
    let c1 := { c with decided := tset c.decided i starved }
    setQueue q (if starved && !was then { c1 with starved := wrapAdd 32 c.starved 1, lastStarved := i } else c1) s

/-- DECISION_RECEIVED. -/
def execDecisionReceived (dt : Nat) (q : Fin 64) (inst : BitVec 32) (starved : Bool) (s : State) : Host.Outcome State Fault Refusal :=
  next (onPair (takeDecision q.val inst.toNat starved) (advance dt s))

/-- A digest of the active: it is compared with this unit's own line, or waits for it (R285). -/
def takeDigest (g n crc : Nat) (s : State) : State :=
  if s.pair.role != .standby then s
  else
    let s1 := { s with pair := { s.pair with digests := ⟨g, n, crc⟩ :: s.pair.digests.filter (fun d => !(d.gal == g && d.line == n)) } }
    match (s.gal g).find n with
    | none => s1
    | some y =>
      match y.drops with
      | some t => compareDigest g y (dropBytes t) s1
      | none => s1

/-- DIGEST_RECEIVED. -/
def execDigestReceived (dt : Nat) (g : Fin 8) (line crc : BitVec 32) (s : State) : Host.Outcome State Fault Refusal :=
  next (onPair (takeDigest g.val line.toNat crc.toNat) (advance dt s))

/-- RELINQUISH_RECEIVED: the peer has given up control, with a cause and the last line sent of each gallery (R287). -/
def execRelinquishReceived (dt : Nat) (cause : Byte) (lines : List (BitVec 32)) (s : State) : Host.Outcome State Fault Refusal :=
  next (onPair (fun s => { s with pair := { s.pair with relinquished := some (cause.toNat, lines.map (·.toNat)) } }) (advance dt s))

/-- A TAKEOVER notice of a higher reign makes an active unit give up control (R278, R286). -/
def takeNotice (reign : Nat) (s : State) : State :=
  if s.pair.role == .active && 0 < sgn 16 (usg 16 ((reign : Int) - s.pair.reign)) then giveUp 8 s else s

/-- TAKEOVER_NOTICE_RECEIVED. -/
def execTakeoverNoticeReceived (dt : Nat) (reign : BitVec 16) (s : State) : Host.Outcome State Fault Refusal :=
  next (onPair (takeNotice reign.toNat) (advance dt s))

/-! A handover as the new unit hears of it (R291) -/

/-- HANDOVER names M_h: a standby confirms it and takes n_y; any other unit refuses. -/
def takeHandover (mh : Nat) (s : State) : State :=
  if s.pair.role != .standby then emit (.pair (.confirm mh 0xAB0C0002)) s
  else
    emit (.pair (.confirm mh 0)) { s with pair := { s.pair with
      relinquished := none
      hand := some { mh := mh, ny := (List.range 8).map (fun g => (g, s.lastOldLine g mh)), taking := true, lanesDone := 0
                     confirmed := false, yieldedAt := none, slot := 0 } } }

/-- HANDOVER_RECEIVED. -/
def execHandoverReceived (dt : Nat) (mh : BitVec 32) (s : State) : Host.Outcome State Fault Refusal :=
  next (onPair (takeHandover mh.toNat) (advance dt s))

/-- YIELDED: the old unit's last YIELD has left. -/
def takeYielded (s : State) : State :=
  match s.pair.hand with
  | some h => if h.taking then { s with pair := { s.pair with hand := some { h with yieldedAt := some s.now } } } else s
  | none => s

/-- YIELDED_RECEIVED. -/
def execYieldedReceived (dt : Nat) (s : State) : Host.Outcome State Fault Refusal := next (onPair takeYielded (advance dt s))

/-! Time over the pair link (R284) -/

/-- The unit follows its peer's time. -/
def State.followsTime (s : State) : Bool :=
  s.pair.role == .syncing || s.pair.role == .standby || s.pair.role == .stale

/-- This unit's time stands o units of 2^-16 ns after the active's: at the first lock, or on a unit that is not STANDBY where the
active has stepped since, the counter steps; a STANDBY's steps come mirrored (R327), and until that of a new epoch has come its
offset is not one. After that only RATE moves, by a law that the spec does not give: a free value within the servo's limits. -/
def takeOffset (o : Int) (epoch : Nat) (s : State) : State :=
  if !s.pair.timeLocked || (s.clk.epoch != epoch && s.pair.role != .standby) then
    stepTo (-o * 4294967296) epoch { s with pair := { s.pair with timeLocked := true, timeOffset := 0 } }
  else if s.clk.epoch != epoch then s
  else
    let rate := clampI (-rateMax) rateMax (sgn 64 (Config.freeValue s.free).toNat)
    draw { s with clk := { s.clk with rate := rate }, pair := { s.pair with timeOffset := psOf o } }

/-- A TIME_SYNC of the active with T1 and, once known, DELAY: it is answered with T2 and T3, and followed. -/
def takeTimeSync (t1 : Nat) (delay : Option Nat) (epoch : Nat) (s : State) : State :=
  if !s.followsTime then s
  else
    let s1 := emit (.pair (.delayResp s.now s.now)) s
    match delay with
    | none => s1
    | some d => takeOffset ((s.now : Int) - t1 - d) epoch s1

/-- PAIR_LINK_TIME_SYNC_RECEIVED. -/
def execPairLinkTimeSyncReceived (dt : Nat) (t1 : Nat) (delay : Option Nat) (epoch : Fin 16) (s : State) : Host.Outcome State Fault Refusal :=
  next (onPair (takeTimeSync t1 delay epoch.val) (advance dt s))

/-! ALIGN (R284) -/

/-- An active unit aligns its peer: at entry to STANDBY or to a resynchronisation, at each ORIGIN, and every second. -/
def State.alignNow (s : State) : Bool :=
  s.pair.role == .active && 0 < s.linkState && (s.pair.peerRole == 3 || s.pair.peerRole == 4 || s.pair.peerRole == 5) &&
    match s.pair.alignAt with
    | none => true
    | some t => decide (t + sCk 1 ≤ s.clk.core)

/-- ALIGN names t_a, at least 1 ms ahead; how much more is a free value. -/
def doAlignSend (s : State) : State :=
  if !s.alignNow then s
  else
    let ta := s.now + usT 1000 + (Config.freeValue s.free).toNat
    emit (.pair (.align ⟨ta, none⟩)) (draw { s with pair := { s.pair with alignAt := some s.clk.core, alignDue := some ta } })

/-- ALIGN_SEND. -/
def execAlignSend (dt : Nat) (s : State) : Host.Outcome State Fault Refusal := next (doAlignSend (advance dt s))

/-- What this unit finds at the raw time k: channel 0's position from the edge history, and the line clock and the emulated encoders
as they stood last before it. -/
def State.alignValues (s : State) (k : Nat) : AlignValues :=
  { s.pair.alignHeld.getD s.clockValues with position := s.positionAt k }

/-- t_a has passed and the encoder filter delay after it: this unit takes its values, and the active sends them. -/
def doAlignPoint (s : State) : State :=
  match s.pair.alignDue with
  | none => s
  | some ta =>
    let k := s.clk.core - ((s.now - ta) * 6 + 327679) / 327680
    if decide (s.now < ta) || decide (s.clk.core < k + s.encCfg 0 2 + 2) then s
    else
      let v := s.alignValues k
      let s1 := draw { s with pair := { s.pair with alignDue := none, alignSnap := some (ta, v), alignHeld := none } }
      if s1.pair.role == .active then emit (.pair (.align ⟨ta, some v⟩)) s1 else s1

/-- ALIGN_POINT. -/
def execAlignPoint (dt : Nat) (s : State) : Host.Outcome State Fault Refusal := next (doAlignPoint (advance dt s))

/-- Emulated encoder i takes the active's accumulator and output of t_a, and what it has itself counted since. -/
def alignEmu (i : Nat) (acc out acc0 out0 : Int) (s : State) : State :=
  let e := tget ({} : Emu) s.emus i
  { s with emus := tset s.emus i { e with acc := acc + (e.acc - acc0), out := out + (e.out - out0) } }

/-- Positions of the active that this unit keeps move by d: compare targets and probe windows. -/
def shiftPositions (d : Int) (s : State) : State :=
  let move (idx sub : Nat) (s : State) : State := setVal idx sub (usg 48 (wrap48 (s.ival idx sub 6 + d))) s
  if d = 0 then s
  else
    forEach (List.range 4) (fun p s => move (0x2040 + p) 5 (move (0x2040 + p) 4 s))
      (forEach (List.range 16) (fun u s => move (0x2080 + u) 2 s) s)

/-- Positions kept so far were converted by the delta that stood then, but for those of a unit that has just handed over, which
are its own. -/
def reconvert (d : Int) (s : State) : State :=
  if s.pair.aligned || s.pair.role != .standby then shiftPositions (d - s.pair.delta) s else s

/-- The unit aligns: delta, and the line clock and emulated encoders of the active at t_a with this unit's motion since (R284). -/
def align (v own : AlignValues) (s : State) : State :=
  let d := wrap48 (own.position - v.position)
  let c := s.lc
  let moved (theirs mine now : Int) : Int := wrap48 (theirs + d + (now - mine))
  let c1 := { c with
    hwm := moved v.hwm own.hwm c.hwm, bInt := moved v.bInt own.bInt c.bInt, bFrac := v.bFrac.toNat
    lastTick := usg 32 ((v.tick.toNat : Int) + serial32 c.lastTick own.tick.toNat) }
  alignEmu 1 v.acc1 v.out1 own.acc1 own.out1 (alignEmu 0 v.acc0 v.out0 own.acc0 own.out0
    (let s1 := reconvert d s
     { s1 with lc := c1, pair := { s1.pair with delta := d, aligned := true } }))

/-- Tick number and boundary agree after conversion. -/
def State.agrees (s : State) (v own : AlignValues) : Bool :=
  own.tick == v.tick && own.bFrac == v.bFrac && own.bInt == wrap48 (v.bInt + s.pair.delta)

/-- The active's values of t_a: the first alignment, or a check of it that re-aligns where they differ. -/
def takeAlign (ta : Nat) (v : AlignValues) (s : State) : State :=
  match s.pair.alignSnap with
  | none => s
  | some (t, own) =>
    if t ≠ ta then s
    else if !s.pair.aligned then align v own s
    else if s.agrees v own then s
    else align v own { s with pair := { s.pair with mismatches := wrapAdd 32 s.pair.mismatches 1 } }

/-- An ALIGN of the active arrives. -/
def doAlign (m : AlignMsg) (s : State) : State :=
  if !s.followsTime then s
  else match m.values with
    | none => { s with pair := { s.pair with alignDue := some m.ta } }
    | some v => takeAlign m.ta v (doAlignPoint s)

/-- ALIGN_RECEIVED. -/
def execAlignReceived (dt : Nat) (msg : AlignMsg) (s : State) : Host.Outcome State Fault Refusal :=
  next (onPair (doAlign msg) (advance dt s))

end Sys2Proof.Machine
end

