-- ==== Sys2Proof/Machine/SelfTest.lean ====
section
/-! DEFINITION. The self-test, what ends it early, and the test access port (R441-R453). -/

namespace Sys2Proof.Machine

/-! Starting (R442, R443) -/

/-- SELFTEST's refusals: a unit that R294 bars, a shutdown, the mask, a long operation. -/
def checkSelftest (mask : Nat) (s : State) : Nat :=
  if s.sys.mode != .idle || !(s.inControl || s.pair.role == .degraded) then 0xAB020001
  else if s.sys.shutdown then 0xAB02000A
  else if mask = 0 ∨ 8192 ≤ mask then 0xAB010005
  else if slotIds.any (fun k => (s.slot k).active) then 0xAB010007
  else 0

/-- SELFTEST accepted: TEST follows within 1 ms of the response. -/
def startSelftest (mask : Nat) (s : State) : State :=
  { s with test := { s.test with
      run := some { mask := mask, entered := false, due := s.clk.core + msCk 1, started := 0, phase := 0, done := 0 } } }

/-- What TEST stops: the line clock, the compare units, cameras, lanes, ACTIVE_N, both routes, the Ethernet ports and the host
port (R64, R80, R192, R443). -/
def stopForTest (s : State) : State :=
  let s1 := forEach (List.range 16) (fun c s => discardFrame c false s) (disarmAll (haltClock s))
  let s2 := placeLanes { s1 with pair := { s1.pair with activeN := false }, host := { s1.host with ready := false } }
  let s3 := netLink 1 0 (netLink 0 0 s2)
  if bitOf s3.sys.straps 2 then
    resetPort 2 (if s3.val 0xA000 3 = 0 then s3 else raise 0x0F02 2 [0, 0] (setVal 0xA000 4 0 (setVal 0xA000 3 0 s3)))
  else s3

/-- The engine enters TEST; a request that has moved it out of IDLE since leaves no test to run. -/
def doTestEnter (s : State) : State :=
  match s.test.run with
  | none => s
  | some r =>
    if r.entered then s
    else if s.sys.mode != .idle then { s with test := { s.test with run := none } }
    else
      let s1 := stopForTest (changeMode .test 0 0 s)
      { s1 with test := { s1.test with domains := [], run := some { r with entered := true, started := r.due } } }

/-- SELFTEST_ENTER. -/
def execSelftestEnter (dt : Nat) (s : State) : Host.Outcome State Fault Refusal := next (doTestEnter (advance dt s))

/-! The run (R444-R448) -/

/-- The domains of a phase; phase 0 is the set-up. -/
def phaseDomains : Nat → List Nat
  | 1 => [0, 1, 2, 3, 4, 5, 6, 7]
  | 2 => [8, 9, 10]
  | 3 => [11]
  | 4 => [12]
  | _ => []

/-- How long a phase lasts, in ms. -/
def phaseMs : Nat → Nat
  | 0 => 50
  | 1 => 850
  | 2 => 300
  | 3 => 570
  | _ => 30

/-- Phase p has a selected domain, or is the set-up. -/
def TestRun.runs (r : TestRun) (p : Nat) : Bool := p == 0 || (phaseDomains p).any (bitOf r.mask)

/-- The core clock at which the present phase ends. -/
def TestRun.phaseEnd (r : TestRun) : Nat := r.started + msCk (sumN (((List.range (r.phase + 1)).filter r.runs).map phaseMs))

/-- The expected hallmark of domain d (R445). -/
def expectedHallmark (d : Nat) : Nat :=
  if d < 8 then 0x3C1A77E2
  else match d with
    | 8 => 0x91D40B6F
    | 9 => 0x5E38C4A1
    | 10 => 0xA70F2D93
    | 11 => 0x0C6BE518
    | _ => Config.archiveHallmark.toNat

/-- Slots of the Archive whose MAGIC matches but which are not valid (R447). -/
def State.invalidSlots (s : State) : Nat :=
  (s.arc.slots.filter (fun p => match p.2 with | .invalid _ => true | _ => false)).length

/-- The outcome of domain d (R448). -/
def State.domainState (s : State) (d : Nat) (r : DomainResult) : DomState :=
  let mem := r.address.toNat == 0xFFFFFFFF
  let hit := r.hallmark.toNat == expectedHallmark d
  { status := if hit && mem then 1 else 2
    hallmark := r.hallmark.toNat, logic := hit || d == 12, memory := mem, address := r.address.toNat
    element := if d = 12 then s.invalidSlots % 256 else if mem then 0 else r.element.toNat }

/-- The domains of the phase that has ended take their outcomes. -/
def takeResults13 (r : TestRun) (results : List DomainResult) (s : State) : State :=
  forEach ((phaseDomains r.phase).filter (bitOf r.mask)) (fun d s =>
    { s with test := { s.test with domains := tset s.test.domains d (s.domainState d (results.getD d ⟨0, 0, 0⟩)) } }) s

/-- Domains with STATUS 2, a mask. -/
def SelfTest.failures (x : SelfTest) : Nat := sumN (x.domains.map (fun p => if p.2.status = 2 then 2 ^ p.1 else 0))

/-- SELFTEST_DONE (R451). -/
def SelfTest.event (x : SelfTest) : HeldEvent :=
  ⟨0x1201, le 2 x.mask ++ le 2 x.failed ++ [BitVec.ofNat 8 x.status, BitVec.ofNat 8 x.stop]⟩

/-- The run ends, complete or stopped: its results are held and the engine resets (R449, R450). -/
def endTest (r : TestRun) (status stop cause : Nat) (s : State) : State :=
  let x := { s.test with
    status := status, mask := r.mask, failed := s.test.failures, duration := (s.clk.core - r.started) / msCk 1
    count := wrapAdd 32 s.test.count 1, stop := stop, run := none }
  let s1 := warmReset cause { s with test := x }
  { s1 with sys := { s1.sys with held := x.event :: s1.sys.held } }

/-- The present phase ends: the next one with a selected domain starts, or the run is complete. -/
def doPhaseEnd (results : List DomainResult) (s : State) : State :=
  match s.test.run with
  | none => s
  | some r =>
    if !r.entered || decide (s.clk.core < r.phaseEnd) then s
    else
      let s1 := takeResults13 r results s
      match ([1, 2, 3, 4].filter (fun p => decide (r.phase < p))).find? r.runs with
      | some p => { s1 with test := { s1.test with run := some { r with phase := p } } }
      | none => endTest r 1 0 2 s1

/-- SELFTEST_PHASE_END. -/
def execSelftestPhaseEnd (dt : Nat) (results : List DomainResult) (s : State) : Host.Outcome State Fault Refusal :=
  next (doPhaseEnd results (advance dt s))

/-- A run that has been entered stops for a cause and ends in a reset; otherwise f. -/
def orStop (stop cause : Nat) (f : State → State) (s : State) : State :=
  match s.test.run with
  | some r => if r.entered then endTest r 2 stop cause s else f s
  | none => f s

/-- RESET_PIN: RESET_N low (R413, R450). -/
def execResetPin (dt : Nat) (s : State) : Host.Outcome State Fault Refusal := next (orStop 3 1 (warmReset 1) (advance dt s))

/-! Supply and clock faults (R408, R412, R434, R450) -/

/-- A rail has stood outside its window for 10 microseconds. -/
def doSupplyFault (rail mv : Nat) (s : State) : State :=
  let s1 := noteRail rail mv { s with sys := { s.sys with railsBad := setBit s.sys.railsBad rail true } }
  if s1.sys.mode == .boot then s1 else orStop 1 2 (fun s => safeSet 5 (giveUp 4 s)) s1

/-- SUPPLY_FAULT. -/
def execSupplyFault (dt : Nat) (rail : Fin 10) (mv : Nat) (s : State) : Host.Outcome State Fault Refusal :=
  next (doSupplyFault rail.val mv (advance dt s))

/-- A clock is lost or out of its limits. The Ethernet and PCIe clocks bring down their own links only. -/
def doClockFault (which : ClockFault) (s : State) : State :=
  let s1 := { s with sys := { s.sys with clocksBad := setBit s.sys.clocksBad (clockBit which) true } }
  match which with
  | .enref => netLink 1 0 (netLink 0 0 s1)
  | .peref => doHostLink 0 0 false s1
  | _ => if s1.sys.mode == .boot then s1 else orStop 2 2 (fun s => safeSet 6 (giveUp 3 s)) s1

/-- CLOCK_FAULT. -/
def execClockFault (dt : Nat) (which : ClockFault) (s : State) : Host.Outcome State Fault Refusal :=
  next (doClockFault which (advance dt s))

/-! The test access port (R452, R453) -/

/-- The TAP takes a new content. -/
def setTap (x : Tap) (s : State) : State := { s with tap := x }

/-- BYPASS, or an instruction that acts as it: one bit, 0 once captured; the pins are the engine's. -/
def tapBypass (s : State) : State := setTap { s.tap with ir := .bypass, shiftOut := [0], pins := .engine } s

/-- An instruction that takes the pins acts while PORST_N is low, and else as BYPASS. -/
def tapTake (ir : TapIr) (pins : PinOwner) (shiftOut : Bytes) (s : State) : State :=
  if s.porstLow then setTap { s.tap with ir := ir, pins := pins, shiftOut := shiftOut } s else tapBypass s

/-- What the boundary register captures. -/
def State.capture (s : State) : Bytes := Config.boundary s.free

/-- EXTEST: the boundary register drives the pins and captures them. -/
def execExtest (dt : Nat) (s : State) : Host.Outcome State Fault Refusal :=
  next (let s1 := advance dt s; draw (tapTake .extest .boundary s1.capture s1))

/-- IDCODE: 0x18512D37. -/
def execIdcode (dt : Nat) (s : State) : Host.Outcome State Fault Refusal :=
  next (let s1 := advance dt s; setTap { s1.tap with ir := .idcode, shiftOut := le 4 0x18512D37, pins := .engine } s1)

/-- SAMPLE/PRELOAD: the boundary register captures the pins, and its update stage takes what is shifted in. -/
def execSamplePreload (dt : Nat) (shiftIn : Bytes) (s : State) : Host.Outcome State Fault Refusal :=
  next (let s1 := advance dt s; draw (setTap { ir := .sample, shiftOut := s1.capture, boundary := shiftIn, pins := .engine } s1))

/-- HIGHZ: the outputs float. -/
def execHighz (dt : Nat) (s : State) : Host.Outcome State Fault Refusal := next (tapTake .highz .highz [0] (advance dt s))

/-- CLAMP: the outputs hold, with BYPASS selected. -/
def execClamp (dt : Nat) (s : State) : Host.Outcome State Fault Refusal := next (tapTake .clamp .clamped [0] (advance dt s))

/-- EXTEST_PULSE of IEEE 1149.6. -/
def execExtestPulse (dt : Nat) (s : State) : Host.Outcome State Fault Refusal :=
  next (let s1 := advance dt s; draw (tapTake .extestPulse .pulsing s1.capture s1))

/-- EXTEST_TRAIN of IEEE 1149.6. -/
def execExtestTrain (dt : Nat) (s : State) : Host.Outcome State Fault Refusal :=
  next (let s1 := advance dt s; draw (tapTake .extestTrain .training s1.capture s1))

/-- BYPASS: 0xFF and every opcode that R452 does not list. -/
def execBypass (dt : Nat) (opcode : Byte) (s : State) : Host.Outcome State Fault Refusal :=
  next (let s1 := advance dt s; if opcode.toNat ≤ 6 then s1 else tapBypass s1)

/-- The test logic resets (R452); the first rising edge of PORST_N after a power-up also gives the
pins back and starts BOOT (R453). -/
def resetTap (porstRise : Bool) (s : State) : State :=
  let s1 := setTap {} s
  if porstRise && s1.porstLow then { s1 with porstLow := false, sys := { s1.sys with bootStart := s1.clk.core } } else s1

/-- TAP_RESET: TRST_N low, or the rising edge of PORST_N, which also gives the pins back and starts BOOT. -/
def execTapReset (dt : Nat) (porstRise : Bool) (s : State) : Host.Outcome State Fault Refusal :=
  next (resetTap porstRise (advance dt s))

end Sys2Proof.Machine
end

