-- ==== Sys2Proof/Machine/Sweep.lean ====
section
/-! DEFINITION. The drop-gate sweep: its slots, pulses, decisions and end (R246-R250). -/

namespace Sys2Proof.Machine

/-! The galleries of a sweep -/

/-- Gallery g's part of the sweep. -/
def State.sweepGal (s : State) (g : Nat) : SweepGal := tget {} s.sweeps g

/-- Gallery g's part of the sweep takes a new content. -/
def setSweepGal (g : Nat) (x : SweepGal) (s : State) : State := { s with sweeps := tset s.sweeps g x }

/-- The galleries whose part of the sweep still runs. -/
def State.sweeping8 (s : State) (w : Sweep) : List Nat := (onesOf 8 w.mask).filter (fun g => (s.sweepGal g).state == 1)

/-- Nozzle n is populated in gallery g. -/
def State.hasNozzle (s : State) (g n : Nat) : Bool :=
  s.populated (64 * g + n / 2048) && decide (n % 2048 < s.nozzles (64 * g + n / 2048))

/-- Nozzles that slot k of the bays has in any of the galleries. -/
def State.widest (s : State) (mask k : Nat) : Nat :=
  maxN ((onesOf 8 mask).map (fun g => if s.populated (64 * g + k) then s.nozzles (64 * g + k) else 0))

/-- The first nozzle index from n on that some gallery of the mask populates. -/
def State.nextNozzle (s : State) (mask n : Nat) : Option Nat :=
  if n % 2048 < s.widest mask (n / 2048) ∧ n < 131072 then some n
  else
    match ((List.range 64).filter (fun k => decide (n / 2048 < k) && decide (0 < s.widest mask k))).head? with
    | some k => some (2048 * k)
    | none => none

/-! SWEEP (R246) -/

/-- SWEEP's own refusals. -/
def checkSweep (mask : Nat) (s : State) : Nat :=
  if (onesOf 8 mask).any (fun g => (s.popBays g).any (fun b => !s.bayMapped b)) then 0xAB0A0001
  else if (onesOf 8 mask).any (fun g => (s.gal g).noz.spareState == .armed) then 0xAB0A0002
  else 0

/-- The sweep of slot k starts: T_0 is fixed, READY spares of its galleries become EMPTY, results start afresh. -/
def beginSweep (k : Nat) (s : State) : State :=
  let mask := ofLe (s.slot k).arg
  let s1 := forEach (onesOf 8 mask) (fun g s =>
    let s2 := if (s.gal g).noz.spareState == .ready then setSpare g .empty s else s
    setSweepGal g { state := 1 } s2) s
  { s1 with sweep := some { slot := k, mask := mask, t0 := s.now + usT 1000, slot0 := 0, nextSlot := 0, nextIndex := 0
                            shotBase := s.shotBase mask, suspended := s.gateHolds, shots := [] } }

/-! SWEEP_SLOT (R247) -/

/-- Fire-at of slot i. -/
def Sweep.fireAt (w : Sweep) (i : Nat) : Nat := w.t0 + usT (200 * (i - w.slot0))

/-- The level of a shot: DG_LEVEL, or the gallery's highest. -/
def State.shotLevel (s : State) (g : Nat) : Nat :=
  let m := 2 ^ s.bitsOf g - 1
  if s.val 0x7C00 5 = 0 then m else min (s.val 0x7C00 5) m

/-- The bay data of a shot: 0 but for nozzle j. -/
def State.shotData (s : State) (g b j : Nat) : Bytes :=
  le (s.nozzles b * s.bitsOf g / 8) (s.shotLevel g * 2 ^ (j * s.bitsOf g))

/-- What lane l sends in slot i with fire-at t, for nozzle n: its shot, or a BLANK. -/
def State.shotFrame (s : State) (w : Sweep) (l i n t : Nat) : Frame :=
  let g := l / 4
  let b := 64 * g + n / 2048
  let line := (w.shotBase + i) % 4294967296
  if b / 16 = l ∧ s.hasNozzle g n = true then
    { type := 0x01, flags := 5, line := line, fireAt := t, bayMask := 2 ^ (b % 16), bits := s.bitsOf g
      waveSets := s.waveSets l, payload := s.linePayload l (2 ^ (b % 16)) [(b % 64, s.shotData g b (n % 2048))] }
  else { type := 0x02, flags := 5, line := line, fireAt := t }

/-- A running lane sends its frame of slot i. -/
def sendShot (w : Sweep) (i n t l : Nat) (s : State) : State :=
  if s.running l then
    sendFrame l (s.shotFrame w l i n t) (setLane l { s.lane l with lastShot := some ((w.shotBase + i) % 4294967296) } s)
  else s

/-- The shot of gallery g in slot i: its nozzle fires at fire-at + s_k * 3.125 microseconds. -/
def State.shotOf (s : State) (w : Sweep) (g i n t : Nat) : Shot :=
  let b := 64 * g + n / 2048
  { index := i, line := (w.shotBase + i) % 4294967296, gal := g, nozzle := n, fire := t + 204800000 * (s.val (0x4000 + b) 4 % 64), pulse := none
    spoilt := !s.running (b / 16) }

/-- The next slot is due, and every running lane of the sweep is free. -/
def State.slotDue (s : State) (w : Sweep) : Bool :=
  (s.slot w.slot).state == .running && !w.suspended && decide (w.fireAt w.nextSlot ≤ s.now + usT 1000) &&
    ((s.sweeping8 w).flatMap lanesOf).all (fun l => !s.running l || (s.lane l).sending.isNone)

/-- One slot: the next nozzle's shot goes out in every gallery that has it, and BLANKs elsewhere. -/
def doSweepSlot (s : State) : State :=
  match s.sweep with
  | none => s
  | some w =>
    match s.nextNozzle w.mask w.nextIndex with
    | none => s
    | some n =>
      if !s.slotDue w then s
      else
        let i := w.nextSlot
        let t := w.fireAt i
        let gs := s.sweeping8 w
        let new := (gs.filter (fun g => s.hasNozzle g n)).map (fun g => s.shotOf w g i n t)
        forEach (gs.flatMap lanesOf) (sendShot w i n t)
          { s with sweep := some { w with nextSlot := i + 1, nextIndex := n + 1, shots := w.shots ++ new } }

/-- SWEEP_SLOT. -/
def execSweepSlot (dt : Nat) (s : State) : Host.Outcome State Fault Refusal := next (doSweepSlot (advance dt s))

/-! DGATE_PULSE (R248) -/

/-- 0.1 microseconds of a drop-gate entry, in 2^-16 ns. -/
def State.dgTime (s : State) (sub : Nat) : Int := nsT (100 * s.val 0x7C00 sub)

/-- The pulse at tp is given to the first shot of gallery g that takes it; none if no shot does. -/
def giveTo (lo hi tp : Int) (g : Nat) : List Shot → Option (List Shot)
  | [] => none
  | h :: hs =>
    if h.gal = g ∧ h.pulse = none ∧ lo ≤ tp - h.fire ∧ tp - h.fire ≤ hi then some ({ h with pulse := some tp } :: hs)
    else (giveTo lo hi tp g hs).map (h :: ·)

/-- The sweep once a shot of gallery g has taken the pulse at tp; none where no sweep runs in the gallery, or no shot takes it. -/
def State.pulseTaken (s : State) (g : Nat) (tp : Int) : Option Sweep :=
  match s.sweep with
  | some w =>
    if (s.sweeping8 w).contains g then (giveTo (s.dgTime 2) (s.dgTime 4) tp g w.shots).map (fun hs => { w with shots := hs })
    else none
  | none => none

/-- A pulse on DGATE[g], taken at its raw time by the earliest open shot of the gallery, or counted in STRAY. -/
def doDgatePulse (g : Nat) (s : State) : State :=
  let x := { s.sweepGal g with pulses := true }
  let raw := s.rawTime (s.val 0x7C00 7)
  let s1 := { s with dgateAt := tset s.dgateAt g raw }
  match s.pulseTaken g (s.timeAt raw) with
  | some w => setSweepGal g x { s1 with sweep := some w }
  | none => setSweepGal g { x with stray := wrapAdd 32 x.stray 1 } s1

/-- DGATE_PULSE. -/
def execDgatePulse (dt : Nat) (g : Fin 8) (s : State) : Host.Outcome State Fault Refusal := next (doDgatePulse g.val (advance dt s))

/-! Deciding shots (R248, R249) -/

/-- What a shot is decided as: 0 UNTESTED, 1 GOOD, 2 WEAK, 3 MISSING. -/
def Shot.verdict (h : Shot) (tMax : Int) : Nat :=
  if h.spoilt then 0
  else match h.pulse with
    | none => 3
    | some t => if t - h.fire ≤ tMax then 1 else 2

/-- Gallery g's part of the sweep has failed: state 3 SILENT or 4 STUCK. -/
def failGallery (g st : Nat) (s : State) : State :=
  raise 0x0A04 (0x0100 + g) [BitVec.ofNat 8 g, BitVec.ofNat 8 (st - 3)] (setSweepGal g { s.sweepGal g with state := st, batch := [] } s)

/-- The batch's states are written into the active table, then STITCH (R249). -/
def applyBatch (g : Nat) (batch : List (Nat × Nat)) (s : State) : State :=
  let x := s.gal g
  let t1 := batch.foldl (fun t p => t.put p.1 (entSetState (t.ent p.1) (p.2 - 1) (entStitch (t.ent p.1)))) x.noz.active
  let t2 := batch.foldl (fun t p => t.put p.1 (s.judged g t p.1 (t.ent p.1) (p.2 - 1))) t1
  setGal g { x with noz := { x.noz with active := t2 } } s

/-- Gallery g's batch is complete. -/
def endBatch (g : Nat) (s : State) : State :=
  let x := s.sweepGal g
  if x.batch.isEmpty then s
  else if x.batches = 0 ∧ x.pulses = false then failGallery g 3 s
  else
    let s1 := setSweepGal g { x with batch := [], batches := x.batches + 1 } s
    if s.flag 0x7C00 8 then applyBatch g x.batch s1 else s1

/-- A decision enters gallery g's results, counters and batch; a slot sent again does not count a nozzle twice. -/
def SweepGal.decide (x : SweepGal) (n v : Nat) : SweepGal :=
  if thas x.results n then x
  else
    { x with
      results := tset x.results n v
      untested := x.untested + b2n (v == 0), good := x.good + b2n (v == 1), weak := x.weak + b2n (v == 2)
      missing := x.missing + b2n (v == 3)
      batch := if v = 0 then x.batch else x.batch ++ [(n, v)] }

/-- A shot of gallery g is decided once T_LATE after its firing has come. -/
def doShotDecide (g : Nat) (s : State) : State :=
  match s.sweep with
  | none => s
  | some w =>
    match takeFirst (fun h => h.gal == g && decide (h.fire + s.dgTime 4 ≤ (s.now : Int))) w.shots with
    | none => s
    | some (h, hs) =>
      let s1 := { s with sweep := some { w with shots := hs } }
      let x := s.sweepGal g
      if x.state != 1 then s1
      else
        let y := x.decide h.nozzle (h.verdict (s.dgTime 3))
        let s2 := setSweepGal g y s1
        if 1024 ≤ y.batch.length then endBatch g s2 else s2

/-- SHOT_DECIDE. -/
def execShotDecide (dt : Nat) (g : Fin 8) (s : State) : Host.Outcome State Fault Refusal := next (doShotDecide g.val (advance dt s))

/-- DGATE[g] can have stood at its active level for more than 1 ms: no edge into it was accepted within the last. -/
def State.dgateStands (s : State) (g : Nat) : Bool := !thas s.dgateAt g || decide (tget 0 s.dgateAt g + msCk 1 < s.clk.core)

/-- DGATE[g] has stood at its active level for more than 1 ms, from before the sweep or from an edge within it. -/
def doDgateStuck (g : Nat) (s : State) : State :=
  match s.sweep with
  | none => s
  | some w => if (s.sweeping8 w).contains g && s.dgateStands g then failGallery g 4 s else s

/-- DGATE_STUCK. -/
def execDgateStuck (dt : Nat) (g : Fin 8) (s : State) : Host.Outcome State Fault Refusal := next (doDgateStuck g.val (advance dt s))

/-! The operation's slices and end -/

/-- The galleries still running take a last state: 2 done, 5 aborted. -/
def closeGalleries (w : Sweep) (st : Nat) (s : State) : State :=
  forEach (s.sweeping8 w) (fun g s => setSweepGal g { s.sweepGal g with state := st, batch := [] } s) { s with sweep := none }

/-- Some gallery's barrier failed. -/
def State.sweepFailed (s : State) (w : Sweep) : Bool :=
  (onesOf 8 w.mask).any (fun g => (s.sweepGal g).state == 3 || (s.sweepGal g).state == 4)

/-- A slice of the sweep in slot k: the first starts it; one that finds every shot decided, or no gallery left, completes
the last batches and ends it. -/
def sliceSweep (k : Nat) (s : State) : State :=
  match s.sweep with
  | none => beginSweep k s
  | some w =>
    let open_ := (s.nextNozzle w.mask w.nextIndex).isSome || !w.shots.isEmpty
    if open_ && !(s.sweeping8 w).isEmpty then s
    else
      let s1 := forEach (s.sweeping8 w) endBatch s
      if s1.sweepFailed w then endOp k .failed 0xAB0A0004 (closeGalleries w 2 s1)
      else endOp k .done 0 (closeGalleries w 2 s1)

/-- The sweep in slot k ends ABORTED: batches already applied remain. -/
def abortSweep (k : Nat) (s : State) : State :=
  match s.sweep with
  | none => s
  | some w => if w.slot = k then closeGalleries w 5 s else s

/-! What the entries show (R251) -/

/-- RESULTS of gallery g. -/
def State.sweepResults (s : State) (g : Nat) : Bytes :=
  let x := s.sweepGal g
  if x.state = 0 then [] else (List.range 131072).map (fun n => BitVec.ofNat 8 (tget 0xFF x.results n))

end Sys2Proof.Machine
end

