-- ==== Sys2Proof/Machine/View.lean ====
section
/-! DEFINITION. What a READ of each status entry returns (R30, R33): the entries that stand for state held elsewhere. An entry
without an arm here reads as its stored value. -/

namespace Sys2Proof.Machine

/-- Identity (R40). The running image reads 2 while a recovery image runs, as in BOOT_REPORT (log entry 41). -/
def State.viewIdentity (s : State) (sub : Nat) : Option Nat :=
  match sub with
  | 0x06 => some Config.serial.toNat
  | 0x07 => some Config.uniqueId.toNat
  | 0x08 => some Config.macBase.toNat
  | 0x0A => some s.sys.runVersion
  | 0x0B => some s.sys.running
  | _ => none

/-- Mode and SAFE latch (R439). -/
def State.viewMode (s : State) (sub : Nat) : Option Nat :=
  match sub with
  | 0x01 => some s.sys.mode.code
  | 0x05 => some s.galleryModes
  | 0x06 => some (b2n s.sys.latch)
  | 0x07 => some s.sys.causes
  | 0x08 => some (time96 s.sys.safeTime)
  | 0x0C => some s.sys.resetCause
  | 0x0E => some (b2n s.sys.shutdownReady)
  | 0x0F => some Config.coreSetpoint.toNat
  | 0x10 => some s.sys.bootTime
  | 0x11 => some s.sys.straps
  | 0x12 => some s.sys.modeChanges
  | _ => none

/-- VERSION of an image, or 0 where it is not authentic (R439). -/
def State.shownVersion (s : State) (n : Nat) : Nat := if (s.image n).code = 0 then (s.image n).version else 0

/-- Firmware (R439). -/
def State.viewFirmware (s : State) (sub : Nat) : Option Nat :=
  match sub with
  | 0x04 => some s.sys.bootControl.preferred
  | 0x05 => some (b2n s.sys.bootControl.trial)
  | 0x06 => some s.sys.bootControl.attempts
  | 0x07 => some (s.shownVersion 0)
  | 0x08 => some (s.shownVersion 1)
  | 0x09 => some Config.securityFloor.toNat
  | 0x0A => some (s.sys.running + 256 * s.sys.romA + 65536 * s.sys.romB + 16777216 * b2n s.sys.fallback)
  | 0x0B => some Config.keyHash.toNat
  | _ => none

/-- Pair (R296). -/
def State.viewPair (s : State) (sub : Nat) : Option Nat :=
  match sub with
  | 0x02 => some (b2n (bitOf s.sys.straps 3))
  | 0x03 => some s.pair.role.code
  | 0x04 => some s.pair.reign
  | 0x05 => some s.pair.peerRole
  | 0x06 => some s.linkState
  | 0x0D => some s.pair.takeovers
  | 0x0E => some s.pair.lastGap
  | 0x0F => some s.pair.gapLines
  | 0x10 => some s.pair.lastGiveUp
  | 0x11 => some s.pair.mismatches
  | 0x12 => some (usg 32 (clampI (-2147483648) 2147483647 s.pair.timeOffset))
  | _ => none

/-- Long operations (R50). -/
def State.viewLongOps (s : State) (sub : Nat) : Option Nat :=
  match sub with
  | 0x01 => some (slotIds.filter (fun k => (s.slot k).active)).length
  | 0x02 => some s.cat.nextSeq
  | _ => none

/-- Slot k (R50). -/
def State.viewSlot (s : State) (k sub : Nat) : Option Nat :=
  let x := s.slot k
  match sub with
  | 0x01 => some x.handle
  | 0x02 => some x.kindIndex
  | 0x03 => some x.kindSub
  | 0x04 => some x.state.code
  | 0x05 => some x.progress
  | 0x06 => some x.result
  | 0x07 => some x.resources
  | 0x08 => some x.started
  | 0x09 => some x.ended
  | _ => none

/-- Sessions and key (R320). -/
def State.viewSessions (s : State) (sub : Nat) : Option Nat :=
  match sub with
  | 0x02 => some (b2n s.net.keySet)
  | 0x03 => some s.net.keyGen
  | 0x04 => some s.net.sessions.length
  | 0x09 => some (clampN 256 s.net.sources.length)
  | _ => none

/-- Session slot k (R320). -/
def State.viewSession (s : State) (k sub : Nat) : Option Nat :=
  match s.net.sessions.find? (fun p => p.1 == k) with
  | none => none
  | some (_, x) =>
    match sub with
    | 0x01 => some 1
    | 0x02 => some x.id
    | 0x03 => some (ofLe (be 4 x.src.ip.toNat ++ be 2 x.src.udp.toNat))
    | 0x04 => some (x.src.port.val + 2 * b2n x.src.shared)
    | 0x05 => some x.lastSeq
    | 0x06 => some (time96 x.opened)
    | 0x07 => some ((s.clk.core - x.lastMsg) / msCk 1)
    | _ => none

/-- Archive (R406). -/
def State.viewArchive (s : State) (sub : Nat) : Option Nat :=
  match sub with
  | 0x02 => some s.arc.paramSeq
  | 0x03 => some s.arc.paramSlot
  | 0x04 => some s.arc.loadSkipped
  | 0x05 => some (time96 s.arc.lastCommit)
  | 0x06 => some (ofLe s.slotStatus)
  | 0x07 => some (b2n s.arc.pfail)
  | 0x08 => some s.arc.words
  | _ => none

/-- Self-test (R451). -/
def State.viewSelfTest (s : State) (sub : Nat) : Option Nat :=
  match sub with
  | 0x02 => some s.test.status
  | 0x03 => some s.test.mask
  | 0x04 => some s.test.failed
  | 0x05 => some s.test.duration
  | 0x06 => some s.test.count
  | 0x07 => some s.test.stop
  | _ => none

/-- Self-test domain d (R451). -/
def State.viewDomain (s : State) (d sub : Nat) : Option Nat :=
  let x := tget {} s.test.domains d
  match sub with
  | 0x01 => some x.status
  | 0x02 => some x.hallmark
  | 0x03 => some (expectedHallmark d)
  | 0x04 => some (b2n x.logic)
  | 0x05 => some (b2n x.memory)
  | 0x06 => some x.address
  | 0x07 => some x.element
  | _ => none

/-- Calibration (R406). -/
def State.viewCal (s : State) (sub : Nat) : Option Nat :=
  match sub with
  | 0x03 => some (if s.cal.calibrated then s.cal.gain else Config.factoryGain.toNat)
  | 0x04 => some (if s.cal.calibrated then usg 32 s.cal.offset else Config.factoryOffset.toNat)
  | 0x05 => some (if s.cal.calibrated then s.cal.time else 0)
  | 0x06 => some (b2n s.cal.calibrated)
  | _ => none

/-- SENSOR_READING of a sensor; 0 before its first sample (R33, R406). -/
def State.sensorReading (s : State) (id : Nat) : Nat :=
  let x := s.sensor id
  if x.at_ = 0 then 65536 * x.state.code
  else usg 16 x.reading + 65536 * x.state.code + 2 ^ 32 * (((s.clk.core - x.at_) / msCk 1) % 2 ^ 32)

/-- Sensors in one of the states. -/
def State.sensorsIn (s : State) (p : SensState → Bool) : Nat :=
  clampN 0xFFFF (s.therm.sensors.filter (fun q => p q.2.state)).length

/-- Thermal (R406). -/
def State.viewThermal (s : State) (sub : Nat) : Option Nat :=
  match sub with
  | 0x02 => some (s.sensorReading (s.val 0x1900 1))
  | 0x03 => some (usg 16 s.therm.hottest)
  | 0x04 => some s.therm.fDie
  | 0x05 => some (b2n (decide (s.therm.fDie < 65536)))
  | 0x06 => some (s.sensorsIn (fun st => st == .lowWarn || st == .highWarn))
  | 0x07 => some (s.sensorsIn (fun st => st == .lowTrip || st == .highTrip || st == .failed))
  | _ => none

/-- Device time (R341). -/
def State.viewTime (s : State) (sub : Nat) : Option Nat :=
  match sub with
  | 0x01 => some (time96 s.now)
  | 0x02 => some (usg 64 s.clk.rate)
  | 0x03 => some s.clk.epoch
  | 0x04 => some (b2n s.clk.traced)
  | 0x05 => some (b2n s.clk.stepPending)
  | 0x07 => some (usg 64 s.clk.lastStep)
  | 0x08 => some (b2n s.clk.diverged)
  | _ => none

/-- PTP status (R341). -/
def State.viewPtp (s : State) (sub : Nat) : Option Nat :=
  match sub with
  | 0x01 => some s.ptp.state.code
  | 0x02 => some (b2n s.ptp.locked)
  | 0x03 => some (usg 64 s.ptp.offset)
  | 0x04 => some (usg 64 s.ptp.pathDelay)
  | 0x05 => some (ofLe (be 8 s.ptp.gmIdentity))
  | 0x06 => some s.ptp.syncReceived
  | 0x07 => some s.ptp.syncSent
  | _ => none

/-- Encoder channel c (R63). -/
def State.viewEnc (s : State) (c sub : Nat) : Option Nat :=
  let x := s.enc c
  match sub with
  | 0x01 => some (usg 48 x.pos)
  | 0x02 => some (usg 32 x.speed)
  | 0x03 => some x.flags
  | 0x04 => some x.edgePeriod
  | 0x05 => some x.illegal
  | 0x06 => some (usg 48 x.indexPos)
  | 0x07 => some x.indexErrors
  | _ => none

/-- Line clock (R73). -/
def State.viewLineClock (s : State) (sub : Nat) : Option Nat :=
  match sub with
  | 0x01 => some s.lc.state.code
  | 0x02 => some s.lc.lastTick
  | 0x03 => some (time96 s.lc.lastTickAt)
  | 0x04 => some (usg 48 s.lc.hwm)
  | 0x05 => some (usg 48 s.lc.bInt)
  | 0x06 => some s.lc.bFrac
  | 0x07 => some s.lc.period
  | 0x08 => some (usg 32 s.lc.deviation)
  | 0x09 => some s.lc.reverses
  | 0x0A => some (b2n s.lc.speedWarn)
  | _ => none

/-- Probe p (R77). -/
def State.viewProbe (s : State) (p sub : Nat) : Option Nat :=
  let x := s.probe p
  match sub with
  | 0x06 => some x.count
  | 0x07 => some x.rejected
  | 0x08 => some x.overflows
  | 0x09 => some (usg 48 x.last.pos)
  | 0x0A => some (time96 x.last.at_)
  | 0x0B => some x.last.edge
  | _ => none

/-- Compare unit u (R81). -/
def State.viewCmp (s : State) (u sub : Nat) : Option Nat :=
  let x := s.cmp u
  match sub with
  | 0x07 => some x.fired
  | 0x08 => some (time96 x.firedAt)
  | 0x09 => some (b2n (s.val (0x2080 + u) 1 != 0) + 2 * b2n x.behind)
  | _ => none

/-- Emulated encoder e (R84). A LAG outside I32, of which R84 says nothing, is shown modulo 2^32, here and in EMU_LAG (DESIGN CHOICE,
log entry 71). -/
def State.viewEmu (s : State) (e sub : Nat) : Option Nat :=
  let x := tget {} s.emus e
  match sub with
  | 0x06 => some (usg 48 x.out)
  | 0x07 => some (usg 32 x.lag)
  | _ => none

/-- Predictor (R176). -/
def State.viewPred (s : State) (sub : Nat) : Option Nat :=
  match sub with
  | 0x02 => some (b2n s.pred.valid)
  | 0x03 => some s.pred.overdue
  | _ => none

/-- Gates (R176). -/
def State.viewGates (s : State) (sub : Nat) : Option Nat :=
  match sub with
  | 0x01 => some s.gatesDown
  | 0x03 => some (b2n s.sys.safeN)
  | _ => none

/-- A gallery's composition and nozzle path, by the index's low byte (R132, R157, R176). -/
def State.viewGallery (s : State) (g part sub : Nat) : Option Nat :=
  let z := (s.gal g).noz
  match part, sub with
  | 0x10, 0x02 => some (s.cacheUsed g)
  | 0x20, 0x08 => some z.thresholdId
  | 0x20, 0x09 => some z.thresholdBits
  | 0x21, 0x02 => some z.spareState.code
  | 0x21, 0x06 => some z.active.source
  | 0x21, 0x07 => some z.lastSwap
  | 0x21, 0x08 => some z.swapCount
  | 0x21, 0x09 => some (b2n (s.loopOwns g))
  | 0x21, 0x0A => some (b2n (s.pathFaulted g))
  | 0x21, 0x0C => some (z.active.ent (s.val (0x3021 + 0x100 * g) 0x0B))
  | 0x21, 0x0D => some (z.spare.ent (s.val (0x3021 + 0x100 * g) 0x0B))
  | 0x21, 0x0E => some (s.countState g 2)
  | 0x21, 0x0F => some (s.countState g 1)
  | 0x30, 0x0D => some (time96 (s.gal g).lastFire.toNat)
  | _, _ => none

/-- MAX_RATE of bay b, Hz; 0 while no head record or override gives its frequency (R171, R176). -/
def State.maxRate (s : State) (b : Nat) : Nat := if s.maxFire b = 0 then 0 else s.bayLimit b / 1000

/-- Bay b (R176, R216). -/
def State.viewBay (s : State) (b sub : Nat) : Option Nat :=
  let x := s.bay b
  match sub with
  | 0x0A => some (usg 16 x.temp)
  | 0x0B => some x.supply
  | 0x0C => some x.band
  | 0x0D => some x.trim
  | 0x0E => some (b2n x.inkCold + 2 * b2n x.clamped)
  | 0x0F => some (s.maxRate b)
  | 0x11 => some (x.idState.code + 128 * b2n x.extInvalid)
  | 0x12 => some x.idFault
  | 0x16 => some (leAt x.record 6 2)
  | 0x17 => some (s.nozzles b)
  | 0x18 => some (byteAt x.record 5)
  | 0x19 => some (leAt x.record 16 16)
  | 0x1D => some (b2n x.wavesLoaded)
  | 0x1E => some (usg 16 x.inkTemp)
  | _ => none

/-- Lane l (R215). -/
def State.viewLane (s : State) (l sub : Nat) : Option Nat :=
  let x := s.lane l
  match sub with
  | 0x03 => some x.train.state.code
  | 0x04 => some x.train.fom
  | 0x05 => some x.fomModule
  | 0x06 => some x.train.txPreset
  | 0x07 => some (delayPs x.lastDelay)
  | 0x09 => some (b2n x.linkTime)
  | 0x0E => some x.downCount
  | 0x0F => some x.downCause
  | 0x10 => some x.badFrames
  | 0x11 => some x.framesLost
  | 0x12 => some x.lateCount
  | 0x15 => some (s.prbsErrors l (s.val (0x5000 + l) 0x14))
  | 0x16 => some (s.prbsBits l)
  | _ => none

/-- The head drive module of lane l (R215). -/
def State.viewModule (s : State) (l sub : Nat) : Option Nat :=
  let x := s.lane l
  match sub with
  | 0x01 => some x.modId
  | 0x02 => some x.caps
  | 0x03 => some x.version
  | _ => none

/-- Reserve (R107). -/
def State.viewReserve (s : State) (sub : Nat) : Option Nat :=
  match sub with
  | 0x01 => some s.res.capacity
  | 0x02 => some s.heapFree
  | 0x03 => some s.segments
  | 0x07 => some (ofLe (s.queryResult (s.val 0x6000 6)))
  | 0x0A => some s.res.directOffset
  | _ => none

/-- Hanging plans (R132). -/
def State.viewPlans (s : State) (sub : Nat) : Option Nat :=
  let part (p : Option Plan) (f : Plan → Nat) : Nat :=
    match p with
    | some x => f x
    | none => 0
  match sub with
  | 0x03 => some s.planState
  | 0x04 => some (part s.plans.active (·.id))
  | 0x05 => some (part s.plans.active (·.switch))
  | 0x06 => some (part s.plans.active (·.base))
  | 0x07 => some (part s.plans.armed (·.id))
  | 0x08 => some (part s.plans.armed (·.switch))
  | 0x09 => some (part s.plans.armed (·.base))
  | _ => none

/-- Caption queue q (R132). -/
def State.viewQueue (s : State) (q sub : Nat) : Option Nat :=
  let c := s.queue q
  match sub with
  | 0x04 => some (s.queueCapacity q)
  | 0x05 => some c.base
  | 0x06 => some c.next
  | 0x07 => some c.held
  | 0x0B => some c.starved
  | 0x0C => some c.lastStarved
  | _ => none

/-- Changeover (R132). -/
def State.viewChangeover (s : State) (sub : Nat) : Option Nat :=
  match sub with
  | 0x01 => some s.plans.switched
  | 0x02 => some s.plans.completeTick
  | 0x03 => some s.plans.switchCount
  | 0x04 => some (time96 s.plans.lastSwitch)
  | _ => none

/-- Compression engine (R108). -/
def State.viewCompression (s : State) (sub : Nat) : Option Nat :=
  match sub with
  | 0x01 => some s.inflateBusy
  | 0x06 => some (levelCap s.therm.fDie)
  | _ => none

/-- Camera context c (R232). -/
def State.viewCamera (s : State) (c sub : Nat) : Option Nat :=
  let x := s.ctx c
  match sub with
  | 0x12 => some x.pipeVersion
  | 0x15 => some x.epoch
  | 0x16 => some (s.fApply c)
  | 0x17 => some (s.epochState c)
  | 0x18 => some x.frameNumber
  | 0x19 => some (s.slotState c)
  | 0x1A => some (s.slotOffset c)
  | _ => none

/-- Image pipeline (R232). -/
def State.viewPipe (s : State) (sub : Nat) : Option Nat :=
  match sub with
  | 0x01 => some s.pipeLoad
  | 0x02 => some s.fullSlots.length
  | 0x03 => some (match s.pipe.active with
    | some p => p.1
    | none => 0xFF)
  | 0x04 => some s.pipe.total
  | _ => none

/-- Camera port p (R232). -/
def State.viewPort (s : State) (p sub : Nat) : Option Nat :=
  match sub with
  | 0x06 => some (ofLe (s.port p).result)
  | 0x07 => some (s.portState p)
  | _ => none

/-- Drop-gate result of gallery g (R251). -/
def State.viewSweep (s : State) (g sub : Nat) : Option Nat :=
  let x := s.sweepGal g
  match sub with
  | 0x01 => some x.state
  | 0x02 => some x.good
  | 0x03 => some x.weak
  | 0x04 => some x.missing
  | 0x05 => some x.untested
  | 0x06 => some x.stray
  | _ => none

/-- Lamp chain ch (R271). -/
def State.viewChain (s : State) (ch sub : Nat) : Option Nat :=
  match sub with
  | 0x08 => some (s.chain ch).state
  | 0x09 => some (s.lampPeriod ch)
  | 0x0A => some (s.chain ch).bad
  | _ => none

/-- Lamp n (R271). -/
def State.viewLamp (s : State) (n sub : Nat) : Option Nat :=
  let x := s.lamp n
  match sub with
  | 0x0B => some (usg 16 x.temp)
  | 0x0C => some x.iMeas
  | 0x0D => some x.duty
  | 0x0E => some x.flags
  | 0x0F => some x.dose
  | 0x10 => some x.under
  | _ => none

/-- DRAM channel c (R386). The traffic counters stand for transfers that no command of the block carries: free values (log
entry 42). -/
def State.viewChan (s : State) (c sub : Nat) : Option Nat :=
  let x := s.chan c
  match sub with
  | 0x01 => some s.dram.rankBytes
  | 0x02 => some (usg 16 x.temp)
  | 0x03 => some (s.chan c).band
  | 0x04 => some x.ce
  | 0x05 => some x.ue
  | 0x06 => some x.hammer
  | 0x07 => some x.passes
  | 0x08 => some (Config.freeValue s.free).toNat
  | 0x09 => some (Config.freeValue s.free).toNat
  | 0x0A => some ((Config.freeValue s.free).toNat % 10001)
  | _ => none

/-- The device with the most corrections of a rank, the lowest of several; 0xFF for none. -/
def Rank.worst (x : Rank) : Nat :=
  let best := maxN (x.devices.map (fun p => p.2))
  if best = 0 then 0xFF
  else
    match x.devices.find? (fun p => p.2 == best) with
    | some p => p.1
    | none => 0xFF

/-- Rank r of channel c (R386). -/
def State.viewRank (s : State) (c r sub : Nat) : Option Nat :=
  let x := s.rank c r
  match sub with
  | 0x01 => some x.state.code
  | 0x02 => some x.ce
  | 0x03 => some x.worst
  | 0x04 => some x.ue
  | 0x05 => some x.lastError
  | 0x06 => some (x.pair * s.pairBytes)
  | 0x07 => some x.copied
  | _ => none

/-- The index lies among n objects from a base. -/
def among (idx base n : Nat) : Bool := decide (base ≤ idx) && decide (idx < base + n)

/-- The part of the view below 0x2000. -/
def State.viewLow (s : State) (idx sub : Nat) : Option Nat :=
  match idx with
  | 0x1000 => s.viewIdentity sub
  | 0x1100 => s.viewMode sub
  | 0x1120 => s.viewFirmware sub
  | 0x1200 => s.viewPair sub
  | 0x1300 => s.viewLongOps sub
  | 0x1400 => s.viewSessions sub
  | 0x1700 => s.viewArchive sub
  | 0x1800 => s.viewSelfTest sub
  | 0x1840 => s.viewCal sub
  | 0x1900 => s.viewThermal sub
  | 0x1901 => if 1 ≤ sub then some (usg 16 (s.sensor (sub - 1)).reading) else none
  | 0x1B00 => s.viewTime sub
  | 0x1B11 => s.viewPtp sub
  | _ =>
    if among idx 0x1310 16 then s.viewSlot (idx - 0x1310) sub
    else if among idx 0x1410 8 then s.viewSession (idx - 0x1410) sub
    else if among idx 0x1810 13 then s.viewDomain (idx - 0x1810) sub
    else none

/-- The part of the view from 0x2000 to 0x5FFF. -/
def State.viewMiddle (s : State) (idx sub : Nat) : Option Nat :=
  match idx with
  | 0x2001 => s.viewEnc 0 sub
  | 0x2011 => s.viewEnc 1 sub
  | 0x2101 => s.viewLineClock sub
  | 0x2110 => s.viewPred sub
  | 0x2210 => s.viewGates sub
  | _ =>
    if among idx 0x2040 4 then s.viewProbe (idx - 0x2040) sub
    else if among idx 0x2080 16 then s.viewCmp (idx - 0x2080) sub
    else if among idx 0x20C0 2 then s.viewEmu (idx - 0x20C0) sub
    else if among idx 0x2200 8 then (if sub = 7 then some (s.gate (idx - 0x2200)).state.code else none)
    else if among idx 0x3000 0x800 then s.viewGallery ((idx - 0x3000) / 256) (idx % 256) sub
    else if among idx 0x4000 512 then s.viewBay (idx - 0x4000) sub
    else if among idx 0x5000 32 then s.viewLane (idx - 0x5000) sub
    else if among idx 0x5800 32 then s.viewModule (idx - 0x5800) sub
    else none

/-- The part of the view from 0x6000. -/
def State.viewHigh (s : State) (idx sub : Nat) : Option Nat :=
  match idx with
  | 0x6000 => s.viewReserve sub
  | 0x6100 => s.viewPlans sub
  | 0x6200 => if sub = 2 then some s.regionLeft else none
  | 0x6300 => s.viewChangeover sub
  | 0x6800 => s.viewCompression sub
  | 0x7100 => s.viewPipe sub
  | 0x7200 => if sub = 2 then some s.lastContext else none
  | 0x9000 => if sub = 7 then some s.dram.exclude else none
  | _ =>
    if among idx 0x6210 64 then s.viewQueue (idx - 0x6210) sub
    else if among idx 0x7000 16 then s.viewCamera (idx - 0x7000) sub
    else if among idx 0x7110 4 then s.viewPort (idx - 0x7110) sub
    else if among idx 0x7C10 8 then s.viewSweep (idx - 0x7C10) sub
    else if among idx 0x8000 4 then s.viewChain (idx - 0x8000) sub
    else if among idx 0x8100 2048 then s.viewLamp (idx - 0x8100) sub
    else if among idx 0x9010 2 then s.viewChan (idx - 0x9010) sub
    else if among idx 0x9020 8 then s.viewRank ((idx - 0x9020) / 4) ((idx - 0x9020) % 4) sub
    else none

/-- What an entry that stands for state held elsewhere reads as; none: its stored value. -/
def State.view (s : State) (idx sub : Nat) : Option Nat :=
  if idx < 0x2000 then s.viewLow idx sub
  else if idx < 0x6000 then s.viewMiddle idx sub
  else s.viewHigh idx sub

/-- The value of a DOMAIN entry as a block read takes it (R44). -/
def State.readDomain (s : State) (idx sub : Nat) : Bytes :=
  if among idx 0x4000 512 && sub == 0x1A then (s.bay (idx - 0x4000)).record
  else if among idx 0x4000 512 && sub == 0x1B then (s.bay (idx - 0x4000)).extension
  else if among idx 0x7C10 8 && sub == 7 then s.sweepResults (idx - 0x7C10)
  else s.dom idx sub (domDefault idx sub)

/-- The bytes a READ of an entry returns. -/
def State.readBytes (s : State) (idx : Nat) (r : Row) : Bytes :=
  match s.view idx r.sub with
  | some v => le r.ty.len v
  | none => le r.ty.len (s.val idx r.sub)

end Sys2Proof.Machine
end

