-- ==== Sys2Proof/Machine/Entries.lean ====
section
/-! DEFINITION. The rules that single Catalogue entries add to those of the Catalogue itself: what a write of each is refused
for, the resources that bar it, the long operation it starts, and what it does beside storing its value. -/

namespace Sys2Proof.Machine

/-! What refuses a write. Each function answers the first code that applies in its rule's own order, or 0. -/

/-- Motion: R59, R65, R71, R72. -/
def State.refuseMotion (s : State) (idx sub v : Nat) : Nat :=
  match idx, sub with
  | 0x2100, 0x01 => if v = 0 ∧ s.val 0x2100 2 < 4294967296 then 0xAB030001 else 0
  | 0x2100, 0x02 => if s.val 0x2100 1 = 0 ∧ v < 4294967296 then 0xAB030001 else 0
  | 0x2100, 0x03 => if s.val 0x2100 4 ≤ v then 0xAB030003 else 0
  | 0x2100, 0x04 => if v ≤ s.val 0x2100 3 then 0xAB030003 else 0
  | 0x2100, 0x0C => checkOrigin v s
  | 0x2210, 0x02 => checkFaultClear v s
  | _, _ => 0

/-- E1 < E2 < E3 (R168, R176) with edge sub at v. -/
def State.bandOrder (s : State) (g sub v : Nat) : Bool :=
  let e (k : Nat) : Int := if k = sub then sgn 16 v else s.ival (0x3030 + 0x100 * g) k 2
  decide (e 5 < e 6) && decide (e 6 < e 7)

/-- Every value of a WAVE_MAP is one of 0-15. -/
def waveMapOk (bs : Bytes) : Bool := bs.all (fun b => decide (b.toNat ≤ 15))

/-- Galleries: R134, R138-R141, R147, R168. -/
def State.refuseGallery (s : State) (g part sub v : Nat) (bs : Bytes) (host : Bool) : Nat :=
  match part, sub with
  | 0x20, 0x02 => if curveOk bs then 0 else 0xAB01000E
  | 0x20, 0x07 => checkThreshold g v s
  | 0x21, 0x01 => checkLoad g host s
  | 0x21, 0x03 => checkEdit g bs host s
  | 0x21, 0x04 => checkSwap g v host s
  | 0x21, 0x05 => checkSwapCancel g v host s
  | 0x30, 0x05 => if s.bandOrder g 5 v then 0 else 0xAB070001
  | 0x30, 0x06 => if s.bandOrder g 6 v then 0 else 0xAB070001
  | 0x30, 0x07 => if s.bandOrder g 7 v then 0 else 0xAB070001
  | 0x30, 0x08 => if waveMapOk bs then 0 else 0xAB010005
  | _, _ => 0

/-- Lanes, modules and bays: R199, R200, R204, R215. -/
def State.refuseLink (s : State) (idx sub v : Nat) : Nat :=
  if among idx 0x4000 512 then
    (if sub = 0x1C ∧ s.running ((idx - 0x4000) / 16) = false then 0xAB080002 else 0)
  else if among idx 0x5000 32 then
    (if sub = 0x13 then checkTestMode (idx - 0x5000) s
    else if sub = 0x14 ∧ bitOf v 31 = true ∧ v % 16777216 = 0 then 0xAB010005
    else 0)
  else if among idx 0x5800 32 then
    (if sub = 4 ∧ v % 4 ≠ 0 then 0xAB010005
    else if sub = 5 ∧ s.running (idx - 0x5800) = false then 0xAB080002
    else 0)
  else 0

/-- Reserve, compression engine, plans and captions: R96-R98, R103, R107, R121, R126, R129, R132. -/
def State.refuseReserve (s : State) (idx sub v : Nat) (bs : Bytes) : Nat :=
  match idx, sub with
  | 0x6000, 0x05 => if v % 1073741824 = 0 ∧ v < s.res.capacity then 0 else 0xAB010005
  | 0x6000, 0x08 => checkPurge v s
  | 0x6000, 0x09 => checkOpenDirect bs s
  | 0x6000, 0x0B => checkCommitDirect v s
  | 0x6800, 0x04 => checkBundle bs s
  | 0x6100, 0x01 => checkArm bs s
  | 0x6100, 0x02 => checkDisarm v s
  | 0x6200, 0x01 =>
    if v * 1048576 < sumN ((List.range 64).map (fun q => s.val (0x6210 + q) 1)) || (setVal 0x6200 1 v s).heapTooSmall then 0xAB040004 else 0
  | _, _ =>
    if among idx 0x6210 64 then
      (if sub = 1 ∨ sub = 2 ∨ sub = 3 then checkQueueEntry (idx - 0x6210) sub v s
      else if sub = 8 then (if s.enqueuing (idx - 0x6210) then 0xAB010007 else checkEnqueue (idx - 0x6210) v s)
      else if sub = 9 then (if s.enqueuing (idx - 0x6210) then 0xAB010007 else checkRestart (idx - 0x6210) s)
      else 0)
    else 0

/-- Camera contexts and ports: R99, R220, R230-R232. -/
def State.refuseCamera (s : State) (idx sub v : Nat) (bs : Bytes) : Nat :=
  if among idx 0x7000 16 then
    let c := idx - 0x7000
    let s1 := setVal idx sub v s
    match sub with
    | 0x01 => if s1.boundTwice c then 0xAB090001 else if s1.heapTooSmall then 0xAB040004 else 0
    | 0x02 => if s1.boundTwice c then 0xAB090001 else 0
    | 0x03 => if s1.boundTwice c then 0xAB090001 else 0
    | 0x05 => if v % 2 = 1 then 0xAB010005 else if s1.heapTooSmall then 0xAB040004 else 0
    | 0x06 => if v % 2 = 1 then 0xAB010005 else if s1.heapTooSmall then 0xAB040004 else 0
    | 0x10 => if s.defectsOk c bs then 0 else 0xAB090003
    | 0x13 => if bs.length % 4 = 0 then 0 else 0xAB090003
    | 0x14 => checkCommit c s
    | 0x1B => checkFreeze c v s
    | _ => 0
  else if among idx 0x7110 4 then
    (if sub = 5 then checkCci (idx - 0x7110) bs s else 0)
  else if among idx 0x7210 16 then
    (if sub = 1 ∧ regionsOk bs = false then 0xAB0A0005 else 0)
  else 0

/-- Colour loop, drop gate and lamps: R246, R251, R252, R257, R271. A limit is held against the one before it when it is written
itself; the tables refuse no write of the lower one. -/
def State.refuseLoop (s : State) (idx sub v : Nat) : Nat :=
  match idx, sub with
  | 0x7800, 0x04 => if v < s.val 0x7800 3 then 0xAB0A0005 else 0
  | 0x7800, 0x05 => if v < s.val 0x7800 4 then 0xAB0A0005 else 0
  | 0x7800, 0x0A => if v ≤ s.val 0x7800 9 then 0xAB0A0005 else 0
  | 0x7C00, 0x01 => if v = 0 then 0xAB010005 else checkSweep v s
  | 0x7C00, 0x03 => if v ≤ s.val 0x7C00 2 then 0xAB0A0005 else 0
  | 0x7C00, 0x04 => if v < s.val 0x7C00 3 then 0xAB0A0005 else 0
  | _, _ =>
    if among idx 0x7810 8 && sub == 1 then checkLoopEnable (idx - 0x7810) v s
    else if among idx 0x8100 2048 && sub == 1 then checkLamp (idx - 0x8100) v s
    else 0

/-- Pair: R291, R293, R294, R296. -/
def State.refusePair (s : State) (sub : Nat) : Nat :=
  match sub with
  | 0x0A =>
    if s.sys.mode != .idle && s.sys.mode != .ready && s.sys.mode != .print then 0xAB020001
    else if s.pair.peerRole != 4 then 0xAB0C0002
    else if s.pair.hand.isSome then 0xAB0C0005
    else if s.pair.role != .active then 0xAB0C0004
    else 0
  | 0x0B => if s.pair.role == .syncing || s.pair.role == .stale then 0 else 0xAB0C0004
  | 0x0C => if s.pair.role == .syncing || s.pair.role == .standby || s.pair.role == .stale then 0 else 0xAB0C0004
  | _ => 0

/-! Publications (R317) -/

/-- The entries a publication lists: index and subindex. -/
def State.pubEntries (s : State) (p : Nat) : List (Nat × Nat) :=
  let bs := s.dom (0x1610 + p) 6 []
  (List.range (bs.length / 4)).map (fun i => (leAt bs (4 * i) 2, byteAt bs (4 * i + 2)))

/-- The row of an entry. -/
def rowOf (idx sub : Nat) : Option Row :=
  match findGroup idx groups with
  | some (g, _) => findRow sub g.rows
  | none => none

/-- The entry may be published: it is readable, and neither a DOMAIN nor a command. -/
def publishable (e : Nat × Nat) : Bool :=
  match rowOf e.1 e.2 with
  | some r => !r.ty.isDomain && r.acc != .wo && r.acc != .cmd
  | none => false

/-- Bytes that an entry takes in a publication's body. -/
def pubRoom (e : Nat × Nat) : Nat :=
  match rowOf e.1 e.2 with
  | some r => 4 + (r.ty.len + 3) / 4 * 4
  | none => 4

/-- The enabled publications' rates sum to more than 20,000 per second: 1 / PERIOD in microseconds, summed as a fraction. -/
def State.pubTooMany (s : State) : Bool :=
  let f := (List.range 16).foldl (fun (a : Nat × Nat) p =>
    if s.flag (0x1610 + p) 1 then (a.1 * s.val (0x1610 + p) 3 + a.2, a.2 * s.val (0x1610 + p) 3) else a) (0, 1)
  decide (f.2 < 50 * f.1)

/-- The address is a broadcast address: the limited one, or that of the port's subnet. -/
def State.broadcastIp (s : State) (port ip : Nat) : Bool :=
  ip == 0xFFFFFFFF || (s.ipOf port != 0 && ip == (s.ipOf port ||| (0xFFFFFFFF - s.maskOf port)))

/-- Publication p, once enabled, meets R317, in the state that the write would leave. -/
def State.pubRefused (s : State) (p : Nat) : Nat :=
  let es := s.pubEntries p
  let d := destOf (s.val (0x1610 + p) 2)
  if !s.flag (0x1610 + p) 1 then 0
  else if !es.all publishable then 0xAB0D0003
  else if 1424 < 20 + sumN (es.map pubRoom) then 0xAB0D0002
  else if s.pubTooMany then 0xAB0D0005
  else if s.broadcastIp d.1 d.2.2 then 0xAB0D0001
  else 0

/-- A value of ENTRIES is empty, or holds 1 to 32 whole entries (R320); one that does not lies outside the entry's stated range
(R32). That the minimum and the whole entries are checked of the complete value is DEDUCED from R44, log entry 70. -/
def entriesOk (bs : Bytes) : Bool := bs.length % 4 == 0

/-- Network: R299, R300, R304, R313, R317, R318, R320, R404, R438. -/
def State.refuseNet (s : State) (idx sub v : Nat) (bs : Bytes) : Nat :=
  match idx, sub with
  | 0x1A00, 0x02 => if checkIpConfig v ≠ 0 then checkIpConfig v else s.checkSharedConfig 0 v
  | 0x1A10, 0x02 => if checkIpConfig v ≠ 0 then checkIpConfig v else s.checkSharedConfig 1 v
  | 0x1A00, 0x03 => if v % 4096 = 4095 then 0xAB010005 else 0
  | 0x1A10, 0x03 => if v % 4096 = 4095 then 0xAB010005 else 0
  | 0x1A00, 0x07 => if byteAt bs 0 = 0 ∨ 2 < byteAt bs 0 ∨ 31 < byteAt bs 1 then 0xAB010005 else 0
  | 0x1A10, 0x07 => if byteAt bs 0 = 0 ∨ 2 < byteAt bs 0 ∨ 31 < byteAt bs 1 then 0xAB010005 else 0
  | 0x1A20, 0x01 => s.checkShared v s.sharedIp
  | 0x1A20, 0x02 => s.checkShared (s.val 0x1A20 1) (ofBe bs)
  | 0x1400, 0x01 => if s.sys.shutdown then 0xAB02000A else if s.arc.pfail then 0xAB110007 else 0
  | 0x1400, 0x08 => checkCloseSession v s
  | 0x1600, 0x02 => if 1 < byteAt bs 0 then 0xAB010005 else 0
  | _, _ =>
    if among idx 0x1610 16 then
      let p := idx - 0x1610
      let s1 := if sub = 6 then setDom idx sub bs s else setVal idx sub v s
      if sub = 2 ∧ 1 < byteAt bs 0 then 0xAB010005
      else if sub = 6 ∧ entriesOk bs = false then 0xAB010005
      else if (sub = 3 ∨ sub = 4) ∧ s1.val idx 3 ≤ s1.val idx 4 then 0xAB010005
      else s1.pubRefused p
    else 0

/-! Time, Provenance, thermal, DRAM, Archive, modes, firmware, self-test -/

/-- Provenance ring sizes and R99's limit (R337). -/
def State.refuseRing (s : State) (sub v : Nat) : Nat :=
  let sum := if sub = 1 then v + s.val 0x1500 2 else v + s.val 0x1500 1
  if sub ≠ 1 ∧ sub ≠ 2 then 0
  else if sum = 0 ∨ 256 < sum then 0xAB0E0002
  else if (setVal 0x1500 sub v s).heapTooSmall then 0xAB040004
  else 0

/-- The four thresholds of class k stand in order, with entry sub at v; a die sensor's HIGH_TRIP is at most 110.0 degrees C
(R390, R406). -/
def State.refuseThreshold (s : State) (k sub v : Nat) : Nat :=
  let e (j : Nat) : Int := if j = sub then sgn 16 v else s.ival (0x1910 + k) j 2
  if sub = 5 then 0
  else if k = 0 ∧ sub = 4 ∧ 1100 < sgn 16 v then 0xAB010005
  else if e 1 < e 2 ∧ e 2 < e 3 ∧ e 3 < e 4 then 0 else 0xAB110001

/-- DRAM geometry, and a SPARE that would leave no rank in service on a channel (R369). -/
def State.refuseGeometry (s : State) (sub v : Nat) : Nat :=
  let e (j : Nat) : Nat := if j = sub then v else s.val 0x9000 j
  if !geometryOk (e 12) (e 13) (e 14) || (sub == 2 && v != 0 && decide (s.val 0x9000 12 ≤ 1)) then 0xAB100001 else 0

/-- ABORT of slot k (R50, R383): the handle must be its own, and a migration after a retirement goes on. -/
def State.checkAbort (s : State) (k v : Nat) : Nat :=
  let x := s.slot k
  if x.state == .free || v != x.handle then 0xAB01000A
  else match s.migrating k with
    | some (_, m) => if m.byCommand || !x.active then 0 else 0xAB100003
    | none => 0

/-- RELEASE of slot k (R50). -/
def State.checkRelease (s : State) (k v : Nat) : Nat :=
  let x := s.slot k
  if x.state == .free || v != x.handle then 0xAB01000A
  else if x.active then 0xAB010007
  else 0

/-- v is a sensor ID of R388: a die sensor, a channel's, a bay's head or ink, or a lamp's. -/
def isSensorId (v : Nat) : Bool :=
  match v / 4096 with
  | 0 => v % 4096 < 12
  | 1 => v % 4096 < 2
  | 2 => v % 4096 < 512
  | 3 => v % 4096 < 512
  | 4 => v % 4096 < 2048
  | _ => false

/-- The rest of the map below 0x2000, the DRAM and the CRC unit. -/
def State.refuseSystem (s : State) (idx sub v len : Nat) : Nat :=
  match idx, sub with
  | 0x1100, 0x02 => checkModeRequest v s
  | 0x1100, 0x04 => checkPrintGalleries v s
  | 0x1100, 0x09 => checkSafeClear s
  | 0x1120, 0x02 => checkFwUpdate s
  | 0x1120, 0x03 => checkFwConfirm s
  | 0x1500, _ => s.refuseRing sub v
  | 0x1700, 0x01 => if s.sys.shutdown then 0xAB02000A else if s.arc.pfail then 0xAB110007 else 0
  | 0x1800, 0x01 => checkSelftest v s
  | 0x1840, 0x02 => calBarred s
  | 0x1850, 0x05 => if calBarred s ≠ 0 then calBarred s else checkPhoto v s
  | 0x1B00, 0x06 => checkSetTime v s
  | 0x1900, 0x01 => if isSensorId v then 0 else 0xAB010005
  | 0x1120, 0x01 => if inR 1 256 len then 0xAB010005 else 0
  | 0x9000, 0x02 => s.refuseGeometry 2 v
  | 0x9000, 0x0C => s.refuseGeometry 12 v
  | 0x9000, 0x0D => s.refuseGeometry 13 v
  | 0x9000, 0x0E => s.refuseGeometry 14 v
  | 0x9000, 0x0B => checkMigrate v s
  | _, _ =>
    if among idx 0x1310 16 then (if sub = 0x0A then s.checkAbort (idx - 0x1310) v else s.checkRelease (idx - 0x1310) v)
    else if among idx 0x1910 5 then s.refuseThreshold (idx - 0x1910) sub v
    else if among idx 0x9800 16 then
      (if sub = 1 then (if v &&& 0x7FFE8FCC ≠ 0 ∨ field v 5 4 = 3 then 0xAB01000E else 0) else if v &&& 0x7F000000 ≠ 0 then 0xAB01000E else 0)
    else 0

/-- What refuses a write of value bs to the entry idx:sub, beside the Catalogue's own checks; host: it comes from one of the
unit's own routes. A standby takes the active's mode and SAFE latch as they come (R283). -/
def State.refuse (s : State) (idx sub : Nat) (bs : Bytes) (host : Bool) : Nat :=
  let v := ofLe bs
  if !host && idx == 0x1100 then 0
  else if idx = 0x1200 then s.refusePair sub
  else if idx < 0x2000 ∧ (idx / 256 = 0x14 ∨ idx / 256 = 0x16 ∨ idx / 256 = 0x1A) then s.refuseNet idx sub v bs
  else if idx < 0x2000 ∨ 0x9000 ≤ idx then s.refuseSystem idx sub v bs.length
  else if idx < 0x3000 then s.refuseMotion idx sub v
  else if idx < 0x4000 then s.refuseGallery ((idx - 0x3000) / 256) (idx % 256) sub v bs host
  else if idx < 0x6000 then s.refuseLink idx sub v
  else if idx < 0x7000 then s.refuseReserve idx sub v bs
  else if idx < 0x7800 then s.refuseCamera idx sub v bs
  else s.refuseLoop idx sub v

end Sys2Proof.Machine
end

