-- ==== Sys2Proof/Machine/Apply.lean ====
section
/-! DEFINITION. What an accepted write of an entry does: the long operation it starts, the value it stores, and the action
that its chapter gives it. -/

namespace Sys2Proof.Machine

/-! Long operations -/

/-- The gallery of an index of the galleries' range, if its low byte is part. -/
def galleryAt (idx part : Nat) : Option Nat :=
  if among idx 0x3000 0x800 && idx % 256 == part then some ((idx - 0x3000) / 256) else none

/-- The resources that the long operation of a write of v to idx:sub claims (R49); none where the write starts none. -/
def opRes (idx sub v : Nat) : Option Nat :=
  match idx, sub with
  | 0x1100, 0x0D => some 1
  | 0x1120, 0x02 => some (2 ^ 19)
  | 0x1200, 0x0A => some (2 ^ 18)
  | 0x1200, 0x0B => some (2 ^ 3 + 2 ^ 18)
  | 0x1700, 0x01 => some 1
  | 0x1840, 0x02 => some (2 ^ 17)
  | 0x1850, 0x05 => some (2 ^ 17)
  | 0x6000, 0x08 => some (2 ^ 3)
  | 0x6000, 0x0B => some 0
  | 0x6800, 0x04 => some 0
  | 0x7C00, 0x01 => some 0x1FF00
  | 0x9000, 0x09 => some 6
  | 0x9000, 0x0A => some (2 * v)
  | 0x9000, 0x0B => some (2 ^ (1 + v / 4))
  | _, _ =>
    match galleryAt idx 0x21 with
    | some g => if sub = 1 then some (2 ^ (8 + g)) else none
    | none =>
      if among idx 0x4000 512 && sub == 0x1C then some 0
      else if among idx 0x5000 32 && sub == 0x0A then some 0
      else if among idx 0x6210 64 && sub == 8 then some 0
      else if among idx 0x7110 4 && sub == 5 then some 0
      else none

/-- The resource that an entry belongs to: a write of it is refused while an operation claims it (R49). The spec does not list the
entries of each resource: those that edit a gallery's nozzle tables, the drop gate's settings, the calibration references and
FW_IMAGE are taken, and no entry belongs to the Reserve allocation, the DRAM channels or the pair link (DESIGN CHOICE, log entry
70). -/
def resOfEntry (idx sub : Nat) : Nat :=
  match galleryAt idx 0x21 with
  | some g => if 3 ≤ sub ∧ sub ≤ 5 then 2 ^ (8 + g) else 0
  | none =>
    if idx = 0x7C00 ∧ 2 ≤ sub ∧ sub ≤ 8 then 2 ^ 16
    else if idx = 0x1840 ∧ sub = 1 then 2 ^ 17
    else if idx = 0x1850 ∧ 1 ≤ sub ∧ sub ≤ 4 then 2 ^ 17
    else if idx = 0x1120 ∧ sub = 1 then 2 ^ 19
    else 0

/-- HANDOVER accepted as the operation of slot k: M_h goes to the peer, and n_y is taken (R291). -/
def beginHandover (k : Nat) (s : State) : State :=
  let mh := wrapAdd 32 s.lc.lastTick 64
  emit (.pair (.handover mh)) { s with pair := { s.pair with
    hand := some { mh := mh, ny := (List.range 8).map (fun g => (g, s.lastOldLine g mh)), taking := false, lanesDone := 0
                   confirmed := false, yieldedAt := none, slot := k } } }

/-- What the start of the operation in slot k does besides taking the slot. -/
def beginOp (k idx sub v : Nat) (bs : Bytes) (s : State) : State :=
  match idx, sub with
  | 0x1100, 0x0D => { s with sys := { s.sys with shutdown := true } }
  | 0x1200, 0x0A => beginHandover k s
  | 0x1200, 0x0B => { s with pair := { s.pair with imageDone := false, aligned := false, mirrorNext := none, confirmed := 0xFFFFFFFF } }
  | 0x6000, 0x0B => beginDirect v s
  | 0x9000, 0x0B => beginMigrate v k s
  | _, _ =>
    match galleryAt idx 0x21 with
    | some g => beginLoad g s
    | none =>
      if among idx 0x4000 512 then sendWave k 0 s
      else if among idx 0x5000 32 then retrain (idx - 0x5000) k s
      else if among idx 0x7110 4 then requestCci (idx - 0x7110) k bs s
      else s

/-! How an aborted operation leaves its resource -/

/-- The segment of an aborted COMMIT_DIRECT is gone (R96). -/
def dropCommitDirect (id : Nat) (s : State) : State := noteReserve (dropDirect id s)

/-- An aborted CCI_REQUEST: a transaction already on the bus runs to its end, one not yet started is dropped. -/
def dropCci (p : Nat) (s : State) : State :=
  let x := s.port p
  match x.raw with
  | some (_, req) => setPort p { x with raw := if x.job == some .raw then some (16, req) else none } s
  | none => s

/-- What stands open for the operation in slot k is undone. -/
def cleanOp (k : Nat) (s : State) : State :=
  let x := s.slot k
  match x.kindIndex, x.kindSub with
  | 0x1700, 0x01 => if s.committing = some k then dropCommit s else s
  | 0x1850, 0x05 => dropPhoto s
  | 0x6000, 0x0B => dropCommitDirect (ofLe x.arg) s
  | 0x6800, 0x04 => dropDeflate k s
  | 0x7C00, 0x01 => abortSweep k s
  | 0x9000, 0x0B =>
    match s.migrating k with
    | some (c, _) => undoMigrate c k s
    | none => s
  | idx, _ =>
    match galleryAt idx 0x21 with
    | some g => setSpare g .empty s
    | none =>
      if among idx 0x5000 32 then
        setLane (idx - 0x5000) { s.lane (idx - 0x5000) with retrains := (s.lane (idx - 0x5000)).retrains.filter (fun j => j != k) } s
      else if among idx 0x7110 4 then dropCci (idx - 0x7110) s
      else s

/-- The operation in slot k ends ABORTED, its resource as its chapter leaves it. -/
def endAborted (k : Nat) (s : State) : State :=
  endOp k .aborted (s.slot k).abortCode (cleanOp k s)

/-- ABORT accepted for slot k: a queued operation ends at once, a running one at its next slice boundary (R50). -/
def abortSlot (k : Nat) (s : State) : State :=
  let x := s.slot k
  let code := abortByCommand x.kindIndex x.kindSub
  match x.state with
  | .queued => endAborted k (setSlot k { x with abortCode := code } s)
  | _ => abortOp k code s

/-! Actions of single entries. The value stands already in the entry; old is the one it replaced. -/

/-- DECLARE_DEGRADED accepted: the unit stops shadowing, takes IDLE as its own mode and enters DEGRADED (R294). -/
def declareDegraded (s : State) : State :=
  let s1 := failResync s
  let s2 := { s1 with pair := { s1.pair with role := .degraded, mirrorNext := none, hand := none, aligned := false } }
  placeLanes (if s2.sys.mode == .idle then s2 else changeMode .idle 0 0 (forceAborts .idle s2))

/-- One MDIO frame; a read returns what the PHY answers, a free value here (R298, log entry 5). -/
def mdioFrame (p : Nat) (bs : Bytes) (s : State) : State :=
  let isWrite := byteAt bs 0 == 2
  let s1 := emit (.mdio p isWrite (s.netCfg p 6) (byteAt bs 1) (leAt bs 2 2)) s
  if isWrite then s1 else draw (setVal (0x1A00 + 0x10 * p) 8 ((Config.freeValue s.free).toNat % 65536) s1)

/-- A port's MODE is written: a link that the mode cannot have goes down (R298). -/
def netModeChanged (p : Nat) (s : State) : State :=
  if linkFits (s.netCfg p 1) (s.linkOf p) then s else netLink p 0 s

/-- A publication's ENABLE is written: its SEQ counts from 1 at each enable (R317). -/
def publicationSet (p v : Nat) (s : State) : State :=
  if v = 1 then { s with net := { s.net with pubSeq := tset s.net.pubSeq p 0 } } else s

/-- Entries below 0x2000. -/
def actLow (idx sub v : Nat) (bs : Bytes) (host : Bool) (s : State) : State :=
  match idx, sub with
  | 0x1100, 0x02 => requestMode v s
  | 0x1100, 0x04 => printGalleries v s
  | 0x1100, 0x09 => safeClear s
  | 0x1100, 0x0A => if host then safeSet 0 s else takeCause 0 s
  | 0x1100, 0x0B => { s with sys := { s.sys with resetAt := some (s.clk.core + msCk 1) } }
  | 0x1120, 0x03 => fwConfirm s
  | 0x1200, 0x0C => declareDegraded s
  | 0x1400, 0x01 => keyWrite bs s
  | 0x1400, 0x08 => closeSessions v s
  | 0x1800, 0x01 => startSelftest v s
  | 0x1A00, 0x01 => netModeChanged 0 s
  | 0x1A10, 0x01 => netModeChanged 1 s
  | 0x1A00, 0x02 => ipChanged 0 s
  | 0x1A10, 0x02 => ipChanged 1 s
  | 0x1A00, 0x07 => mdioFrame 0 bs s
  | 0x1A10, 0x07 => mdioFrame 1 bs s
  | 0x1A20, _ => announceShared s
  | 0x1B00, 0x06 => setTime v s
  | 0x1B10, _ => ptpConfigured s
  | _, _ =>
    if among idx 0x1610 16 && sub == 1 then publicationSet (idx - 0x1610) v s
    else if among idx 0x1310 16 then (if sub = 0x0A then abortSlot (idx - 0x1310) s else setSlot (idx - 0x1310) {} s)
    else s

/-- ORIGIN accepted; an active unit aligns its peer anew (R71, R284). -/
def originWritten (v : Nat) (s : State) : State :=
  let s1 := origin v s
  { s1 with pair := { s1.pair with alignAt := none } }

/-- Motion and gates, 0x2000-0x22FF. A write of XCHECK_RATIO or XCHECK_WINDOW drops the window in progress and starts one at once, also while REVERSED;
R58 says nothing of such a write (DESIGN CHOICE, log entry 71). -/
def actMotion (idx sub v old : Nat) (s : State) : State :=
  match idx, sub with
  | 0x2000, 0x01 => if v = old then s else enableEnc0 s
  | 0x2000, 0x04 => restartIndex 0 s
  | 0x2000, 0x06 => restartIndex 0 s
  | 0x2010, 0x04 => restartIndex 1 s
  | 0x2010, 0x06 => restartIndex 1 s
  | 0x2100, 0x07 => startWindow s
  | 0x2100, 0x08 => startWindow s
  | 0x2100, 0x0C => originWritten v s
  | 0x2210, 0x02 => faultClear v s
  | _, _ =>
    if among idx 0x2080 16 then (if sub = 1 ∨ sub = 2 then checkCmp (idx - 0x2080) s else s)
    else if among idx 0x20C0 2 then (if sub = 1 then enableEmu (idx - 0x20C0) s else s)
    else if among idx 0x2200 8 then (if sub = 2 then enableGate (idx - 0x2200) s else if sub = 3 then judgeGate (idx - 0x2200) s else s)
    else s

/-- Galleries, 0x3000-0x37FF; host: the write comes from one of the unit's own routes. -/
def actGallery (g part sub v : Nat) (bs : Bytes) (host : Bool) (s : State) : State :=
  match part, sub with
  | 0x20, 0x07 => loadThreshold g v s
  | 0x21, 0x03 => editTable g bs s
  | 0x21, 0x04 => armSwap g v (if host then 0 else b2n (s.loopOwns g)) s
  | 0x21, 0x05 => cancelSwap g s
  | 0x30, 0x03 => setVal (0x3030 + 0x100 * (g ^^^ 1)) 3 v s
  | 0x30, 0x08 => forEach (lanesOf g) writeWaveMap s
  | _, _ => s

/-- ID_OVERRIDE of bay b is written (R210): a head whose record failed, or that did not answer, is taken or no longer taken. -/
def overrideHead (b v : Nat) (s : State) : State :=
  let x := s.bay b
  match x.idState with
  | .disabled => if v = 1 then setBay b { x with idState := .overridden } s else s
  | .noAnswer => if v = 1 then setBay b { x with idState := .overridden } s else s
  | .overridden => if v = 1 then s else setBay b { x with idState := if x.idFault = 0xFE then .noAnswer else .disabled } s
  | _ => s

/-- Bays, lanes and modules, 0x4000-0x58FF. -/
def actLink (idx sub v old : Nat) (s : State) : State :=
  if among idx 0x4000 512 then
    (if sub = 0x01 then placeLanes s else if sub = 0x13 then overrideHead (idx - 0x4000) v s else s)
  else if among idx 0x5000 32 then
    (if sub = 0x01 ∨ sub = 0x02 then placeLanes s
    else if sub = 0x13 then writeTestMode (idx - 0x5000) s
    else if sub = 0x14 then writeInject (idx - 0x5000) old s
    else s)
  else s

/-- The Reserve, plans and captions, 0x6000-0x68FF. -/
def actReserve (idx sub v old : Nat) (bs : Bytes) (s : State) : State :=
  match idx, sub with
  | 0x6000, 0x04 => noteReserve s
  | 0x6000, 0x09 => openDirect bs s
  | 0x6000, 0x0C => holdNetwork bs s
  | 0x6100, 0x01 => armPlanNow bs s
  | 0x6100, 0x02 => disarm s
  | _, _ =>
    if among idx 0x6210 64 then
      let q := idx - 0x6210
      (if sub = 1 ∨ sub = 2 ∨ sub = 3 then queueChanged q old v s
      else if sub = 9 then emptyQueue q v s
      else s)
    else s

/-- Cameras, 0x7000-0x72FF. -/
def actCamera (idx sub v old : Nat) (s : State) : State :=
  if among idx 0x7000 16 then
    let c := idx - 0x7000
    (match sub with
      | 0x01 => enableCtx c v old s
      | 0x07 => pipeWritten c s
      | 0x0C => pipeWritten c s
      | 0x0D => pipeWritten c s
      | 0x0E => pipeWritten c s
      | 0x0F => pipeWritten c s
      | 0x10 => pipeWritten c s
      | 0x11 => pipeWritten c s
      | 0x14 => commitExposure c s
      | 0x1B => freezeCtx c v s
      | _ => s)
  else if among idx 0x7110 4 && sub == 1 then enablePort (idx - 0x7110) s
  else s

/-- From 0x7800. -/
def actHigh (idx sub v : Nat) (s : State) : State :=
  if idx = 0x9000 ∧ sub = 8 then writeExclude (s.dram.exclude - (s.dram.exclude &&& v)) s
  else if among idx 0x7810 8 && sub == 1 then enableLoop (idx - 0x7810) s
  else if among idx 0x8000 4 && sub == 1 then enableChain (idx - 0x8000) s
  else if among idx 0x8000 4 && sub == 2 then retypeChain (idx - 0x8000) s
  else if among idx 0x8100 2048 && sub == 1 then enableLamp (idx - 0x8100) s
  else s

/-- The action that a chapter gives a write of an entry, beside its value. -/
def actOwn (idx sub old : Nat) (bs : Bytes) (host : Bool) (s : State) : State :=
  let v := ofLe bs
  if idx < 0x2000 then actLow idx sub v bs host s
  else if idx < 0x3000 then actMotion idx sub v old s
  else if idx < 0x4000 then actGallery ((idx - 0x3000) / 256) (idx % 256) sub v bs host s
  else if idx < 0x6000 then actLink idx sub v old s
  else if idx < 0x7000 then actReserve idx sub v old bs s
  else if idx < 0x7800 then actCamera idx sub v old s
  else actHigh idx sub v s

/-- The entry sets the size of a region of the Reserve (R99). -/
def sizesRegion (idx sub : Nat) : Bool :=
  (idx == 0x1500 && (sub == 1 || sub == 2)) || (idx == 0x6200 && sub == 1) ||
    (among idx 0x7000 16 && (sub == 1 || sub == 5 || sub == 6))

/-- The same, with RESERVE_LOW where the heap's free share crosses its thresholds because a region took a new size (R100). -/
def actEntry (idx sub old : Nat) (bs : Bytes) (host : Bool) (s : State) : State :=
  let s1 := actOwn idx sub old bs host s
  if sizesRegion idx sub then noteReserve s1 else s1

/-! Storing a value -/

/-- What an entry keeps of a written value: reserved bits read as 0 (R7). -/
def keptBits (idx sub v : Nat) : Nat :=
  if (idx = 0x1A00 ∨ idx = 0x1A10) ∧ sub = 3 then v &&& 0xEFFF
  else if idx = 0x6800 ∧ sub = 7 then v &&& 0x00030303
  else if idx = 0x1600 ∧ sub = 3 then v &&& 0x7FFFE
  else if (idx = 0x1600 ∨ among idx 0x1610 16) ∧ sub = 2 then v - v / 256 % 256 * 256
  else if among idx 0x5000 32 ∧ sub = 0x14 then v - v / 2 ^ 30 % 2 * 2 ^ 30
  else v

/-- The value of a plain write is stored; a write-only entry holds none. -/
def storeValue (idx : Nat) (r : Row) (bs : Bytes) (s : State) : State :=
  if r.acc == .wo then s else setVal idx r.sub (keptBits idx r.sub (ofLe bs)) s

/-- The value of a completed block write is stored; a container for the network ring goes to its holder only. -/
def storeDomain (idx : Nat) (r : Row) (bs : Bytes) (s : State) : State :=
  if idx = 0x6000 then s else setDom idx r.sub bs s

/-- An accepted write of an entry is applied whole: RESULT, DATA and the state (R36, R43, R50). -/
def applyEntry (idx : Nat) (r : Row) (bs : Bytes) (host : Bool) (s : State) : Nat × Bytes × State :=
  if r.ty.isDomain then (0, [], actEntry idx r.sub 0 bs host (storeDomain idx r bs s))
  else
    match opRes idx r.sub (ofLe bs) with
    | none => (0, [], actEntry idx r.sub (s.val idx r.sub) bs host (storeValue idx r bs s))
    | some res =>
      match s.freeSlot with
      | none => (0xAB010009, [], s)
      | some k =>
        let s1 := startOp k idx r.sub res bs (storeValue idx r bs s)
        (0, le 4 (s1.slot k).handle, beginOp k idx r.sub (ofLe bs) bs s1)

end Sys2Proof.Machine
end

