-- ==== Sys2Proof/Machine/Respond.lean ====
section
/-! DEFINITION. The checks of R47 on a Catalogue transaction, and where its response goes (R41, R47, R310, R349). -/

namespace Sys2Proof.Machine

/-! Responses -/

/-- Body of the response to a transaction (R41). -/
def respBody (t : Trans) (result : Nat) (data : Bytes) : Bytes :=
  [BitVec.ofNat 8 (t.service ||| 128), 0] ++ le 2 t.index ++ [BitVec.ofNat 8 t.sub, 0] ++ le 2 data.length ++ le 4 result ++ data

/-- The mailbox answers: MB_RESPONSE, MB_RESP_LENGTH and TAG, BUSY and DONE, and source 12 (R349). -/
def answerMailbox (tag : Nat) (body : Bytes) (s : State) : State :=
  pendIrq 12 { s with host := { s.host with mailbox := { s.host.mailbox with
    response := body, respLen := body.length, tag := tag, busy := false, done := true } } }

/-- A session's request is answered: the RESPONSE is kept with the request and sent to where its frame came from (R301, R310). -/
def answerSession (k seq : Nat) (body : Bytes) (s : State) : State :=
  match s.net.sessions.find? (fun p => p.1 == k) with
  | none => s
  | some (_, x) =>
    let msg := tagged x.key (s.message 0x83 x.id seq body)
    let store := x.store.map (fun e => if e.seq == seq then { e with reply := some msg } else e)
    let src := match x.store.find? (fun e => e.seq == seq) with | some e => e.src | none => x.src
    replyUdp src msg { s with net := { s.net with sessions := tset s.net.sessions k { x with store := store } } }

/-- A transaction is answered on the way it came. -/
def respond (t : Trans) (result : Nat) (data : Bytes) (s : State) : State :=
  match t.origin with
  | .mailbox tag => answerMailbox tag (respBody t result data) s
  | .request k seq => answerSession k seq (respBody t result data) s
  | .direct r => emit (.response r t.service t.index t.sub result data) s
  | .peer seq => confirm seq result s
  | .ident src => replyUdp src (s.message 0x86 0 0 (respBody t result data)) s
  | .silent _ => s

/-- It is refused with a code. -/
def refuseWith (t : Trans) (code : Nat) (s : State) : State := respond t code [] s

/-! Where a transaction comes from -/

/-- The route's number: 0 the mailbox, 1 + slot a session, 9 a session that has closed or none, 10 the peer. -/
def Trans.route (t : Trans) : Nat :=
  match t.origin with
  | .mailbox _ => 0
  | .request k _ => xferKey k
  | .direct r => r
  | .silent r => r
  | .peer _ => 10
  | .ident _ => 9

/-- It comes from one of the unit's own routes. -/
def Trans.host (t : Trans) : Bool := t.route ≤ 9

/-! The checks of R47 -/

/-- Stage 1: the entry, or the code of its absence. -/
def findEntry (idx sub : Nat) : Nat × Option Row :=
  match findGroup idx groups with
  | none => (0xAB010001, none)
  | some (g, _) =>
    match findRow sub g.rows with
    | none => (0xAB010002, none)
    | some r => (0, some r)

/-- Stage 2 (R296, R313): KEY is written through the mailbox only; a single engine has three pair entries. -/
def State.routeCode (s : State) (t : Trans) : Nat :=
  if t.index = 0x1400 ∧ t.sub = 1 ∧ 1 ≤ t.route ∧ t.route ≤ 9 ∧ (t.service = 2 ∨ t.service = 4 ∨ t.service = 5) then 0xAB010008
  else if t.index = 0x1200 ∧ s.pair.member = false ∧ ¬ (1 ≤ t.sub ∧ t.sub ≤ 3) then 0xAB0C0003
  else 0

/-- An entry that R282 keeps for the active unit. -/
def activeOnly (idx : Nat) (r : Row) : Bool :=
  r.mirrored || among idx 0x2000 0x300 || among idx 0x3000 0x3400 || among idx 0x6800 0x100 || among idx 0x7800 0x1100 ||
    among idx 0x9800 0x100

/-- The first of a list of checks that fails gives its code; 0 when none does. -/
def firstCode : List (Bool × Nat) → Nat
  | [] => 0
  | (fails, code) :: rest => if fails then code else firstCode rest

/-- Stages 3 to 8 on a plain write of bs to an entry. What a chapter refuses stands at the stage its code belongs to; SELFTEST's
own order holds for what R442 lists. -/
def State.writeCode (s : State) (idx : Nat) (r : Row) (bs : Bytes) (host : Bool) : Nat :=
  let own := s.refuse idx r.sub bs host
  let plain := !r.ty.isDomain
  firstCode [
    (r.acc == .ro, 0xAB010003),
    (!plain && host, 0xAB010006),
    (plain && !r.ty.lengthOk bs.length, 0xAB010006),
    (plain && !r.ty.encodingOk bs, 0xAB01000E),
    (own == 0xAB01000E, own),
    (idx == 0x1800 && own != 0, own),
    (r.modes != 0 && !bitOf r.modes s.sys.mode.code, 0xAB020001),
    (own == 0xAB020001, own),
    (plain && idx != 0x1800 && !r.rng.ok (r.ty.value (ofLe bs)), 0xAB010005),
    (own == 0xAB010005, own),
    (s.resBusy (resOfEntry idx r.sub), 0xAB010007),
    (own == 0xAB010007, own),
    (host && !s.inControl && activeOnly idx r, 0xAB0C0001),
    (own != 0, own),
    (plain && (opRes idx r.sub (ofLe bs)).isSome && s.freeSlot.isNone, 0xAB010009)]

/-- The mode that the entry asks for is not the present one: as its table lists it, or as its own rule states (R31). -/
def State.modeBars (s : State) (idx : Nat) (r : Row) (bs : Bytes) (host : Bool) : Bool :=
  (r.modes != 0 && !bitOf r.modes s.sys.mode.code) || s.refuse idx r.sub bs host == 0xAB020001

/-- The code of a value written whole by a block transfer: what the entry's content, mode and owner refuse (R44). -/
def State.contentCode (s : State) (idx : Nat) (r : Row) (bs : Bytes) : Nat :=
  let own := s.refuse idx r.sub bs true
  firstCode [
    (own == 0xAB01000E, own),
    (s.modeBars idx r bs true, 0xAB020001),
    (own == 0xAB010005, own),
    (s.resBusy (resOfEntry idx r.sub), 0xAB010007),
    (!s.inControl && activeOnly idx r, 0xAB0C0001),
    (own != 0, own)]

end Sys2Proof.Machine
end

