-- ==== Sys2Proof/Machine/Serve.lean ====
section
/-! DEFINITION. Catalogue transactions: reads, writes and block transfers, one at a time in the order in which they are
accepted (R30-R47), with those that a standby confirms first (R35, R280) and REG_DATA (R215). -/

namespace Sys2Proof.Machine

/-! Writes -/

/-- An accepted write is applied and answered. -/
def finishWrite (t : Trans) (idx : Nat) (r : Row) (bs : Bytes) (s : State) : State :=
  let a := applyEntry idx r bs t.host s
  respond t a.1 a.2.1 a.2.2

/-- The service as it crosses the pair link: a whole value in one WRITE, however it came (DESIGN CHOICE, log entry 20). -/
def Trans.mirrored (t : Trans) (bs : Bytes) : Trans := { t with service := 2, data := bs }

/-- A write that has passed its checks: a standby confirms a mirrored one before it is applied; a peer that resynchronises is
told of it; any other is applied at once (R35, R280, R293). -/
def commitWrite (t : Trans) (idx : Nat) (r : Row) (bs : Bytes) (s : State) : State :=
  if !t.host || !r.mirrored || !s.mirrors then finishWrite t idx r bs s
  else if s.hasStandby then
    mirrorSend (fun n => .mirror n (t.mirrored bs))
      { s with cat := { s.cat with mirror := some (s.pair.mirrorSeq, { t with data := bs }, s.clk.core) } }
  else finishWrite t idx r bs (mirrorSend (fun n => .mirror n (t.mirrored bs)) s)

/-- An ARM that reaches check 6 of R126 leaves its figures, accepted or refused. -/
def noteArm (idx sub code : Nat) (bs : Bytes) (s : State) : State :=
  if idx = 0x6100 ∧ sub = 1 ∧ (code = 0 ∨ code = 0xAB050006 ∨ code = 0xAB050007) then noteBudget bs s else s

/-- A write of REG_DATA goes to the module, and waits for its answer (R215). -/
def regWrite (t : Trans) (l : Nat) (s : State) : State :=
  ctrlWrite l (s.val (0x5800 + l) 4) t.data .regWrite { s with cat := { s.cat with reg := some ⟨t, l, none⟩ } }

/-- WRITE. -/
def serveWrite (t : Trans) (r : Row) (s : State) : State :=
  let code := s.writeCode t.index r t.data t.host
  let s1 := noteArm t.index t.sub code t.data s
  if code ≠ 0 then refuseWith t code s1
  else if among t.index 0x5800 32 && t.sub == 5 then regWrite t (t.index - 0x5800) s1
  else commitWrite t t.index r t.data s1

/-! Reads -/

/-- Entries that read as a free value (log entry 42). -/
def readsFree (idx sub : Nat) : Bool := among idx 0x9010 2 && (8 ≤ sub && sub ≤ 10)

/-- READ. -/
def serveRead (t : Trans) (r : Row) (s : State) : State :=
  if r.acc == .wo then refuseWith t 0xAB010004 s
  else if r.ty.isDomain then refuseWith t 0xAB010006 s
  else if among t.index 0x5800 32 && t.sub == 5 then
    let l := t.index - 0x5800
    if s.running l then ctrlRead l (s.val t.index 4) 4 .regRead { s with cat := { s.cat with reg := some ⟨t, l, none⟩ } }
    else refuseWith t 0xAB080002 s
  else respond t 0 (s.readBytes t.index r) (if readsFree t.index t.sub then draw s else s)

/-! Block transfers (R44, R45) -/

/-- The open transfer of a route. -/
def State.xfer (s : State) (key : Nat) : Option Xfer := (s.cat.xfers.find? (fun p => p.1 == key)).map (fun p => p.2)

/-- A route's transfer opens or goes on; a session that has closed opens none. -/
def putXfer (key : Nat) (x : Xfer) (s : State) : State :=
  if 8 < key then s else { s with cat := { s.cat with xfers := tset s.cat.xfers key x } }

/-- A route's transfer ends. -/
def endXfer (key : Nat) (s : State) : State := { s with cat := { s.cat with xfers := terase s.cat.xfers key } }

/-- Transfers with no service for 1 s are cancelled. -/
def dropIdle (s : State) : State :=
  { s with cat := { s.cat with xfers := s.cat.xfers.filter (fun p => decide (s.clk.core < p.2.lastAt + sCk 1)) } }

/-- The entry allows the length of a value: not above its maximum, and no other than its fixed length where it has one (R44). -/
def lengthAllowed (r : Row) (n : Nat) : Bool :=
  match r.ty with
  | .domain lo hi => decide (n ≤ hi) && (lo != hi || n == hi)
  | _ => false

/-- A write transfer of an entry is open, or a container for the network ring is still in progress (R45, R97). -/
def State.entryBusy (s : State) (idx sub : Nat) : Bool :=
  s.cat.xfers.any (fun p => p.2.write && p.2.index == idx && p.2.sub == sub) ||
    (idx == 0x6000 && sub == 0x0C && s.val 0x6000 13 == 0xFFFFFFFF)

/-- BLOCK_READ_START. -/
def serveReadStart (t : Trans) (r : Row) (s : State) : State :=
  let code := firstCode [
    (r.acc == .wo, 0xAB010004), (!r.ty.isDomain, 0xAB010006), ((s.xfer t.route).isSome, 0xAB010007)]
  let bs := s.readDomain t.index t.sub
  if code ≠ 0 then refuseWith t code s
  else
    respond t 0 (le 4 bs.length ++ le 4 (crc32c bs))
      (if bs.isEmpty then s else putXfer t.route ⟨false, t.index, t.sub, bs.length, crc32c bs, bs, s.clk.core⟩ s)

/-- A whole value has come by block transfer: its check value, then its content, then it is applied. -/
def completeWrite (t : Trans) (r : Row) (crc : Nat) (bs : Bytes) (s : State) : State :=
  if crc32c bs ≠ crc then refuseWith t 0xAB01000C s
  else
    let code := s.contentCode t.index r bs
    if code ≠ 0 then refuseWith t code s else commitWrite t t.index r bs s

/-- BLOCK_WRITE_START. -/
def serveWriteStart (t : Trans) (r : Row) (s : State) : State :=
  let total := leAt t.data 0 4
  let code := firstCode [
    (r.acc == .ro, 0xAB010003), (!r.ty.isDomain, 0xAB010006), (t.data.length != 8, 0xAB010006),
    (!lengthAllowed r total, 0xAB010006), (r.modes != 0 && !bitOf r.modes s.sys.mode.code, 0xAB020001),
    (s.resBusy (resOfEntry t.index t.sub), 0xAB010007), ((s.xfer t.route).isSome, 0xAB010007),
    (s.entryBusy t.index t.sub, 0xAB010007), (!s.inControl && activeOnly t.index r, 0xAB0C0001)]
  if code ≠ 0 then refuseWith t code s
  else if total = 0 then completeWrite t r (leAt t.data 4 4) [] s
  else respond t 0 [] (putXfer t.route ⟨true, t.index, t.sub, total, leAt t.data 4 4, [], s.clk.core⟩ s)

/-- The open transfer that a segment continues: of its direction and its entry. -/
def State.xferFor (s : State) (t : Trans) (write : Bool) : Option Xfer :=
  match s.xfer t.route with
  | some x => if x.write == write && x.index == t.index && x.sub == t.sub then some x else none
  | none => none

/-- BLOCK_WRITE_SEGMENT. -/
def serveWriteSegment (t : Trans) (r : Row) (s : State) : State :=
  if r.acc == .ro then refuseWith t 0xAB010003 s
  else if t.data.length < 5 then refuseWith t 0xAB010006 s
  else
    match s.xferFor t true with
    | none => refuseWith t 0xAB01000D s
    | some x =>
      let seg := t.data.drop 4
      let n := x.data.length + seg.length
      if leAt t.data 0 4 ≠ x.data.length ∨ x.total < n then refuseWith t 0xAB01000B (endXfer t.route s)
      else if n < x.total then respond t 0 [] (putXfer t.route { x with data := x.data ++ seg, lastAt := s.clk.core } s)
      else completeWrite t r x.crc (x.data ++ seg) (endXfer t.route s)

/-- Data bytes that a read segment may return on a route (R311, R350). -/
def segmentLimit (route : Nat) : Nat := if route = 0 then 4084 else 1412

/-- BLOCK_READ_SEGMENT. Which refused segments count as a service that renews the transfer's 1 s R45 does not say: one at an offset
at or beyond the length does, one whose data or requested length is wrong does not (DESIGN CHOICE, log entry 70). -/
def serveReadSegment (t : Trans) (r : Row) (s : State) : State :=
  let want := leAt t.data 4 2
  if r.acc == .wo then refuseWith t 0xAB010004 s
  else if t.data.length ≠ 6 then refuseWith t 0xAB010006 s
  else if want = 0 ∨ segmentLimit t.route < want then refuseWith t 0xAB010005 s
  else
    match s.xferFor t false with
    | none => refuseWith t 0xAB01000D s
    | some x =>
      let o := leAt t.data 0 4
      let s1 := putXfer t.route { x with lastAt := s.clk.core } s
      if x.total ≤ o then refuseWith t 0xAB010005 s1
      else respond t 0 (sliceB x.data o want) (if x.total ≤ o + want then endXfer t.route s else s1)

/-! One transaction -/

/-- A read of the vendor range returns values that the manual does not define; it serves nothing else (R39). -/
def serveVendor (t : Trans) (s : State) : State :=
  if t.service = 1 then respond t 0 (le 4 (Config.vendorRead t.index t.sub s.free).toNat) (draw s)
  else refuseWith t 0xAB010008 s

/-- A service on an entry that exists and that its route may reach. -/
def serveEntry (t : Trans) (r : Row) (s : State) : State :=
  match t.service with
  | 1 => serveRead t r s
  | 2 => serveWrite t r s
  | 3 => serveReadStart t r s
  | 4 => serveWriteStart t r s
  | 5 => serveWriteSegment t r s
  | 6 => serveReadSegment t r s
  | _ => respond t 0 [] (endXfer t.route s)

/-- RESULT and DATA of an identity read (R312). -/
def State.identResult (s : State) (idx sub : Nat) : Nat × Bytes :=
  if isVendor idx then (0xAB010008, [])
  else
    match findEntry idx sub with
    | (code, none) => (code, [])
    | (_, some r) => if idx = 0x1000 then (0, s.readBytes idx r) else (0xAB010008, [])

/-- It is an identity read that came without a session. -/
def Trans.isIdent (t : Trans) : Bool :=
  match t.origin with
  | .ident _ => true
  | _ => false

/-- A transaction is executed (R36, R41, R47). -/
def serveNow (t : Trans) (s : State) : State :=
  let s1 := dropIdle s
  if t.isIdent then respond t (s1.identResult t.index t.sub).1 (s1.identResult t.index t.sub).2 s1
  else if t.service = 0 ∨ 7 < t.service then refuseWith t 0xAB01000E s1
  else if isVendor t.index then serveVendor t s1
  else
    match findEntry t.index t.sub with
    | (code, none) => refuseWith t code s1
    | (_, some r) => if s1.routeCode t ≠ 0 then refuseWith t (s1.routeCode t) s1 else serveEntry t r s1

/-! Transactions that wait (R36) -/

/-- The transaction of REG_DATA is answered, once the module has answered it or its lane has left RUN. -/
def answerRegWait (s : State) : State :=
  match s.cat.reg with
  | none => s
  | some w =>
    let s1 := { s with cat := { s.cat with reg := none } }
    match w.result with
    | some (code, data) => respond w.trans code (if w.trans.service = 1 then data else []) s1
    | none => if s.running w.lane then s else refuseWith w.trans 0xAB080002 s1

/-- A transaction is under way that others wait behind. -/
def State.blocked (s : State) : Bool := s.cat.mirror.isSome || s.cat.reg.isSome

/-- Transactions that wait are executed in order, until one waits itself. -/
def serveQueue : Nat → State → State
  | 0, s => s
  | n + 1, s =>
    if s.blocked then s
    else
      match s.cat.waiting with
      | [] => s
      | t :: ts => serveQueue n (serveNow t { s with cat := { s.cat with waiting := ts } })

/-- The same for all of them, once REG_DATA has its answer. -/
def serveWaiting (s : State) : State :=
  let s1 := answerRegWait s
  serveQueue s1.cat.waiting.length s1

/-- A transaction is accepted: executed in turn. -/
def serve (t : Trans) (s : State) : State :=
  serveWaiting { s with cat := { s.cat with waiting := s.cat.waiting ++ [t] } }

/-! Commands of a route -/

/-- A route's number. -/
def routeNo : Route → Nat
  | .mailbox => 0
  | .session k => xferKey k.val

/-- A route serves the Catalogue: the mailbox while the host port answers, a session while it is open (R348, R309). -/
def State.routeOpen (s : State) (r : Route) : Bool :=
  s.served && (match r with
    | .mailbox => s.portOn
    | .session k => thas s.net.sessions k.val)

/-- A message of a session has been accepted (R309). -/
def touchSession (r : Route) (s : State) : State :=
  match r with
  | .mailbox => s
  | .session k =>
    { s with net := { s.net with sessions := s.net.sessions.map (fun p => if p.1 == k.val then (p.1, { p.2 with lastMsg := s.clk.core }) else p) } }

/-- A service arrives on a route, its envelope checked already (log entry 2). -/
def command (r : Route) (service idx sub : Nat) (data : Bytes) (s : State) : State :=
  if s.routeOpen r then serve ⟨.direct (routeNo r), service, idx, sub, data⟩ (touchSession r s) else s

/-- A WRITE of a command's own entry. -/
def catWrite (r : Route) (idx sub : Nat) (data : Bytes) (s : State) : State := command r 2 idx sub data s

/-- READ. -/
def execRead (dt : Nat) (route : Route) (index : BitVec 16) (sub : Byte) (data : Bytes) (s : State) : Host.Outcome State Fault Refusal :=
  next (command route 1 index.toNat sub.toNat data (advance dt s))

/-- WRITE. -/
def execWrite (dt : Nat) (route : Route) (index : BitVec 16) (sub : Byte) (data : Bytes) (s : State) : Host.Outcome State Fault Refusal :=
  next (command route 2 index.toNat sub.toNat data (advance dt s))

/-- BLOCK_READ_START. -/
def execBlockReadStart (dt : Nat) (route : Route) (index : BitVec 16) (sub : Byte) (data : Bytes) (s : State) : Host.Outcome State Fault Refusal :=
  next (command route 3 index.toNat sub.toNat data (advance dt s))

/-- BLOCK_WRITE_START. -/
def execBlockWriteStart (dt : Nat) (route : Route) (index : BitVec 16) (sub : Byte) (data : Bytes) (s : State) : Host.Outcome State Fault Refusal :=
  next (command route 4 index.toNat sub.toNat data (advance dt s))

/-- BLOCK_WRITE_SEGMENT. -/
def execBlockWriteSegment (dt : Nat) (route : Route) (index : BitVec 16) (sub : Byte) (data : Bytes) (s : State) : Host.Outcome State Fault Refusal :=
  next (command route 5 index.toNat sub.toNat data (advance dt s))

/-- BLOCK_READ_SEGMENT. -/
def execBlockReadSegment (dt : Nat) (route : Route) (index : BitVec 16) (sub : Byte) (data : Bytes) (s : State) : Host.Outcome State Fault Refusal :=
  next (command route 6 index.toNat sub.toNat data (advance dt s))

/-- BLOCK_CANCEL. -/
def execBlockCancel (dt : Nat) (route : Route) (index : BitVec 16) (sub : Byte) (data : Bytes) (s : State) : Host.Outcome State Fault Refusal :=
  next (command route 7 index.toNat sub.toNat data (advance dt s))

/-- The route's transfer has had no service for 1 s: it ends (R45). -/
def doTransferTimeout (route : Nat) (s : State) : State :=
  match s.xfer route with
  | some x => if x.lastAt + sCk 1 ≤ s.clk.core then endXfer route s else s
  | none => s

/-- BLOCK_TRANSFER_TIMEOUT: the route's transfer has had no service for 1 s. -/
def execBlockTransferTimeout (dt : Nat) (route : Route) (s : State) : Host.Outcome State Fault Refusal :=
  next (doTransferTimeout (routeNo route) (advance dt s))

end Sys2Proof.Machine
end

