-- ==== Sys2Proof/Machine/Commands.lean ====
section
/-! DEFINITION. The commands that are writes, or reads, of one entry, each with its own row of the command table. -/

namespace Sys2Proof.Machine

/-- ABORT of a slot (R50). -/
def execAbort (dt : Nat) (route : Route) (slot : Fin 16) (data : Bytes) (s : State) : Host.Outcome State Fault Refusal :=
  next (catWrite route (0x1310 + slot.val) 0x0A data (advance dt s))

/-- RELEASE of a slot (R50). -/
def execRelease (dt : Nat) (route : Route) (slot : Fin 16) (data : Bytes) (s : State) : Host.Outcome State Fault Refusal :=
  next (catWrite route (0x1310 + slot.val) 0x0B data (advance dt s))

/-- ORIGIN (R71). -/
def execOrigin (dt : Nat) (route : Route) (data : Bytes) (s : State) : Host.Outcome State Fault Refusal :=
  next (catWrite route 0x2100 0x0C data (advance dt s))

/-- FAULT_CLEAR (R173). -/
def execFaultClear (dt : Nat) (route : Route) (data : Bytes) (s : State) : Host.Outcome State Fault Refusal :=
  next (catWrite route 0x2210 0x02 data (advance dt s))

/-- RETRAIN of a lane (R198). -/
def execRetrain (dt : Nat) (route : Route) (lane : Fin 32) (data : Bytes) (s : State) : Host.Outcome State Fault Refusal :=
  next (catWrite route (0x5000 + lane.val) 0x0A data (advance dt s))

/-- WAVE_LOAD of a bay (R204). -/
def execWaveLoad (dt : Nat) (route : Route) (bay : Fin 512) (data : Bytes) (s : State) : Host.Outcome State Fault Refusal :=
  next (catWrite route (0x4000 + bay.val) 0x1C data (advance dt s))

/-- A write of REG_DATA of a lane (R215). -/
def execRegDataWrite (dt : Nat) (route : Route) (lane : Fin 32) (data : Bytes) (s : State) : Host.Outcome State Fault Refusal :=
  next (catWrite route (0x5800 + lane.val) 0x05 data (advance dt s))

/-- ARM (R126). -/
def execArm (dt : Nat) (route : Route) (data : Bytes) (s : State) : Host.Outcome State Fault Refusal :=
  next (catWrite route 0x6100 0x01 data (advance dt s))

/-- DISARM (R129). -/
def execDisarm (dt : Nat) (route : Route) (data : Bytes) (s : State) : Host.Outcome State Fault Refusal :=
  next (catWrite route 0x6100 0x02 data (advance dt s))

/-- ENQUEUE on a queue (R121). -/
def execEnqueue (dt : Nat) (route : Route) (q : Fin 64) (data : Bytes) (s : State) : Host.Outcome State Fault Refusal :=
  next (catWrite route (0x6210 + q.val) 0x08 data (advance dt s))

/-- RESTART of a queue (R121). -/
def execRestart (dt : Nat) (route : Route) (q : Fin 64) (data : Bytes) (s : State) : Host.Outcome State Fault Refusal :=
  next (catWrite route (0x6210 + q.val) 0x09 data (advance dt s))

/-- LOAD of a gallery (R138). -/
def execLoad (dt : Nat) (route : Route) (g : Fin 8) (data : Bytes) (s : State) : Host.Outcome State Fault Refusal :=
  next (catWrite route (0x3021 + 0x100 * g.val) 0x01 data (advance dt s))

/-- EDIT of a gallery's spare (R139). -/
def execEdit (dt : Nat) (route : Route) (g : Fin 8) (data : Bytes) (s : State) : Host.Outcome State Fault Refusal :=
  next (catWrite route (0x3021 + 0x100 * g.val) 0x03 data (advance dt s))

/-- SWAP_LINE of a gallery (R140). -/
def execSwapLine (dt : Nat) (route : Route) (g : Fin 8) (data : Bytes) (s : State) : Host.Outcome State Fault Refusal :=
  next (catWrite route (0x3021 + 0x100 * g.val) 0x04 data (advance dt s))

/-- SWAP_CANCEL of a gallery (R140). -/
def execSwapCancel (dt : Nat) (route : Route) (g : Fin 8) (data : Bytes) (s : State) : Host.Outcome State Fault Refusal :=
  next (catWrite route (0x3021 + 0x100 * g.val) 0x05 data (advance dt s))

/-- THRESHOLD_LOAD of a gallery (R147). -/
def execThresholdLoad (dt : Nat) (route : Route) (g : Fin 8) (data : Bytes) (s : State) : Host.Outcome State Fault Refusal :=
  next (catWrite route (0x3020 + 0x100 * g.val) 0x07 data (advance dt s))

/-- PURGE (R96). -/
def execPurge (dt : Nat) (route : Route) (data : Bytes) (s : State) : Host.Outcome State Fault Refusal :=
  next (catWrite route 0x6000 0x08 data (advance dt s))

/-- OPEN_DIRECT (R98). -/
def execOpenDirect (dt : Nat) (route : Route) (data : Bytes) (s : State) : Host.Outcome State Fault Refusal :=
  next (catWrite route 0x6000 0x09 data (advance dt s))

/-- COMMIT_DIRECT (R98). -/
def execCommitDirect (dt : Nat) (route : Route) (data : Bytes) (s : State) : Host.Outcome State Fault Refusal :=
  next (catWrite route 0x6000 0x0B data (advance dt s))

/-- BUNDLE (R103). -/
def execBundle (dt : Nat) (route : Route) (data : Bytes) (s : State) : Host.Outcome State Fault Refusal :=
  next (catWrite route 0x6800 0x04 data (advance dt s))

/-- EXPOSURE_COMMIT of a context (R230). -/
def execExposureCommit (dt : Nat) (route : Route) (ctx : Fin 16) (data : Bytes) (s : State) : Host.Outcome State Fault Refusal :=
  next (catWrite route (0x7000 + ctx.val) 0x14 data (advance dt s))

/-- CCI_REQUEST of a port (R231). -/
def execCciRequest (dt : Nat) (route : Route) (port : Fin 4) (data : Bytes) (s : State) : Host.Outcome State Fault Refusal :=
  next (catWrite route (0x7110 + port.val) 0x05 data (advance dt s))

/-- FREEZE of a context (R225). -/
def execFreeze (dt : Nat) (route : Route) (ctx : Fin 16) (data : Bytes) (s : State) : Host.Outcome State Fault Refusal :=
  next (catWrite route (0x7000 + ctx.val) 0x1B data (advance dt s))

/-- SWEEP (R246). -/
def execSweep (dt : Nat) (route : Route) (data : Bytes) (s : State) : Host.Outcome State Fault Refusal :=
  next (catWrite route 0x7C00 0x01 data (advance dt s))

/-- HANDOVER (R291). -/
def execHandover (dt : Nat) (route : Route) (data : Bytes) (s : State) : Host.Outcome State Fault Refusal :=
  next (catWrite route 0x1200 0x0A data (advance dt s))

/-- RESYNC (R293). -/
def execResync (dt : Nat) (route : Route) (data : Bytes) (s : State) : Host.Outcome State Fault Refusal :=
  next (catWrite route 0x1200 0x0B data (advance dt s))

/-- DECLARE_DEGRADED (R294). -/
def execDeclareDegraded (dt : Nat) (route : Route) (data : Bytes) (s : State) : Host.Outcome State Fault Refusal :=
  next (catWrite route 0x1200 0x0C data (advance dt s))

/-- CLOSE_SESSION (R309). -/
def execCloseSession (dt : Nat) (route : Route) (data : Bytes) (s : State) : Host.Outcome State Fault Refusal :=
  next (catWrite route 0x1400 0x08 data (advance dt s))

/-- A write of KEY (R313). -/
def execKeyWrite (dt : Nat) (route : Route) (data : Bytes) (s : State) : Host.Outcome State Fault Refusal :=
  next (catWrite route 0x1400 0x01 data (advance dt s))

/-- SET_TIME (R329). -/
def execSetTime (dt : Nat) (route : Route) (data : Bytes) (s : State) : Host.Outcome State Fault Refusal :=
  next (catWrite route 0x1B00 0x06 data (advance dt s))

/-- TRAIN (R371). -/
def execTrain (dt : Nat) (route : Route) (data : Bytes) (s : State) : Host.Outcome State Fault Refusal :=
  next (catWrite route 0x9000 0x09 data (advance dt s))

/-- SCRUB (R379). -/
def execScrub (dt : Nat) (route : Route) (data : Bytes) (s : State) : Host.Outcome State Fault Refusal :=
  next (catWrite route 0x9000 0x0A data (advance dt s))

/-- MIGRATE (R382). -/
def execMigrate (dt : Nat) (route : Route) (data : Bytes) (s : State) : Host.Outcome State Fault Refusal :=
  next (catWrite route 0x9000 0x0B data (advance dt s))

/-- CLEAR_EXCLUDE (R383). -/
def execClearExclude (dt : Nat) (route : Route) (data : Bytes) (s : State) : Host.Outcome State Fault Refusal :=
  next (catWrite route 0x9000 0x08 data (advance dt s))

/-- CAL_ANALOGUE (R395). -/
def execCalAnalogue (dt : Nat) (route : Route) (data : Bytes) (s : State) : Host.Outcome State Fault Refusal :=
  next (catWrite route 0x1840 0x02 data (advance dt s))

/-- CAL_PHOTO (R398). -/
def execCalPhoto (dt : Nat) (route : Route) (data : Bytes) (s : State) : Host.Outcome State Fault Refusal :=
  next (catWrite route 0x1850 0x05 data (advance dt s))

/-- A write of PRINT_GALLERIES (R427). -/
def execPrintGalleriesWrite (dt : Nat) (route : Route) (data : Bytes) (s : State) : Host.Outcome State Fault Refusal :=
  next (catWrite route 0x1100 0x04 data (advance dt s))

/-- SAFE_REQUEST (R431). -/
def execSafeRequest (dt : Nat) (route : Route) (data : Bytes) (s : State) : Host.Outcome State Fault Refusal :=
  next (catWrite route 0x1100 0x0A data (advance dt s))

/-- SAFE_CLEAR (R433). -/
def execSafeClear (dt : Nat) (route : Route) (data : Bytes) (s : State) : Host.Outcome State Fault Refusal :=
  next (catWrite route 0x1100 0x09 data (advance dt s))

/-- FW_UPDATE (R437). -/
def execFwUpdate (dt : Nat) (route : Route) (data : Bytes) (s : State) : Host.Outcome State Fault Refusal :=
  next (catWrite route 0x1120 0x02 data (advance dt s))

/-- FW_CONFIRM (R437). -/
def execFwConfirm (dt : Nat) (route : Route) (data : Bytes) (s : State) : Host.Outcome State Fault Refusal :=
  next (catWrite route 0x1120 0x03 data (advance dt s))

/-- SHUTDOWN (R438). -/
def execShutdown (dt : Nat) (route : Route) (data : Bytes) (s : State) : Host.Outcome State Fault Refusal :=
  next (catWrite route 0x1100 0x0D data (advance dt s))

/-- RESET (R413). -/
def execResetCmd (dt : Nat) (route : Route) (data : Bytes) (s : State) : Host.Outcome State Fault Refusal :=
  next (catWrite route 0x1100 0x0B data (advance dt s))

/-- SELFTEST (R442). -/
def execSelftest (dt : Nat) (route : Route) (data : Bytes) (s : State) : Host.Outcome State Fault Refusal :=
  next (catWrite route 0x1800 0x01 data (advance dt s))

/-- COMMIT, written 1 (R402). -/
def execCommit (dt : Nat) (route : Route) (data : Bytes) (s : State) : Host.Outcome State Fault Refusal :=
  next (catWrite route 0x1700 0x01 data (advance dt s))

/-- COMMIT, written 2: an empty parameter set (R402). -/
def execCommitClear (dt : Nat) (route : Route) (data : Bytes) (s : State) : Host.Outcome State Fault Refusal :=
  next (catWrite route 0x1700 0x01 data (advance dt s))

/-- MODE_REQUEST, written 1: IDLE (R427). -/
def execModeRequestIdle (dt : Nat) (route : Route) (data : Bytes) (s : State) : Host.Outcome State Fault Refusal :=
  next (catWrite route 0x1100 0x02 data (advance dt s))

/-- MODE_REQUEST, written 2: SERVICE (R427). -/
def execModeRequestService (dt : Nat) (route : Route) (data : Bytes) (s : State) : Host.Outcome State Fault Refusal :=
  next (catWrite route 0x1100 0x02 data (advance dt s))

/-- MODE_REQUEST, written 3: READY (R427). -/
def execModeRequestReady (dt : Nat) (route : Route) (data : Bytes) (s : State) : Host.Outcome State Fault Refusal :=
  next (catWrite route 0x1100 0x02 data (advance dt s))

/-- MODE_REQUEST, written 4: PRINT (R427). -/
def execModeRequestPrint (dt : Nat) (route : Route) (data : Bytes) (s : State) : Host.Outcome State Fault Refusal :=
  next (catWrite route 0x1100 0x02 data (advance dt s))

/-- A read of REG_DATA of a lane (R215). -/
def execRegDataRead (dt : Nat) (route : Route) (lane : Fin 32) (data : Bytes) (s : State) : Host.Outcome State Fault Refusal :=
  next (command route 1 (0x5800 + lane.val) 0x05 data (advance dt s))

/-- Some MDIO read is among outputs. -/
def mdioReadIn (outs : List Output) : Bool :=
  outs.any (fun o => match o with | .mdio _ isWrite _ _ _ => !isWrite | _ => false)

/-- MDIO_REQUEST of port p; where it reads, the PHY answers phy (R298). -/
def doMdioRequest (r : Route) (p : Nat) (data : Bytes) (phy : Nat) (s : State) : State :=
  let s1 := catWrite r (0x1A00 + 0x10 * p) 0x07 data s
  if mdioReadIn (s1.out.take (s1.out.length - s.out.length)) then setVal (0x1A00 + 0x10 * p) 0x08 phy s1 else s1

/-- MDIO_REQUEST. -/
def execMdioRequest (dt : Nat) (route : Route) (port : Fin 2) (data : Bytes) (phy : BitVec 16) (s : State) :
    Host.Outcome State Fault Refusal :=
  next (doMdioRequest route port.val data phy.toNat (advance dt s))

end Sys2Proof.Machine
end

