-- ==== Sys2Proof/Machine/LongOps.lean ====
section
/-! DEFINITION. Slices of long operations and their dequeueing (R48, R49), and what SHUTDOWN and RESYNC do (R438, R293). -/

namespace Sys2Proof.Machine

/-! SHUTDOWN (R438) -/

/-- Every export record of ring r that waits is sent, whether due or not, while the ring is streamed. -/
def flushExports (r : Nat) : Nat → State → State
  | 0, s => s
  | n + 1, s =>
    let p := s.provRing r
    if !bitOf (s.val 0x1500 4) r || p.waiting = 0 then s
    else
      flushExports r n (queueRecord 2 (s.exportRecord r)
        (setProvRing r { p with exported := p.exported + p.batch (s.ringCap r), skipped := 0 } s))

/-- The same for both rings. -/
def flushProvenance (s : State) : State :=
  forEach (List.range 2) (fun r s => flushExports r (s.provRing r).waiting s) s

/-- Lane l goes to electrical idle. -/
def idleLane (l : Nat) (s : State) : State :=
  if (s.lane l).train.state == .disabled then s
  else if l < 32 then endRetrains l .failed 0xAB080007 (disableLane l true (if s.running l then leaveRun l s else s))
  else disableLane l true s

/-- The last slice of SHUTDOWN in slot k. -/
def finishShutdown (k : Nat) (s : State) : State :=
  let s1 := closeWhere (fun _ => true) 4 (flushProvenance s)
  let s2 := forEach (List.range 34) idleLane s1
  endOp k .done 0 { s2 with sys := { s2.sys with shutdownReady := true } }

/-! RESYNC (R293) -/

/-- Image, time lock and alignment have come. -/
def Pair.resynced (p : Pair) : Bool := p.imageDone && p.timeLocked && p.aligned

/-- A slice of RESYNC in slot k: once all has come, it ends and the unit enters STANDBY; it takes over at once where PEER_ACTIVE_N is
inactive by then (R288). -/
def sliceResync (k : Nat) (s : State) : State :=
  if s.pair.resynced && (s.pair.role == .syncing || s.pair.role == .stale) then
    let s1 := endOp k .done 0 (placeLanes { s with pair := { s.pair with role := .standby } })
    if s1.pair.peerActive then s1 else peerGone s1
  else s

/-! LONGOP_SLICE -/

/-- The first slice of the operation in slot k. -/
def beginSlices (k : Nat) (s : State) : State :=
  let x := s.slot k
  match x.kindIndex, x.kindSub with
  | 0x1120, 0x02 => beginFwUpdate s
  | 0x1700, 0x01 => if s.arc.pfail then endOp k .failed 0xAB110008 s else beginCommit k s
  | 0x6800, 0x04 => takeDeflate k s
  | _, _ => s

/-- The last slice of an operation whose end its progress tells. -/
def lastSlice (k : Nat) (obs : SliceObs) (s : State) : State :=
  let x := s.slot k
  match x.kindIndex, x.kindSub with
  | 0x1100, 0x0D => finishShutdown k s
  | 0x1120, 0x02 => finishFwUpdate k obs s
  | 0x1700, 0x01 => finishCommit k s
  | 0x6000, 0x08 => finishPurge k s
  | 0x6000, 0x0B => finishDirect k s
  | 0x9000, 0x09 => finishTrain k obs s
  | 0x9000, 0x0A => endOp k .done 0 s
  | idx, _ =>
    if (galleryAt idx 0x21).isSome then finishLoad k obs s
    else if among idx 0x6210 64 then finishEnqueue k s
    else s

/-- A slice of the operation in slot k, which stands at p ten-thousandths: the kinds that another event ends, and those that
look for their end themselves, then all others. A Reserve scrub is suspended while f_die is 0 (R392). -/
def workSlice (k p : Nat) (obs : SliceObs) (s : State) : State :=
  let x := s.slot k
  match x.kindIndex, x.kindSub with
  | 0x1200, 0x0B => sliceResync k s
  | 0x1840, 0x02 => sliceAnalogue k obs s
  | 0x1850, 0x05 => slicePhoto k s
  | 0x7C00, 0x01 => sliceSweep k s
  | 0x6800, 0x04 => if k ∉ s.res.deflating then s else if 10000 ≤ p then finishBundle k obs s else progressOp k p s
  | 0x9000, 0x0A => if s.therm.fDie = 0 then s else if 10000 ≤ p then lastSlice k obs s else progressOp k p s
  | 0x9000, 0x0B =>
    match s.migrating k with
    | some (c, _) => migrateSlice c k p s
    | none => s
  | idx, _ =>
    if idx = 0x1200 ∨ among idx 0x4000 512 = true ∨ among idx 0x5000 32 = true ∨ among idx 0x7110 4 = true then s
    else if 10000 ≤ p then lastSlice k obs s
    else progressOp k p s

/-- The slice itself: an operation in ABORTING ends at its boundary, a running one works, its first slice first. -/
def doSlice (k p : Nat) (obs : SliceObs) (s : State) : State :=
  let x := s.slot k
  match x.state with
  | .aborting => endAborted k s
  | .running =>
    let s1 := if x.sliced then s else beginSlices k (setSlot k { x with sliced := true } s)
    if (s1.slot k).state == .running then workSlice k p obs s1 else s1
  | _ => s

/-- LONGOP_SLICE: one slice of slot k. -/
def execLongopSlice (dt : Nat) (slot : Fin 16) (progress : Nat) (obs : SliceObs) (s : State) : Host.Outcome State Fault Refusal :=
  next (doSlice slot.val progress obs (advance dt s))

/-- LONGOP_DEQUEUE. -/
def execLongopDequeue (dt : Nat) (slot : Fin 16) (s : State) : Host.Outcome State Fault Refusal :=
  next (dequeueOp slot.val (advance dt s))

end Sys2Proof.Machine
end

