-- ==== Sys2Proof/Machine/Registers.lean ====
section
/-! DEFINITION. The mailbox's doorbell and writes of the register BAR (R347-R350, R359), and the answers of a module's control
channel, which let a Catalogue transaction that waits for them go on (R201, R215). -/

namespace Sys2Proof.Machine

/-! Answers of a module (R201, R215) -/

/-- CTRL_ACK_RECEIVED. -/
def execCtrlAckReceived (dt : Nat) (lane : Fin 32) (frame : Bytes) (s : State) : Host.Outcome State Fault Refusal :=
  next (serveWaiting (onFrame lane.val 0x90 frame (doCtrlAck lane.val) (advance dt s)))

/-- CTRL_DATA_RECEIVED. -/
def execCtrlDataReceived (dt : Nat) (lane : Fin 32) (frame : Bytes) (s : State) : Host.Outcome State Fault Refusal :=
  next (serveWaiting (onFrame lane.val 0x91 frame (doCtrlData lane.val) (advance dt s)))

/-- CTRL_RETRY. -/
def execCtrlRetry (dt : Nat) (lane : Fin 32) (tag : BitVec 16) (s : State) : Host.Outcome State Fault Refusal :=
  next (serveWaiting (doCtrlRetry lane.val tag.toNat (advance dt s)))

/-! MB_DOORBELL (R349) -/

/-- The bytes of MB_REQUEST. -/
def Mailbox.body (m : Mailbox) (n : Nat) : Bytes := (List.range n).map (fun i => tget 0 m.request i)

/-- The transaction that a service body spells (R41). -/
def transOf (o : Origin) (body : Bytes) : Trans := ⟨o, byteAt body 0, leAt body 2 2, byteAt body 4, body.drop 8⟩

/-- The body's length is one that the mailbox takes, and agrees with the body's own LENGTH. -/
def mailboxLength (n : Nat) (body : Bytes) : Bool := decide (8 ≤ n) && decide (n ≤ 4096) && n == 8 + leAt body 6 2

/-- A doorbell: while BUSY it is discarded and counted; else the body is copied and its transaction is accepted, or answered
at once where its length is wrong. -/
def doDoorbell (v : Nat) (s : State) : State :=
  let m := s.host.mailbox
  if m.busy then bump 0xA000 0x0A 32 { s with host := { s.host with mailbox := { m with overrun := true } } }
  else if !s.served then s
  else
    let n := v % 8192
    let body := m.body n
    let t := transOf (.mailbox (v / 65536)) body
    let s1 := { s with host := { s.host with mailbox := { m with busy := true, done := false } } }
    if mailboxLength n body then serve t s1 else refuseWith t 0xAB0F0001 s1

/-- MB_DOORBELL. -/
def execMbDoorbell (dt : Nat) (value : BitVec 32) (s : State) : Host.Outcome State Fault Refusal :=
  next (onBar (doDoorbell value.toNat) (advance dt s))

/-- A byte of MB_REQUEST is written, unless a request is BUSY. -/
def writeRequest (i : Nat) (b : Byte) (s : State) : State :=
  let m := s.host.mailbox
  if m.busy then s
  else
    { s with host := { s.host with mailbox := { m with
      request := if b = 0 then terase m.request i else tset m.request i b } } }

/-! The interrupt controller's plain registers (R358, R359) -/

/-- IC_ENt_i written. -/
def enableWrite (t i v : Nat) (s : State) : State :=
  forEach (List.range 32) (fun j s =>
    { s with ic := { s.ic with enable := tset s.ic.enable (t * 256 + 32 * i + j) (bitOf v j) } }) s

/-- IC_PRIOi written. -/
def prioWrite (i v : Nat) (s : State) : State :=
  forEach (List.range 8) (fun j s =>
    { s with ic := { s.ic with prio := tset s.ic.prio (8 * i + j) (field v (4 * j + 3) (4 * j)) } }) s

/-- IC_COALs written: a field written 0 stands, and a source not of the event class has no coalescing. -/
def coalWrite (src v : Nat) (s : State) : State :=
  let n := v % 256
  let t := v / 256 % 65536
  if !irqEvent src then s
  else
    { s with ic := { s.ic with
        coalN := if n = 0 then s.ic.coalN else tset s.ic.coalN src n
        coalT := if t = 0 then s.ic.coalT else tset s.ic.coalT src t } }

/-- A register of the interrupt controller, at offset o from 0x01_0000. -/
def icWrite (o v : Nat) (s : State) : State :=
  if o < 0x20 then doIcPendClear (o / 4) v s
  else if 0x40 ≤ o ∧ o < 0xC0 then enableWrite ((o - 0x40) / 0x20) ((o - 0x40) % 0x20 / 4) v s
  else if 0x100 ≤ o ∧ o < 0x180 then prioWrite ((o - 0x100) / 4) v s
  else if 0x200 ≤ o ∧ o < 0x240 then
    (match o % 0x10 with
      | 0 => doIcClaim ((o - 0x200) / 0x10) (v % 256) (sampleLevels s)
      | 4 => doIcComplete ((o - 0x200) / 0x10) (v % 256) (sampleLevels s)
      | _ => s)
  else if o = 0x300 then icMode v s
  else if o = 0x304 then icFaultClear v s
  else if 0x400 ≤ o ∧ o < 0x800 then coalWrite ((o - 0x400) / 4) v s
  else s

/-! CRC unit and MSI-X table -/

/-- A register of the CRC unit, at offset o from 0x03_0000. -/
def crcWrite (o v : Nat) (s : State) : State :=
  match o % 0x20 with
  | 0x00 => crcCfg (o / 0x20) v s
  | 0x04 => crcVal (o / 0x20) v s
  | 0x08 => crcData (o / 0x20) (le 4 v) s
  | 0x10 => crcAlive (o / 0x20) v s
  | _ => s

/-- A word of the MSI-X table (PCIe Base): message address, its upper half, message data, vector control. -/
def MsixEntry.write (e : MsixEntry) (o v : Nat) : MsixEntry :=
  match o with
  | 0x0 => { e with addr := e.addr / 4294967296 * 4294967296 + v / 4 * 4 }
  | 0x4 => { e with addr := e.addr % 4294967296 + 4294967296 * v }
  | 0x8 => { e with data := v }
  | _ => { e with mask := bitOf v 0 }

/-- The same for an offset from 0x0F_0000; an unmasked vector whose PBA bit is set goes out. -/
def msixWrite (o v : Nat) (s : State) : State :=
  sendHeld { s with host := { s.host with msix := tset s.host.msix (o / 16) ((tget {} s.host.msix (o / 16) : MsixEntry).write (o % 16) v) } }

/-! What registers read (R347) -/

/-- HOST_STATUS. -/
def State.hostStatus (s : State) : Nat := b2n s.host.ready + 2 * b2n s.inControl + 4 * b2n s.sys.latch

/-- A word of a table of bits. -/
def bitWord (f : Nat → Bool) : Nat := sumN ((List.range 32).map (fun j => if f j then 2 ^ j else 0))

/-- IC_STACKt. -/
def Ic.stackWord (ic : Ic) (t : Nat) : Nat :=
  match ic.stackOf t with
  | [] => 0
  | (src, p) :: rest => 65536 * (rest.length + 1) + 256 * src + p

/-- IC_FAULT. -/
def Ic.faultWord (ic : Ic) : Nat :=
  2147483648 * b2n ic.fValid + 1073741824 * b2n ic.fOverrun + 268435456 * ic.fTarget + 16777216 * ic.fKind +
    65536 * b2n ic.fEmpty + 256 * ic.fOffered + ic.fExpected

/-- A register of the interrupt controller, at offset o from 0x01_0000. -/
def Ic.read (ic : Ic) (o : Nat) : Nat :=
  if o < 0x20 then bitWord (fun j => ic.pendingBit (8 * o + j))
  else if 0x40 ≤ o ∧ o < 0xC0 then bitWord (fun j => ic.enabled ((o - 0x40) / 0x20) (8 * ((o - 0x40) % 0x20) + j))
  else if 0x100 ≤ o ∧ o < 0x180 then sumN ((List.range 8).map (fun j => tget 0 ic.prio (2 * (o - 0x100) + j) * 16 ^ j))
  else if 0x200 ≤ o ∧ o < 0x240 then
    (match o % 0x10 with
      | 8 => ic.stackWord ((o - 0x200) / 0x10)
      | 12 => tget 0 ic.vanished ((o - 0x200) / 0x10)
      | _ => 0)
  else if o = 0x300 then b2n ic.bringup + 32 * b2n ic.pinEn
  else if o = 0x304 then ic.faultWord
  else if 0x400 ≤ o ∧ o < 0x800 then tget 1 ic.coalN ((o - 0x400) / 4) + 256 * tget 0xFFFF ic.coalT ((o - 0x400) / 4)
  else 0

/-- A ring register at offset o of the ring's block. -/
def Ring.read (x : Ring) (busy : Bool) (o : Nat) : Nat :=
  match o with
  | 0x00 => x.base % 4294967296
  | 0x04 => x.base / 4294967296
  | 0x08 => x.size
  | 0x0C => x.tail
  | 0x10 => x.head
  | 0x14 => b2n x.enable
  | 0x18 => 65536 * x.haltDetail + 2 * b2n busy + b2n x.halted
  | _ => 0

/-- A register of CRC channel c. -/
def CrcCh.read (c : CrcCh) (o : Nat) : Nat :=
  match o with
  | 0x00 => c.cfgWord
  | 0x04 => c.val
  | 0x0C => c.res
  | 0x10 => c.offset + 65536 * c.last + 2147483648 * b2n c.aliveEn
  | 0x14 => c.statWord
  | _ => 0

/-- A register of the time snapshot (R325). -/
def Snapshot.read (x : Snapshot) (o : Nat) : Nat :=
  match o with
  | 0x04 => x.seconds % 4294967296
  | 0x08 => x.seconds / 4294967296 % 65536
  | 0x0C => x.ns
  | 0x10 => x.frac + 65536 * x.epoch + 1048576 * b2n x.traced + 2097152 * b2n x.locked
  | 0x14 => x.tick
  | 0x18 => x.pos % 4294967296
  | 0x1C => x.pos / 4294967296
  | _ => 0

/-- An export register of Provenance ring r (R338). -/
def State.provRegister (s : State) (r o : Nat) : Nat :=
  let p := s.provRing r
  match o with
  | 0x00 => p.written % 4294967296
  | 0x04 => p.written / 4294967296
  | 0x08 => p.exported % 4294967296
  | 0x0C => p.exported / 4294967296
  | 0x10 => s.provBase r % 4294967296
  | 0x14 => s.provBase r / 4294967296
  | 0x18 => s.ringCap r
  | 0x1C => b2n (bitOf (s.val 0x1500 4) r)
  | _ => 0

/-- A word of the MSI-X table. -/
def MsixEntry.read (e : MsixEntry) (o : Nat) : Nat :=
  match o with
  | 0x0 => e.addr % 4294967296
  | 0x4 => e.addr / 4294967296
  | 0x8 => e.data
  | _ => b2n e.mask

/-- What the register at BAR offset a, a multiple of 4, reads: 0 where no block defines it, and for a register that is only
written. -/
def State.registerRead (s : State) (a : Nat) : Nat :=
  let m := s.host.mailbox
  if a = 0x000000 then 0x85121F6B
  else if a = 0x000004 then 0xB0
  else if a = 0x000008 then s.hostStatus
  else if a = 0x00000C then s.host.heartbeat
  else if 0x001000 ≤ a ∧ a < 0x002000 then ofLe ((List.range 4).map (fun i => tget 0 m.request (a - 0x001000 + i)))
  else if 0x002000 ≤ a ∧ a < 0x003000 then leAt m.response (a - 0x002000) 4
  else if a = 0x003004 then s.mbStatus
  else if a = 0x003008 then m.respLen
  else if 0x010000 ≤ a ∧ a < 0x010800 then s.ic.read (a - 0x010000)
  else if 0x020000 ≤ a ∧ a < 0x020400 then
    (s.accRing ((a - 0x020000) / 0x100)).read (s.ringBusy ((a - 0x020000) / 0x100)) (a % 0x100)
  else if 0x028000 ≤ a ∧ a < 0x028400 then (s.egrRing ((a - 0x028000) / 0x100)).read false (a % 0x100)
  else if 0x030000 ≤ a ∧ a < 0x030200 then (s.crcCh ((a - 0x030000) / 0x20)).read (a % 0x20)
  else if 0x040000 ≤ a ∧ a < 0x040020 then s.host.snap.read (a - 0x040000)
  else if 0x050000 ≤ a ∧ a < 0x050080 then s.provRegister ((a - 0x050000) / 0x40) (a % 0x40)
  else if 0x0F0000 ≤ a ∧ a < 0x0F0080 then (tget {} s.host.msix ((a - 0x0F0000) / 16) : MsixEntry).read (a % 16)
  else if a = 0x0F1000 then s.host.pba
  else 0

/-! REGISTER_WRITE (R347) -/

/-- A whole register at a BAR offset is written; offsets that no block defines, and registers that cannot be written, discard
it. -/
def registerWrite (a v : Nat) (s : State) : State :=
  if a = 0x003000 then doDoorbell v s
  else if 0x010000 ≤ a ∧ a < 0x010800 then icWrite (a - 0x010000) v s
  else if 0x020000 ≤ a ∧ a < 0x020400 then ringWrite (.accession (Fin.ofNat 4 ((a - 0x020000) / 0x100))) (a % 0x100) v s
  else if 0x028000 ≤ a ∧ a < 0x028400 then ringWrite (.egress (Fin.ofNat 4 ((a - 0x028000) / 0x100))) (a % 0x100) v s
  else if 0x030000 ≤ a ∧ a < 0x030200 then crcWrite (a - 0x030000) v s
  else if a = 0x040000 then snapWrite v s
  else if a = 0x05001C then provControl 0 v s
  else if a = 0x05005C then provControl 1 v s
  else if 0x0F0000 ≤ a ∧ a < 0x0F0080 then msixWrite (a - 0x0F0000) v s
  else s

/-- What one write brings to the word at BAR offset a - a mod 4: a whole register, or some bytes of it, which only the mailbox
buffer and CRC_DATAn take (R347, R363). -/
def wordWrite (a : Nat) (bs : Bytes) (s : State) : State :=
  if 0x001000 ≤ a ∧ a < 0x002000 then
    forEach (List.range bs.length) (fun i s => writeRequest (a - 0x001000 + i) (bs.getD i 0) s) s
  else if bs.length = 4 then registerWrite a (ofLe bs) s
  else if 0x030000 ≤ a ∧ a < 0x030200 ∧ a % 0x20 / 4 = 2 then crcData ((a - 0x030000) / 0x20) bs s
  else s

/-- A write of the register BAR, word by word in ascending order. -/
def barWrite : Nat → Nat → Bytes → State → State
  | 0, _, _, s => s
  | n + 1, a, bs, s =>
    if bs.isEmpty then s
    else
      let k := 4 - a % 4
      barWrite n (a + k) (bs.drop k) (wordWrite a (bs.take k) s)

/-- REGISTER_WRITE. -/
def execRegisterWrite (dt : Nat) (offset : BitVec 24) (data : Bytes) (s : State) : Host.Outcome State Fault Refusal :=
  next (onBar (barWrite data.length offset.toNat data) (advance dt s))

end Sys2Proof.Machine
end

