-- ==== Sys2Proof/Machine/NetServe.lean ====
section
/-! DEFINITION. Requests of the Catalogue protocol, identity reads without a session, and publications (R310-R312, R317). -/

namespace Sys2Proof.Machine

/-! REQUEST (R310) -/

/-- Requests of a session that are accepted and unanswered. -/
def Session.unanswered (x : Session) : Nat := (x.store.filter (fun e => e.reply.isNone)).length

/-- Session slot k takes a new content. -/
def setSession (k : Nat) (x : Session) (s : State) : State := { s with net := { s.net with sessions := tset s.net.sessions k x } }

/-- A new request is accepted: it is stored, with the last 15 and where its frame came from, and executed in turn. -/
def acceptRequest (k : Nat) (src : NetSrc) (m : Msg) (x : Session) (s : State) : State :=
  let kept := x.store.drop (x.store.length - 15)
  serve (transOf (.request k m.seq) m.body) (setSession k { x with
    lastSeq := m.seq, lastMsg := s.clk.core, store := kept ++ [⟨m.seq, src, m.tag, none⟩] } s)

/-- A request of the last sixteen comes again: it is answered from the store, now, to where it came from, or when it is done, to
where the request came from that is executing. -/
def repeatRequest (k : Nat) (src : NetSrc) (m : Msg) (x : Session) (s : State) : State :=
  match x.store.find? (fun e => e.seq == m.seq) with
  | none => reject src 3 0xAB0D0015 s
  | some e =>
    if e.tag ≠ m.tag then reject src 3 0xAB0D0015 s
    else
      let s1 := setSession k { x with lastMsg := s.clk.core } s
      match e.reply with
      | some msg => replyUdp src msg s1
      | none => s1

/-- A REQUEST of an open session, by its sequence. -/
def doRequest (src : NetSrc) (m : Msg) (k : Nat) (x : Session) (s : State) : State :=
  let d := serial32 m.seq x.lastSeq
  if d = 1 then (if 4 ≤ x.unanswered then reject src 3 0xAB0D0016 s else acceptRequest k src m x s)
  else if -15 ≤ d ∧ d ≤ 0 then repeatRequest k src m x s
  else reject src 3 0xAB0D0015 s

/-- REQUEST. -/
def execRequest (dt : Nat) (src : NetSrc) (msg : Bytes) (s : State) : Host.Outcome State Fault Refusal :=
  next (onMessage 3 src msg (fun m s => onSession 3 src msg m (doRequest src m) s) (advance dt s))

/-! IDENT_READ (R312) -/

/-- An identity read takes its turn with the transactions of the other routes (R36). One that names a session is refused for want
of one. -/
def doIdentRead (src : NetSrc) (m : Msg) (s : State) : State :=
  if m.session ≠ 0 then authFail src 6 0xAB0D0011 s else serve (transOf (.ident src) m.body) s

/-- IDENT_READ. -/
def execIdentRead (dt : Nat) (src : NetSrc) (msg : Bytes) (s : State) : Host.Outcome State Fault Refusal :=
  next (onMessage 6 src msg (fun m s => doIdentRead src m s) (advance dt s))

/-! PUBLICATION_SAMPLE (R317) -/

/-- The bytes of a listed entry as they stand; none where its read fails. REG_DATA, whose read the module answers later, fails
here. -/
def State.pubValue (s : State) (idx sub : Nat) : Bytes :=
  match findEntry idx sub with
  | (_, none) => []
  | (_, some r) =>
    if r.acc == .wo || r.ty.isDomain || s.routeCode ⟨.direct 0, 1, idx, sub, []⟩ != 0 || (among idx 0x5800 32 && sub == 5) then []
    else s.readBytes idx r

/-- One ENTRY of a publication's body. -/
def State.pubItem (s : State) (e : Nat × Nat) : Bytes :=
  let v := s.pubValue e.1 e.2
  le 2 e.1 ++ [BitVec.ofNat 8 e.2, BitVec.ofNat 8 v.length] ++ v ++ zeros ((4 - v.length % 4) % 4)

/-- A publication's body. -/
def State.pubBody (s : State) (p : Nat) : Bytes :=
  let es := s.pubEntries p
  le 12 (time96 s.now) ++ le 2 es.length ++ [BitVec.ofNat 8 (b2n s.unitB + 2 * b2n (s.pair.role == .active)), 0] ++
    le 2 s.recReign ++ [0, 0] ++ es.flatMap s.pubItem

/-- The launch time whose sample is due: the last one not later than 200 microseconds from now, while it is still to come and
has not been sampled. -/
def State.pubLaunch (s : State) (p : Nat) : Option Nat :=
  let period := usT (s.val (0x1610 + p) 3)
  let phase := usT (s.val (0x1610 + p) 4)
  let limit := s.now + usT 200
  if period = 0 ∨ limit < phase then none
  else
    let t := phase + (limit - phase) / period * period
    if s.now < t ∧ tget 0 s.net.pubLast p ≠ t then some t else none

/-- The publication is sampled and its datagram queued for its launch time. -/
def doPublication (p : Nat) (s : State) : State :=
  if !s.flag (0x1610 + p) 1 || !s.host.ready then s
  else
    match s.pubLaunch p with
    | none => s
    | some t =>
      let s1 := { s with net := { s.net with pubLast := tset s.net.pubLast p t } }
      if s.flag (0x1610 + p) 7 && !s.inControl then s1
      else
        let seq := wrapAdd 32 (tget 0 s.net.pubSeq p) 1
        let d := destOf (s.val (0x1610 + p) 2)
        let msg := s.pubTagged (s.message 0x90 p seq (s.pubBody p))
        sendUdp (d.1 % 2) (s.val (0x1610 + p) 5) (some t) d.2.2 d.2.1 msg (some (p, seq))
          (draw { s1 with net := { s1.net with pubSeq := tset s1.net.pubSeq p seq } })

/-- PUBLICATION_SAMPLE. -/
def execPublicationSample (dt : Nat) (p : Fin 16) (s : State) : Host.Outcome State Fault Refusal :=
  next (doPublication p.val (advance dt s))

end Sys2Proof.Machine
end

