-- ==== Sys2Proof/Machine/PairServe.lean ====
section
/-! DEFINITION. Mirrored writes and segments as a standby takes them, their confirmation, and the image of a resynchronisation
as it comes (R280, R281, R283, R291, R293). -/

namespace Sys2Proof.Machine

/-! Positions that cross the link (R284) -/

/-- The entry holds a position. -/
def isPosition (idx sub : Nat) : Bool :=
  (among idx 0x2080 16 && sub == 2) || (among idx 0x2040 4 && (sub == 4 || sub == 5))

/-- A value of the active as this unit keeps it. -/
def State.converted (s : State) (idx sub : Nat) (bs : Bytes) : Bytes :=
  if isPosition idx sub && bs.length == 6 then le 6 (usg 48 (wrap48 (sgn 48 (ofLe bs) + s.pair.delta))) else bs

/-! MIRROR_RECEIVED -/

/-- A message of the active's mirror sequence: applied in its order, while a sequence has been named; a gap makes this unit
STALE. -/
def inSequence (n : Nat) (f : State → State) (s : State) : State :=
  match s.pair.mirrorNext with
  | none => s
  | some m =>
    if m ≠ n then becomeStale 0 s
    else f { s with pair := { s.pair with mirrorNext := some (wrapAdd 32 n 1) } }

/-- The causes of the active's SAFE latch join this unit's (R283). -/
def takeCauses (causes : Nat) (s : State) : State :=
  forEach (onesOf 32 causes) (fun b s => if bitOf s.sys.causes b then s else takeCause b s) s

/-- A mirrored write is applied and confirmed; a mirrored step is taken, unless this unit has taken the epoch it leads to. Both
counters run alike from the instant of the active's step, so that the amount added when it comes gives the count that adding it
at that instant gives (R327). -/
def applyMirror (n : Nat) (b : MirrorBody) (s : State) : State :=
  match b with
  | .write _ index sub data =>
    let idx := index.toNat
    if idx = 0x1100 ∧ sub.toNat = 7 then confirm n 0 (takeCauses (ofLe data) s)
    else serveNow ⟨.peer n, 2, idx, sub.toNat, s.converted idx sub.toNat data⟩ s
  | .step d epoch => confirm n 0 (if s.clk.epoch = epoch.val then s else stepTo d epoch.val s)

/-- MIRROR_RECEIVED. -/
def execMirrorReceived (dt : Nat) (seq : BitVec 32) (body : MirrorBody) (s : State) : Host.Outcome State Fault Refusal :=
  next (onPair (inSequence seq.toNat (applyMirror seq.toNat body)) (advance dt s))

/-! SEGMENT_RECEIVED -/

/-- A container of the active takes its place here too; what its steps 1-3 refuse is answered at once. -/
def takeMirrored (n : Nat) (bs : Bytes) (s : State) : State :=
  let q := takeContainer 6 bs 0 none (some n) s
  match q.1 with
  | some code => confirm n code q.2
  | none => q.2

/-- Writes to an OPEN direct segment land in this unit's own copy. -/
def directWrite (id o : Nat) (bs : Bytes) (s : State) : State :=
  match s.direct id with
  | none => s
  | some g => if g.state == .opened && decide (o + bs.length ≤ g.length) then resWrite (g.offset + o) bs s else s

/-- A direct segment has ended: step 5 on this unit's own copy, then its confirmation. -/
def directEnds (n id : Nat) (s : State) : State :=
  match s.direct id with
  | none => confirm n 0xAB04000D s
  | some g =>
    let code := s.directCode g
    let s1 := if code = 0 then commitSegment id g.type g.length g.crc g.offset (routeByte 6 s.free) none (draw (dropDirect id s))
      else noteReserve (accessionFailed id code (routeByte 6 s.free) (draw (dropDirect id s)))
    confirm n code s1

/-- A part of a segment. -/
def takePart (n : Nat) (part : SegmentPart) (s : State) : State :=
  match part with
  | .container bs => takeMirrored n bs s
  | .direct id o bs last => if last then directEnds n id.toNat s else directWrite id.toNat o bs s

/-- SEGMENT_RECEIVED. -/
def execSegmentReceived (dt : Nat) (seq : BitVec 32) (part : SegmentPart) (s : State) : Host.Outcome State Fault Refusal :=
  next (onPair (inSequence seq.toNat (takePart seq.toNat part)) (advance dt s))

/-! CONFIRM_RECEIVED -/

/-- The held write is applied, or refused with the standby's code, or with 0xAB02_0001 where a forced change of mode came before
it and its entry may not be written in the new mode (R31); others that wait follow. -/
def confirmWrite (t : Trans) (code : Nat) (s : State) : State :=
  let s1 := { s with cat := { s.cat with mirror := none } }
  serveWaiting (if code ≠ 0 then refuseWith t code s1
    else
      match findEntry t.index t.sub with
      | (_, some r) =>
        if s1.modeBars t.index r t.data true then refuseWith t 0xAB020001 s1 else finishWrite t t.index r t.data s1
      | (c, none) => refuseWith t c s1)

/-- The write held for this sequence. -/
def State.heldWrite (s : State) (n : Nat) : Option Trans :=
  match s.cat.mirror with
  | some (m, t, _) => if m = n then some t else none
  | none => none

/-- The handover that this tick's confirmation belongs to. -/
def State.heldHand (s : State) (n : Nat) : Option HandPlan :=
  match s.pair.hand with
  | some h => if h.mh = n ∧ h.taking = false ∧ h.confirmed = false then some h else none
  | none => none

/-- The standby confirms sequence n, or the handover tick n, with a result. -/
def doConfirm (n code : Nat) (s : State) : State :=
  let s1 := { s with pair := { s.pair with peerConfirmed := n } }
  match s1.heldWrite n, s1.heldHand n with
  | some t, _ => confirmWrite t code s1
  | none, some h => if code = 0 then handConfirmed h s1 else handRefused h s1
  | none, none => confirmDirect n code (confirmFlight n code s1)

/-- CONFIRM_RECEIVED. -/
def execConfirmReceived (dt : Nat) (seq result : BitVec 32) (s : State) : Host.Outcome State Fault Refusal :=
  next (onPair (doConfirm seq.toNat result.toNat) (advance dt s))

/-! MIRROR_TIMEOUT (R281) -/

/-- A write or a container sent at this moment has waited MIRROR_TIMEOUT. -/
def State.mirrorOver (s : State) (at_ : Nat) : Bool := decide (at_ + msCk (s.val 0x1200 8) ≤ s.clk.core)

/-- The COMMIT_DIRECT in slot k waits for the standby's answer, and has done so for MIRROR_TIMEOUT. -/
def State.directLate (s : State) (k : Nat) : Bool :=
  let x := s.slot k
  x.active && x.kindIndex == 0x6000 && x.kindSub == 0x0B && s.mirrorOver x.endedAt &&
    (match s.direct (ofLe x.arg) with | some g => g.mirror.isSome && g.answer.isNone | none => false)

/-- Some write, container or direct segment has waited for its confirmation for MIRROR_TIMEOUT. -/
def State.mirrorLate (s : State) : Bool :=
  (match s.cat.mirror with | some (_, _, t) => s.mirrorOver t | none => false) || slotIds.any s.directLate ||
    s.res.flights.any (fun f => f.answer.isNone && f.mirror.isSome && s.mirrorOver f.sentAt)

/-- What the standby has not confirmed goes on without it. -/
def releaseFlights (s : State) : State :=
  forEach (s.res.flights.filter (fun f => f.answer.isNone && f.mirror.isSome && f.route != 6)) (fun f s =>
    let f1 := { f with answer := some 0 }
    let s1 := putFlight f1 s
    if f.passed then settleFlight f1 s1 else s1) s

/-- The same for direct segments. -/
def releaseDirects (s : State) : State :=
  { s with res := { s.res with segs := s.res.segs.map (fun g =>
      if g.direct && g.mirror.isSome && g.answer.isNone then { g with answer := some 0 } else g) } }

/-- The peer counts as STALE, and what waited for it is acknowledged alone. -/
def standAlone (s : State) : State :=
  let s1 := releaseDirects (releaseFlights (raise 0x0C05 0 (le 1 3) { s with pair := { s.pair with peerStale := true } }))
  match s1.cat.mirror with
  | some (_, t, _) => confirmWrite t 0 s1
  | none => s1

/-- MIRROR_TIMEOUT. -/
def execMirrorTimeout (dt : Nat) (s : State) : Host.Outcome State Fault Refusal :=
  let s1 := advance dt s
  next (if s1.mirrorLate then standAlone s1 else s1)

/-! RESYNC_DATA_RECEIVED (R293) -/

/-- An entry of the image takes its value, with what a write of it does where the value is new; KEY is stored where it
differs, and KEY_GENERATION follows it (R313). -/
def imageEntry (idx sub : Nat) (data : Bytes) (s : State) : State :=
  if idx = 0x1400 ∧ sub = 3 then { s with net := { s.net with keyGen := ofLe data } }
  else if idx = 0x1400 ∧ sub = 1 then (if fit 32 s.net.key = fit 32 data then s else keyWrite (fit 32 data) s)
  else
    match findEntry idx sub with
    | (_, none) => s
    | (_, some r) =>
      let bs := s.converted idx sub data
      if s.entryBytes idx r = bs then s
      else if r.ty.isDomain then actEntry idx sub 0 bs false (storeDomain idx r bs s)
      else actEntry idx sub (s.val idx sub) bs false (storeValue idx r bs s)

/-- The mode that a code names. -/
def modeOfCode (n : Nat) : Mode :=
  match n with
  | 2 => .service
  | 3 => .ready
  | 4 => .print
  | _ => .idle

/-- The active's mode, printing galleries and SAFE latch are taken as they are (R283). -/
def imageMode (mode printing causes : Nat) (s : State) : State :=
  let m := modeOfCode mode
  let s1 := if s.sys.mode == m then { s with sys := { s.sys with printing := printing } } else changeMode m printing 0 s
  takeCauses causes (if causes = 0 then { s1 with sys := { s1.sys with latch := false, causes := 0 } } else s1)

/-- A committed segment of the active is placed here, in place of one of its ID; without room resynchronisation fails. -/
def imageSegment (id type : Nat) (bs : Bytes) (s : State) : State :=
  let s1 := { s with res := { s.res with segs := s.res.segs.filter (fun g => g.id != id) } }
  match s1.place (granule bs.length) with
  | none => failResync s
  | some o =>
    noteReserve (draw (resWrite o bs { s1 with res := { s1.res with
      segs := s1.res.segs ++ [⟨id, type, bs.length, crc32c bs, o, .committed, false, none, none⟩] } }))

/-- One of a gallery's nozzle tables. -/
def imageTable (g : Nat) (spare : Bool) (st : Nat) (t : NozTable) (swaps : Nat) (s : State) : State :=
  let x := s.gal g
  let state : SpareState := match st with | 2 => .ready | 3 => .ready | _ => .empty
  setGal g { x with noz := if spare then { x.noz with spare := t, spareState := state, swap := none }
    else { x.noz with active := t, swapCount := swaps } } s

/-- A live plan, from this unit's own copy of its segment. -/
def imagePlan (armed : Bool) (id base switch : Nat) (s : State) : State :=
  let bs := match s.seg id with | some g => s.segBytes g | none => []
  let p : Plan := { id := id, switch := switch, base := base, bytes := bs, cached := s.planCache bs, runout := 0 }
  if armed then { s with plans := { s.plans with armed := some p, completeTick := s.completeTickOf switch } }
  else { s with plans := { s.plans with active := some p } }

/-- One item of the image. -/
def takeItem (item : ResyncItem) (s : State) : State :=
  match item with
  | .start n => { s with pair := { s.pair with mirrorNext := some n.toNat, confirmed := usg 32 ((n.toNat : Int) - 1) } }
  | .entry idx sub data => imageEntry idx.toNat sub.toNat data s
  | .mode m p c => imageMode m.toNat p.toNat c.toNat s
  | .segment id type bs => imageSegment id.toNat type.toNat bs s
  | .captions q base nextInst tiles =>
    setQueue q.val { s.queue q.val with
      base := base.toNat, next := nextInst.toNat, tiles := tiles.foldl (fun t e => tset t e.1.toNat e.2) [] } s
  | .table g spare st source swaps es =>
    imageTable g.val spare st.val ⟨es.foldl (fun t e => tset t e.1.val e.2.toNat) [], source.toNat⟩ swaps.toNat s
  | .swap g line owner => armSwap g.val line.toNat owner.val s
  | .plan armed id base switch => imagePlan armed id.toNat base.toNat switch.toNat s
  | .bay b st => takeBay b.val st s
  | .finish => { s with pair := { s.pair with imageDone := true } }

/-- Items are taken while the resynchronisation runs. -/
def doResyncData (item : ResyncItem) (s : State) : State :=
  if (s.opOf 0x1200 11).isSome && (s.pair.role == .syncing || s.pair.role == .stale) then takeItem item s else s

/-- RESYNC_DATA_RECEIVED. -/
def execResyncDataReceived (dt : Nat) (item : ResyncItem) (s : State) : Host.Outcome State Fault Refusal :=
  next (onPair (doResyncData item) (advance dt s))

end Sys2Proof.Machine
end

