-- ==== Sys2Proof/Machine/Dispatch.lean ====
section
/-! DEFINITION. The commands: each to its meaning, or refused by name. -/

namespace Sys2Proof.Machine

/-- The effect of a command on everything but the queue. -/
def exec (i : Instr) (s : State) : Host.Outcome State Fault Refusal :=
  match i with
  | .read dt route index sub data => Sys2Proof.Machine.execRead dt route index sub data s
  | .write dt route index sub data => Sys2Proof.Machine.execWrite dt route index sub data s
  | .blockReadStart dt route index sub data => Sys2Proof.Machine.execBlockReadStart dt route index sub data s
  | .blockWriteStart dt route index sub data => Sys2Proof.Machine.execBlockWriteStart dt route index sub data s
  | .blockWriteSegment dt route index sub data => Sys2Proof.Machine.execBlockWriteSegment dt route index sub data s
  | .blockReadSegment dt route index sub data => Sys2Proof.Machine.execBlockReadSegment dt route index sub data s
  | .blockCancel dt route index sub data => Sys2Proof.Machine.execBlockCancel dt route index sub data s
  | .blockTransferTimeout dt route => Sys2Proof.Machine.execBlockTransferTimeout dt route s
  | .abort dt route slot data => Sys2Proof.Machine.execAbort dt route slot data s
  | .release dt route slot data => Sys2Proof.Machine.execRelease dt route slot data s
  | .longopSlice dt slot progress obs => Sys2Proof.Machine.execLongopSlice dt slot progress obs s
  | .longopDequeue dt slot => Sys2Proof.Machine.execLongopDequeue dt slot s
  | .encoderEdge dt ch a b => Sys2Proof.Machine.execEncoderEdge dt ch a b s
  | .encoderIndexEdge dt ch => Sys2Proof.Machine.execEncoderIndexEdge dt ch s
  | .xcheckWindowEnd dt => Sys2Proof.Machine.execXcheckWindowEnd dt s
  | .webStill dt ch => Sys2Proof.Machine.execWebStill dt ch s
  | .synthesisedTick dt => Sys2Proof.Machine.execSynthesisedTick dt s
  | .origin dt route data => Sys2Proof.Machine.execOrigin dt route data s
  | .comparePulseEnd dt m => Sys2Proof.Machine.execComparePulseEnd dt m s
  | .probeEdge dt p level => Sys2Proof.Machine.execProbeEdge dt p level s
  | .probeLatch dt p => Sys2Proof.Machine.execProbeLatch dt p s
  | .emuStep dt e => Sys2Proof.Machine.execEmuStep dt e s
  | .lineComplete dt g line obs => Sys2Proof.Machine.execLineComplete dt g line obs s
  | .lineFrameStart dt lane line => Sys2Proof.Machine.execLineFrameStart dt lane line s
  | .dataLate dt g line => Sys2Proof.Machine.execDataLate dt g line s
  | .laneFrameSent dt link => Sys2Proof.Machine.execLaneFrameSent dt link s
  | .timePeriodic dt link => Sys2Proof.Machine.execTimePeriodic dt link s
  | .tickOverdue dt => Sys2Proof.Machine.execTickOverdue dt s
  | .gateInputAccepted dt n p c => Sys2Proof.Machine.execGateInputAccepted dt n p c s
  | .gateFault dt n => Sys2Proof.Machine.execGateFault dt n s
  | .faultClear dt route data => Sys2Proof.Machine.execFaultClear dt route data s
  | .statusReceived dt lane frame => Sys2Proof.Machine.execStatusReceived dt lane frame s
  | .ctrlAckReceived dt lane frame => Sys2Proof.Machine.execCtrlAckReceived dt lane frame s
  | .ctrlDataReceived dt lane frame => Sys2Proof.Machine.execCtrlDataReceived dt lane frame s
  | .ctrlRetry dt lane tag => Sys2Proof.Machine.execCtrlRetry dt lane tag s
  | .idDataReceived dt lane frame => Sys2Proof.Machine.execIdDataReceived dt lane frame s
  | .idReadRetry dt lane tag => Sys2Proof.Machine.execIdReadRetry dt lane tag s
  | .faultReceived dt lane frame => Sys2Proof.Machine.execFaultReceived dt lane frame s
  | .delayRespReceived dt link frame => Sys2Proof.Machine.execDelayRespReceived dt link frame s
  | .timeSyncSend dt link => Sys2Proof.Machine.execTimeSyncSend dt link s
  | .timeSyncUnanswered dt link => Sys2Proof.Machine.execTimeSyncUnanswered dt link s
  | .trainReceived dt link localOk state value request => Sys2Proof.Machine.execTrainReceived dt link localOk state value request s
  | .laneDetect dt link => Sys2Proof.Machine.execLaneDetect dt link s
  | .eqPresetStep dt link eye => Sys2Proof.Machine.execEqPresetStep dt link eye s
  | .verifyPrbsEnd dt link errors => Sys2Proof.Machine.execVerifyPrbsEnd dt link errors s
  | .trainTimeout dt link => Sys2Proof.Machine.execTrainTimeout dt link s
  | .autoRetrain dt link => Sys2Proof.Machine.execAutoRetrain dt link s
  | .fomMeasure dt lane eye => Sys2Proof.Machine.execFomMeasure dt lane eye s
  | .codeErrorLimit dt run => Sys2Proof.Machine.execCodeErrorLimit dt run s
  | .commaLoss dt link => Sys2Proof.Machine.execCommaLoss dt link s
  | .badFrameRun dt link => Sys2Proof.Machine.execBadFrameRun dt link s
  | .upstreamSilent dt lane => Sys2Proof.Machine.execUpstreamSilent dt lane s
  | .statusMissing dt bay => Sys2Proof.Machine.execStatusMissing dt bay s
  | .retrain dt route lane data => Sys2Proof.Machine.execRetrain dt route lane data s
  | .waveLoad dt route bay data => Sys2Proof.Machine.execWaveLoad dt route bay data s
  | .regDataRead dt route lane data => Sys2Proof.Machine.execRegDataRead dt route lane data s
  | .regDataWrite dt route lane data => Sys2Proof.Machine.execRegDataWrite dt route lane data s
  | .arm dt route data => Sys2Proof.Machine.execArm dt route data s
  | .disarm dt route data => Sys2Proof.Machine.execDisarm dt route data s
  | .enqueue dt route q data => Sys2Proof.Machine.execEnqueue dt route q data s
  | .restart dt route q data => Sys2Proof.Machine.execRestart dt route q data s
  | .load dt route g data => Sys2Proof.Machine.execLoad dt route g data s
  | .edit dt route g data => Sys2Proof.Machine.execEdit dt route g data s
  | .swapLine dt route g data => Sys2Proof.Machine.execSwapLine dt route g data s
  | .swapCancel dt route g data => Sys2Proof.Machine.execSwapCancel dt route g data s
  | .thresholdLoad dt route g data => Sys2Proof.Machine.execThresholdLoad dt route g data s
  | .ringTailDoorbell dt ring value => Sys2Proof.Machine.execRingTailDoorbell dt ring value s
  | .ringReset dt ring value => Sys2Proof.Machine.execRingReset dt ring value s
  | .ringResume dt ring value => Sys2Proof.Machine.execRingResume dt ring value s
  | .registerWrite dt offset data => Sys2Proof.Machine.execRegisterWrite dt offset data s
  | .containerStart dt src descs bytes => Sys2Proof.Machine.execContainerStart dt src descs bytes s
  | .containerTransferDone dt id => Sys2Proof.Machine.execContainerTransferDone dt id s
  | .completionTimeout dt ring => Sys2Proof.Machine.execCompletionTimeout dt ring s
  | .purge dt route data => Sys2Proof.Machine.execPurge dt route data s
  | .openDirect dt route data => Sys2Proof.Machine.execOpenDirect dt route data s
  | .commitDirect dt route data => Sys2Proof.Machine.execCommitDirect dt route data s
  | .reserveBarWrite dt offset data => Sys2Proof.Machine.execReserveBarWrite dt offset data s
  | .reserveBarRead dt offset len => Sys2Proof.Machine.execReserveBarRead dt offset len s
  | .bundle dt route data => Sys2Proof.Machine.execBundle dt route data s
  | .bundleUnitStart dt slot => Sys2Proof.Machine.execBundleUnitStart dt slot s
  | .egressWrite dt ring descs => Sys2Proof.Machine.execEgressWrite dt ring descs s
  | .csiFrameStart dt port header number => Sys2Proof.Machine.execCsiFrameStart dt port header number s
  | .csiLongPacket dt port header dataType pixels crcOk => Sys2Proof.Machine.execCsiLongPacket dt port header dataType pixels crcOk s
  | .csiFrameEnd dt port header number => Sys2Proof.Machine.execCsiFrameEnd dt port header number s
  | .cameraFrameTimeout dt ctx => Sys2Proof.Machine.execCameraFrameTimeout dt ctx s
  | .pipelineFrameStart dt => Sys2Proof.Machine.execPipelineFrameStart dt s
  | .pipelineFrameDone dt => Sys2Proof.Machine.execPipelineFrameDone dt s
  | .exposureCommit dt route ctx data => Sys2Proof.Machine.execExposureCommit dt route ctx data s
  | .cciTransactionDone dt port result => Sys2Proof.Machine.execCciTransactionDone dt port result s
  | .cciStretchTimeout dt port => Sys2Proof.Machine.execCciStretchTimeout dt port s
  | .cciRequest dt route port data => Sys2Proof.Machine.execCciRequest dt route port data s
  | .freeze dt route ctx data => Sys2Proof.Machine.execFreeze dt route ctx data s
  | .loopReport dt => Sys2Proof.Machine.execLoopReport dt s
  | .loopUpdate dt g => Sys2Proof.Machine.execLoopUpdate dt g s
  | .sweep dt route data => Sys2Proof.Machine.execSweep dt route data s
  | .sweepSlot dt => Sys2Proof.Machine.execSweepSlot dt s
  | .dgatePulse dt g => Sys2Proof.Machine.execDgatePulse dt g s
  | .shotDecide dt g => Sys2Proof.Machine.execShotDecide dt g s
  | .dgateStuck dt g => Sys2Proof.Machine.execDgateStuck dt g s
  | .lampRefresh dt ch => Sys2Proof.Machine.execLampRefresh dt ch s
  | .lampLatch dt ch status => Sys2Proof.Machine.execLampLatch dt ch status s
  | .peerActiveChange dt asserted => Sys2Proof.Machine.execPeerActiveChange dt asserted s
  | .arbitrationTimeout dt => Sys2Proof.Machine.execArbitrationTimeout dt s
  | .takeoverLaneSend dt lane => Sys2Proof.Machine.execTakeoverLaneSend dt lane s
  | .heartbeatSend dt lane => Sys2Proof.Machine.execHeartbeatSend dt lane s
  | .heartbeatLost dt => Sys2Proof.Machine.execHeartbeatLost dt s
  | .heartbeatReceived dt role reign mode tick confirmed => Sys2Proof.Machine.execHeartbeatReceived dt role reign mode tick confirmed s
  | .mirrorReceived dt seq body => Sys2Proof.Machine.execMirrorReceived dt seq body s
  | .segmentReceived dt seq part => Sys2Proof.Machine.execSegmentReceived dt seq part s
  | .confirmReceived dt seq result => Sys2Proof.Machine.execConfirmReceived dt seq result s
  | .mirrorTimeout dt => Sys2Proof.Machine.execMirrorTimeout dt s
  | .pairLinkDownTimeout dt => Sys2Proof.Machine.execPairLinkDownTimeout dt s
  | .reportReceived dt report => Sys2Proof.Machine.execReportReceived dt report s
  | .bayStateReceived dt bay st => Sys2Proof.Machine.execBayStateReceived dt bay st s
  | .decisionReceived dt q inst starved => Sys2Proof.Machine.execDecisionReceived dt q inst starved s
  | .alignReceived dt msg => Sys2Proof.Machine.execAlignReceived dt msg s
  | .alignSend dt => Sys2Proof.Machine.execAlignSend dt s
  | .alignPoint dt => Sys2Proof.Machine.execAlignPoint dt s
  | .digestReceived dt g line crc => Sys2Proof.Machine.execDigestReceived dt g line crc s
  | .relinquishReceived dt cause lines => Sys2Proof.Machine.execRelinquishReceived dt cause lines s
  | .takeoverNoticeReceived dt reign => Sys2Proof.Machine.execTakeoverNoticeReceived dt reign s
  | .handoverReceived dt mh => Sys2Proof.Machine.execHandoverReceived dt mh s
  | .yieldedReceived dt => Sys2Proof.Machine.execYieldedReceived dt s
  | .resyncDataReceived dt item => Sys2Proof.Machine.execResyncDataReceived dt item s
  | .handover dt route data => Sys2Proof.Machine.execHandover dt route data s
  | .handoverTakeoverSend dt lane => Sys2Proof.Machine.execHandoverTakeoverSend dt lane s
  | .resync dt route data => Sys2Proof.Machine.execResync dt route data s
  | .declareDegraded dt route data => Sys2Proof.Machine.execDeclareDegraded dt route data s
  | .netLink dt port link => Sys2Proof.Machine.execNetLink dt port link s
  | .ethernetFrameFiltered dt port frame fcsOk => Sys2Proof.Machine.execEthernetFrameFiltered dt port frame fcsOk s
  | .arpReceived dt port arp => Sys2Proof.Machine.execArpReceived dt port arp s
  | .arpRetry dt port ip => Sys2Proof.Machine.execArpRetry dt port ip s
  | .arpUnresolved dt port ip => Sys2Proof.Machine.execArpUnresolved dt port ip s
  | .arpAgeExpiry dt port ip => Sys2Proof.Machine.execArpAgeExpiry dt port ip s
  | .sharedIpArp dt => Sys2Proof.Machine.execSharedIpArp dt s
  | .icmpEcho dt src echo => Sys2Proof.Machine.execIcmpEcho dt src echo s
  | .challenge dt src msg => Sys2Proof.Machine.execChallenge dt src msg s
  | .openSession dt src msg => Sys2Proof.Machine.execOpenSession dt src msg s
  | .request dt src msg => Sys2Proof.Machine.execRequest dt src msg s
  | .closeRequest dt src msg => Sys2Proof.Machine.execCloseRequest dt src msg s
  | .identRead dt src msg => Sys2Proof.Machine.execIdentRead dt src msg s
  | .sessionIdleTimeout dt slot => Sys2Proof.Machine.execSessionIdleTimeout dt slot s
  | .nonceExpiry dt port => Sys2Proof.Machine.execNonceExpiry dt port s
  | .lockoutEnd dt ip => Sys2Proof.Machine.execLockoutEnd dt ip s
  | .authCountExpiry dt ip => Sys2Proof.Machine.execAuthCountExpiry dt ip s
  | .closeSession dt route data => Sys2Proof.Machine.execCloseSession dt route data s
  | .keyWrite dt route data => Sys2Proof.Machine.execKeyWrite dt route data s
  | .mdioRequest dt route port data phy => Sys2Proof.Machine.execMdioRequest dt route port data phy s
  | .publicationSample dt p => Sys2Proof.Machine.execPublicationSample dt p s
  | .eventPushSend dt => Sys2Proof.Machine.execEventPushSend dt s
  | .frameLaunch dt port queue => Sys2Proof.Machine.execFrameLaunch dt port queue s
  | .launchDropped dt port queue => Sys2Proof.Machine.execLaunchDropped dt port queue s
  | .ptpSyncReceived dt master => Sys2Proof.Machine.execPtpSyncReceived dt master s
  | .deferredStep dt => Sys2Proof.Machine.execDeferredStep dt s
  | .ptpDelayRespReceived dt received => Sys2Proof.Machine.execPtpDelayRespReceived dt received s
  | .ptpDelayReqReceived dt req => Sys2Proof.Machine.execPtpDelayReqReceived dt req s
  | .ptpAnnounceReceived dt ann => Sys2Proof.Machine.execPtpAnnounceReceived dt ann s
  | .ptpSyncSend dt => Sys2Proof.Machine.execPtpSyncSend dt s
  | .ptpDelayReqSend dt => Sys2Proof.Machine.execPtpDelayReqSend dt s
  | .syncTimeout dt => Sys2Proof.Machine.execSyncTimeout dt s
  | .setTime dt route data => Sys2Proof.Machine.execSetTime dt route data s
  | .timeSnapshot dt value => Sys2Proof.Machine.execTimeSnapshot dt value s
  | .provenanceExport dt ring => Sys2Proof.Machine.execProvenanceExport dt ring s
  | .provenanceRewind dt ring value => Sys2Proof.Machine.execProvenanceRewind dt ring value s
  | .printRecordWrite dt g line => Sys2Proof.Machine.execPrintRecordWrite dt g line s
  | .hostPortReset dt cause => Sys2Proof.Machine.execHostPortReset dt cause s
  | .hostLink dt speed width => Sys2Proof.Machine.execHostLink dt speed width s
  | .mbDoorbell dt value => Sys2Proof.Machine.execMbDoorbell dt value s
  | .mbStatusRead dt => Sys2Proof.Machine.execMbStatusRead dt s
  | .icClaim dt t value => Sys2Proof.Machine.execIcClaim dt t value s
  | .icComplete dt t value => Sys2Proof.Machine.execIcComplete dt t value s
  | .icPendClear dt ix value => Sys2Proof.Machine.execIcPendClear dt ix value s
  | .icVanishedRead dt t => Sys2Proof.Machine.execIcVanishedRead dt t s
  | .icFaultClear dt value => Sys2Proof.Machine.execIcFaultClear dt value s
  | .icModeWrite dt value => Sys2Proof.Machine.execIcModeWrite dt value s
  | .coalesceTimeout dt src => Sys2Proof.Machine.execCoalesceTimeout dt src s
  | .crcData dt ch data => Sys2Proof.Machine.execCrcData dt ch data s
  | .crcInit dt ch value => Sys2Proof.Machine.execCrcInit dt ch value s
  | .crcCfgWrite dt ch value => Sys2Proof.Machine.execCrcCfgWrite dt ch value s
  | .crcStatRead dt ch => Sys2Proof.Machine.execCrcStatRead dt ch s
  | .dramReadError dt chan rank offset device user => Sys2Proof.Machine.execDramReadError dt chan rank offset device user s
  | .dramReread dt chan decodes => Sys2Proof.Machine.execDramReread dt chan decodes s
  | .dramAlert dt chan rank writeCrc => Sys2Proof.Machine.execDramAlert dt chan rank writeCrc s
  | .migrationStart dt chan => Sys2Proof.Machine.execMigrationStart dt chan s
  | .rankMigrated dt chan => Sys2Proof.Machine.execRankMigrated dt chan s
  | .dramTempPoll dt chan reports => Sys2Proof.Machine.execDramTempPoll dt chan reports s
  | .dramBandFall dt chan => Sys2Proof.Machine.execDramBandFall dt chan s
  | .dramRefresh dt chan => Sys2Proof.Machine.execDramRefresh dt chan s
  | .zqCalibration dt chan => Sys2Proof.Machine.execZqCalibration dt chan s
  | .dqsTracking dt chan => Sys2Proof.Machine.execDqsTracking dt chan s
  | .activationTableClear dt chan => Sys2Proof.Machine.execActivationTableClear dt chan s
  | .hammerRefresh dt chan bank row => Sys2Proof.Machine.execHammerRefresh dt chan bank row s
  | .patrolScrub dt chan corrected => Sys2Proof.Machine.execPatrolScrub dt chan corrected s
  | .train dt route data => Sys2Proof.Machine.execTrain dt route data s
  | .scrub dt route data => Sys2Proof.Machine.execScrub dt route data s
  | .migrate dt route data => Sys2Proof.Machine.execMigrate dt route data s
  | .clearExclude dt route data => Sys2Proof.Machine.execClearExclude dt route data s
  | .dieSensorSample dt readings => Sys2Proof.Machine.execDieSensorSample dt readings s
  | .dieSensorSilent dt d => Sys2Proof.Machine.execDieSensorSilent dt d s
  | .sensorStale dt id => Sys2Proof.Machine.execSensorStale dt id s
  | .calAnalogue dt route data => Sys2Proof.Machine.execCalAnalogue dt route data s
  | .calPhoto dt route data => Sys2Proof.Machine.execCalPhoto dt route data s
  | .calPhotoTimeout dt => Sys2Proof.Machine.execCalPhotoTimeout dt s
  | .commit dt route data => Sys2Proof.Machine.execCommit dt route data s
  | .commitClear dt route data => Sys2Proof.Machine.execCommitClear dt route data s
  | .pfailAssert dt => Sys2Proof.Machine.execPfailAssert dt s
  | .pfailRelease dt => Sys2Proof.Machine.execPfailRelease dt s
  | .porst dt straps => Sys2Proof.Machine.execPorst dt straps s
  | .resetPin dt => Sys2Proof.Machine.execResetPin dt s
  | .resetCmd dt route data => Sys2Proof.Machine.execResetCmd dt route data s
  | .resetTakeEffect dt => Sys2Proof.Machine.execResetTakeEffect dt s
  | .watchdogExpiry dt => Sys2Proof.Machine.execWatchdogExpiry dt s
  | .lockstepMismatch dt => Sys2Proof.Machine.execLockstepMismatch dt s
  | .fatalWarmReset dt => Sys2Proof.Machine.execFatalWarmReset dt s
  | .supplyFault dt rail mv => Sys2Proof.Machine.execSupplyFault dt rail mv s
  | .clockFault dt which => Sys2Proof.Machine.execClockFault dt which s
  | .recoveryImageReceived dt image crc => Sys2Proof.Machine.execRecoveryImageReceived dt image crc s
  | .bootComplete dt trained => Sys2Proof.Machine.execBootComplete dt trained s
  | .modeRequestIdle dt route data => Sys2Proof.Machine.execModeRequestIdle dt route data s
  | .modeRequestService dt route data => Sys2Proof.Machine.execModeRequestService dt route data s
  | .modeRequestReady dt route data => Sys2Proof.Machine.execModeRequestReady dt route data s
  | .modeRequestPrint dt route data => Sys2Proof.Machine.execModeRequestPrint dt route data s
  | .printGalleriesWrite dt route data => Sys2Proof.Machine.execPrintGalleriesWrite dt route data s
  | .headPowerOff dt => Sys2Proof.Machine.execHeadPowerOff dt s
  | .safeRequest dt route data => Sys2Proof.Machine.execSafeRequest dt route data s
  | .safeClear dt route data => Sys2Proof.Machine.execSafeClear dt route data s
  | .fwUpdate dt route data => Sys2Proof.Machine.execFwUpdate dt route data s
  | .fwConfirm dt route data => Sys2Proof.Machine.execFwConfirm dt route data s
  | .shutdown dt route data => Sys2Proof.Machine.execShutdown dt route data s
  | .selftest dt route data => Sys2Proof.Machine.execSelftest dt route data s
  | .selftestEnter dt => Sys2Proof.Machine.execSelftestEnter dt s
  | .selftestPhaseEnd dt results => Sys2Proof.Machine.execSelftestPhaseEnd dt results s
  | .extest dt => Sys2Proof.Machine.execExtest dt s
  | .idcode dt => Sys2Proof.Machine.execIdcode dt s
  | .samplePreload dt shiftIn => Sys2Proof.Machine.execSamplePreload dt shiftIn s
  | .highz dt => Sys2Proof.Machine.execHighz dt s
  | .clamp dt => Sys2Proof.Machine.execClamp dt s
  | .extestPulse dt => Sys2Proof.Machine.execExtestPulse dt s
  | .extestTrain dt => Sys2Proof.Machine.execExtestTrain dt s
  | .bypass dt opcode => Sys2Proof.Machine.execBypass dt opcode s
  | .tapReset dt porstRise => Sys2Proof.Machine.execTapReset dt porstRise s
  | .pcieCompletionUnsuccessful dt ring => Sys2Proof.Machine.execPcieCompletionUnsuccessful dt ring s
  | .configWrite dt bme power other => Sys2Proof.Machine.execConfigWrite dt bme power other s
  | .supplyRestored dt rail mv => Sys2Proof.Machine.execSupplyRestored dt rail mv s
  | .clockRestored dt which => Sys2Proof.Machine.execClockRestored dt which s
  | .prbsLock dt check => Sys2Proof.Machine.execPrbsLock dt check s
  | .pairLinkTimeSyncReceived dt t1 delay epoch => Sys2Proof.Machine.execPairLinkTimeSyncReceived dt t1 delay epoch s
  | .takeoverTickTimeout dt => Sys2Proof.Machine.execTakeoverTickTimeout dt s
  | .ptpAnnounceSend dt => Sys2Proof.Machine.execPtpAnnounceSend dt s
  | .announceReceiptTimeout dt => Sys2Proof.Machine.execAnnounceReceiptTimeout dt s
  | .hostHeartbeatTick dt => Sys2Proof.Machine.execHostHeartbeatTick dt s
  | .csiPacketDiscarded dt port why => Sys2Proof.Machine.execCsiPacketDiscarded dt port why s
  | .malformedMessage dt src msg => Sys2Proof.Machine.execMalformedMessage dt src msg s

end Sys2Proof.Machine
end

