-- ==== Sys2Proof/Safety.lean ====
section
/-! DEFINITION. What counts as a safe state of the block, and the terms in which the statements speak of a command's outcome. -/

namespace Sys2Proof.Machine

/-- A mode in which the block may fire or prepare to (R27). -/
def Mode.live : Mode → Bool
  | .service => true
  | .ready => true
  | .print => true
  | _ => false

/-- The protective outputs and the mode agree with the SAFE latch: a set latch leaves no mode that fires (R432), SAFE_N is
asserted and LMP_BLANK_N low exactly as R175, R265 and R275 say, and IRQ_N follows target 0 (R352). -/
structure State.Guarded (s : State) : Prop where
  latch : s.sys.latch = true → s.sys.mode.live = false
  safeN : s.sys.safeN = s.safeNow
  blank : s.sys.lampBlank = s.blankNow
  irqN  : s.ic.irqN = (s.ic.pinEn && s.ic.condition 0 && s.sys.mode != .boot && bitOf s.sys.straps 2)

/-- A run is safe when the memory keeps its canonical form and the guard holds. -/
def State.Safe (s : State) : Prop := s.Guarded ∧ Memory.wf s.res.mem = true

/-! Outcomes -/

/-- The command answers a next state: u, with the block settled. So u, written as a change of the state before, says all
that the command itself changes; what settling changes besides is the same for every command. -/
def Does (c : Instr) (s u : State) : Prop := exec c s = .next (settle u)

/-- The command answers a next state, and P holds of it. -/
def Answers (c : Instr) (s : State) (P : State → Prop) : Prop := ∃ t, exec c s = .next t ∧ P t

/-- Nothing follows by itself: no lanes force the unit to give up control, no alignment is awaited, no probe entry waits, the
latch forces no move, no swap, loop update or sweep is under way, no session and no cause is to be told. -/
structure State.Quiet (s : State) : Prop where
  lanes    : s.tooFewLanes = false
  align    : s.pair.alignDue = none
  probes   : ∀ p, p < 4 → (tget {} s.probes p : Probe).queue = []
  latch    : s.sys.latch = false
  swaps    : ∀ g, g < 8 → (s.gal g).noz.swap = none
  loops    : s.loops = []
  sweep    : s.sweep = none
  sessions : s.net.sessions = []
  control  : s.inControl = true
  told     : s.sys.causes = s.pair.causesTold

/-! Catalogue services -/

/-- The state that a service of route r meets: dt later, its session's idle time counting anew, idle transfers gone. -/
def State.arrived (r : Route) (dt : Nat) (s : State) : State := dropIdle (touchSession r (advance dt s))

/-- A service of route r reaches the entry described by row: the route is open, no transaction waits, the entry exists, and
the route may reach it (stages 1 and 2 of R47). -/
structure Reaches (r : Route) (service idx sub : Nat) (bs : Bytes) (row : Row) (dt : Nat) (s : State) : Prop where
  isOpen : (advance dt s).routeOpen r = true
  idle   : s.cat.waiting = [] ∧ s.cat.mirror = none ∧ s.cat.reg = none
  entry  : isVendor idx = false ∧ findEntry idx sub = (0, some row)
  route  : (s.arrived r dt).routeCode ⟨.direct (routeNo r), service, idx, sub, bs⟩ = 0

/-- A WRITE that passes every check of R47 and waits for no standby's confirmation. -/
structure Accepts (r : Route) (idx sub : Nat) (bs : Bytes) (row : Row) (dt : Nat) (s : State) : Prop where
  reaches : Reaches r 2 idx sub bs row dt s
  code    : (s.arrived r dt).writeCode idx row bs true = 0
  alone   : row.mirrored = false ∨ (s.arrived r dt).mirrors = false

/-- The state an accepted WRITE acts on: its value stands in its entry. -/
def State.stored (r : Route) (idx : Nat) (bs : Bytes) (row : Row) (dt : Nat) (s : State) : State :=
  storeValue idx row bs (s.arrived r dt)

/-- The same for the write of a long operation's CMD entry: the operation holds slot k. -/
def State.started (r : Route) (k idx sub res : Nat) (bs : Bytes) (row : Row) (dt : Nat) (s : State) : State :=
  startOp k idx sub res bs (s.stored r idx bs row dt)

/-- A WRITE is answered with success and DATA. -/
def answered (r : Route) (idx sub : Nat) (data : Bytes) (s : State) : State :=
  emit (.response (routeNo r) 2 idx sub 0 data) s

end Sys2Proof.Machine
end

