-- ==== Sys2Proof/WellFormed.lean ====
section
/-! DEFINITION. Which commands are well formed: the operands that have one length or never take some value do so. -/

namespace Sys2Proof

/-- The command is one the outside can send. -/
def Instr.wf : Instr → Bool
  | .read _ _ _ _ _ => true
  | .write _ _ _ _ _ => true
  | .blockReadStart _ _ _ _ _ => true
  | .blockWriteStart _ _ _ _ _ => true
  | .blockWriteSegment _ _ _ _ _ => true
  | .blockReadSegment _ _ _ _ _ => true
  | .blockCancel _ _ _ _ _ => true
  | .blockTransferTimeout _ _ => true
  | .abort _ _ _ _ => true
  | .release _ _ _ _ => true
  | .longopSlice _ _ _ _ => true
  | .longopDequeue _ _ => true
  | .encoderEdge _ _ _ _ => true
  | .encoderIndexEdge _ _ => true
  | .xcheckWindowEnd _ => true
  | .webStill _ _ => true
  | .synthesisedTick _ => true
  | .origin _ _ _ => true
  | .comparePulseEnd _ _ => true
  | .probeEdge _ _ _ => true
  | .probeLatch _ _ => true
  | .emuStep _ _ => true
  | .lineComplete _ _ _ _ => true
  | .lineFrameStart _ _ line => line.ring.bad.all (· == .dropRing)
  | .dataLate _ _ _ => true
  | .laneFrameSent _ _ => true
  | .timePeriodic _ _ => true
  | .tickOverdue _ => true
  | .gateInputAccepted _ _ _ _ => true
  | .gateFault _ _ => true
  | .faultClear _ _ _ => true
  | .statusReceived _ _ _ => true
  | .ctrlAckReceived _ _ _ => true
  | .ctrlDataReceived _ _ _ => true
  | .ctrlRetry _ _ _ => true
  | .idDataReceived _ _ _ => true
  | .idReadRetry _ _ _ => true
  | .faultReceived _ _ _ => true
  | .delayRespReceived _ _ _ => true
  | .timeSyncSend _ _ => true
  | .timeSyncUnanswered _ _ => true
  | .trainReceived _ _ _ _ _ _ => true
  | .laneDetect _ _ => true
  | .eqPresetStep _ _ _ => true
  | .verifyPrbsEnd _ _ _ => true
  | .trainTimeout _ _ => true
  | .autoRetrain _ _ => true
  | .fomMeasure _ _ _ => true
  | .codeErrorLimit _ run => run.groups.length ≤ 1024
  | .commaLoss _ _ => true
  | .badFrameRun _ _ => true
  | .upstreamSilent _ _ => true
  | .statusMissing _ _ => true
  | .retrain _ _ _ _ => true
  | .waveLoad _ _ _ _ => true
  | .regDataRead _ _ _ _ => true
  | .regDataWrite _ _ _ _ => true
  | .arm _ _ _ => true
  | .disarm _ _ _ => true
  | .enqueue _ _ _ _ => true
  | .restart _ _ _ _ => true
  | .load _ _ _ _ => true
  | .edit _ _ _ _ => true
  | .swapLine _ _ _ _ => true
  | .swapCancel _ _ _ _ => true
  | .thresholdLoad _ _ _ _ => true
  | .ringTailDoorbell _ _ _ => true
  | .ringReset _ _ _ => true
  | .ringResume _ _ _ => true
  | .registerWrite _ _ data => data.length == 4
  | .containerStart _ src descs _ => decide (src = .network) || 0 < descs.length
  | .containerTransferDone _ _ => true
  | .completionTimeout _ _ => true
  | .purge _ _ _ => true
  | .openDirect _ _ _ => true
  | .commitDirect _ _ _ => true
  | .reserveBarWrite _ _ data => 0 < data.length
  | .reserveBarRead _ _ len => 0 < len.toNat
  | .bundle _ _ _ => true
  | .bundleUnitStart _ _ => true
  | .egressWrite _ _ descs => descs.length ≤ 4096
  | .csiFrameStart _ _ _ _ => true
  | .csiLongPacket _ _ _ _ pixels _ => 0 < pixels.length
  | .csiFrameEnd _ _ _ _ => true
  | .cameraFrameTimeout _ _ => true
  | .pipelineFrameStart _ => true
  | .pipelineFrameDone _ => true
  | .exposureCommit _ _ _ _ => true
  | .cciTransactionDone _ _ _ => true
  | .cciStretchTimeout _ _ => true
  | .cciRequest _ _ _ _ => true
  | .freeze _ _ _ _ => true
  | .loopReport _ => true
  | .loopUpdate _ _ => true
  | .sweep _ _ _ => true
  | .sweepSlot _ => true
  | .dgatePulse _ _ => true
  | .shotDecide _ _ => true
  | .dgateStuck _ _ => true
  | .lampRefresh _ _ => true
  | .lampLatch _ _ status => status.length ≤ 32
  | .peerActiveChange _ _ => true
  | .arbitrationTimeout _ => true
  | .takeoverLaneSend _ _ => true
  | .heartbeatSend _ _ => true
  | .heartbeatLost _ => true
  | .heartbeatReceived _ _ _ _ _ _ => true
  | .mirrorReceived _ _ _ => true
  | .segmentReceived _ _ _ => true
  | .confirmReceived _ _ _ => true
  | .mirrorTimeout _ => true
  | .pairLinkDownTimeout _ => true
  | .reportReceived _ _ => true
  | .bayStateReceived _ _ _ => true
  | .decisionReceived _ _ _ _ => true
  | .alignReceived _ _ => true
  | .alignSend _ => true
  | .alignPoint _ => true
  | .digestReceived _ _ _ _ => true
  | .relinquishReceived _ _ _ => true
  | .takeoverNoticeReceived _ reign => reign != 0
  | .handoverReceived _ _ => true
  | .yieldedReceived _ => true
  | .resyncDataReceived _ _ => true
  | .handover _ _ _ => true
  | .handoverTakeoverSend _ _ => true
  | .resync _ _ _ => true
  | .declareDegraded _ _ _ => true
  | .netLink _ _ _ => true
  | .ethernetFrameFiltered _ _ frame _ => 14 ≤ frame.length
  | .arpReceived _ _ _ => true
  | .arpRetry _ _ _ => true
  | .arpUnresolved _ _ _ => true
  | .arpAgeExpiry _ _ _ => true
  | .sharedIpArp _ => true
  | .icmpEcho _ _ _ => true
  | .challenge _ _ _ => true
  | .openSession _ _ _ => true
  | .request _ _ _ => true
  | .closeRequest _ _ _ => true
  | .identRead _ _ _ => true
  | .sessionIdleTimeout _ _ => true
  | .nonceExpiry _ _ => true
  | .lockoutEnd _ _ => true
  | .authCountExpiry _ _ => true
  | .closeSession _ _ _ => true
  | .keyWrite _ _ _ => true
  | .mdioRequest _ _ _ _ _ => true
  | .publicationSample _ _ => true
  | .eventPushSend _ => true
  | .frameLaunch _ _ _ => true
  | .launchDropped _ _ _ => true
  | .ptpSyncReceived _ _ => true
  | .deferredStep _ => true
  | .ptpDelayRespReceived _ _ => true
  | .ptpDelayReqReceived _ _ => true
  | .ptpAnnounceReceived _ _ => true
  | .ptpSyncSend _ => true
  | .ptpDelayReqSend _ => true
  | .syncTimeout _ => true
  | .setTime _ _ _ => true
  | .timeSnapshot _ _ => true
  | .provenanceExport _ _ => true
  | .provenanceRewind _ _ _ => true
  | .printRecordWrite _ _ _ => true
  | .hostPortReset _ _ => true
  | .hostLink _ _ _ => true
  | .mbDoorbell _ _ => true
  | .mbStatusRead _ => true
  | .icClaim _ _ _ => true
  | .icComplete _ _ _ => true
  | .icPendClear _ _ _ => true
  | .icVanishedRead _ _ => true
  | .icFaultClear _ _ => true
  | .icModeWrite _ _ => true
  | .coalesceTimeout _ _ => true
  | .crcData _ _ _ => true
  | .crcInit _ _ _ => true
  | .crcCfgWrite _ _ _ => true
  | .crcStatRead _ _ => true
  | .dramReadError _ _ _ offset _ _ => offset % 128 == 0
  | .dramReread _ _ _ => true
  | .dramAlert _ _ _ _ => true
  | .migrationStart _ _ => true
  | .rankMigrated _ _ => true
  | .dramTempPoll _ _ _ => true
  | .dramBandFall _ _ => true
  | .dramRefresh _ _ => true
  | .zqCalibration _ _ => true
  | .dqsTracking _ _ => true
  | .activationTableClear _ _ => true
  | .hammerRefresh _ _ _ _ => true
  | .patrolScrub _ _ _ => true
  | .train _ _ _ => true
  | .scrub _ _ _ => true
  | .migrate _ _ _ => true
  | .clearExclude _ _ _ => true
  | .dieSensorSample _ readings => readings.length == 12
  | .dieSensorSilent _ _ => true
  | .sensorStale _ _ => true
  | .calAnalogue _ _ _ => true
  | .calPhoto _ _ _ => true
  | .calPhotoTimeout _ => true
  | .commit _ _ _ => true
  | .commitClear _ _ _ => true
  | .pfailAssert _ => true
  | .pfailRelease _ => true
  | .porst _ _ => true
  | .resetPin _ => true
  | .resetCmd _ _ _ => true
  | .resetTakeEffect _ => true
  | .watchdogExpiry _ => true
  | .lockstepMismatch _ => true
  | .fatalWarmReset _ => true
  | .supplyFault _ _ _ => true
  | .clockFault _ _ => true
  | .recoveryImageReceived _ _ _ => true
  | .bootComplete _ trained => trained.length == 8
  | .modeRequestIdle _ _ _ => true
  | .modeRequestService _ _ _ => true
  | .modeRequestReady _ _ _ => true
  | .modeRequestPrint _ _ _ => true
  | .printGalleriesWrite _ _ _ => true
  | .headPowerOff _ => true
  | .safeRequest _ _ _ => true
  | .safeClear _ _ _ => true
  | .fwUpdate _ _ _ => true
  | .fwConfirm _ _ _ => true
  | .shutdown _ _ _ => true
  | .selftest _ _ _ => true
  | .selftestEnter _ => true
  | .selftestPhaseEnd _ results => results.length == 13
  | .extest _ => true
  | .idcode _ => true
  | .samplePreload _ _ => true
  | .highz _ => true
  | .clamp _ => true
  | .extestPulse _ => true
  | .extestTrain _ => true
  | .bypass _ _ => true
  | .tapReset _ _ => true
  | .pcieCompletionUnsuccessful _ _ => true
  | .configWrite _ _ _ _ => true
  | .supplyRestored _ _ _ => true
  | .clockRestored _ _ => true
  | .prbsLock _ _ => true
  | .pairLinkTimeSyncReceived _ _ _ _ => true
  | .takeoverTickTimeout _ => true
  | .ptpAnnounceSend _ => true
  | .announceReceiptTimeout _ => true
  | .hostHeartbeatTick _ => true
  | .csiPacketDiscarded _ _ _ => true
  | .malformedMessage _ _ _ => true

/-- The core clocks that pass before the command (log entry 1). -/
def Instr.dt : Instr → Nat
  | .read dt _ _ _ _ => dt
  | .write dt _ _ _ _ => dt
  | .blockReadStart dt _ _ _ _ => dt
  | .blockWriteStart dt _ _ _ _ => dt
  | .blockWriteSegment dt _ _ _ _ => dt
  | .blockReadSegment dt _ _ _ _ => dt
  | .blockCancel dt _ _ _ _ => dt
  | .blockTransferTimeout dt _ => dt
  | .abort dt _ _ _ => dt
  | .release dt _ _ _ => dt
  | .longopSlice dt _ _ _ => dt
  | .longopDequeue dt _ => dt
  | .encoderEdge dt _ _ _ => dt
  | .encoderIndexEdge dt _ => dt
  | .xcheckWindowEnd dt => dt
  | .webStill dt _ => dt
  | .synthesisedTick dt => dt
  | .origin dt _ _ => dt
  | .comparePulseEnd dt _ => dt
  | .probeEdge dt _ _ => dt
  | .probeLatch dt _ => dt
  | .emuStep dt _ => dt
  | .lineComplete dt _ _ _ => dt
  | .lineFrameStart dt _ _ => dt
  | .dataLate dt _ _ => dt
  | .laneFrameSent dt _ => dt
  | .timePeriodic dt _ => dt
  | .tickOverdue dt => dt
  | .gateInputAccepted dt _ _ _ => dt
  | .gateFault dt _ => dt
  | .faultClear dt _ _ => dt
  | .statusReceived dt _ _ => dt
  | .ctrlAckReceived dt _ _ => dt
  | .ctrlDataReceived dt _ _ => dt
  | .ctrlRetry dt _ _ => dt
  | .idDataReceived dt _ _ => dt
  | .idReadRetry dt _ _ => dt
  | .faultReceived dt _ _ => dt
  | .delayRespReceived dt _ _ => dt
  | .timeSyncSend dt _ => dt
  | .timeSyncUnanswered dt _ => dt
  | .trainReceived dt _ _ _ _ _ => dt
  | .laneDetect dt _ => dt
  | .eqPresetStep dt _ _ => dt
  | .verifyPrbsEnd dt _ _ => dt
  | .trainTimeout dt _ => dt
  | .autoRetrain dt _ => dt
  | .fomMeasure dt _ _ => dt
  | .codeErrorLimit dt _ => dt
  | .commaLoss dt _ => dt
  | .badFrameRun dt _ => dt
  | .upstreamSilent dt _ => dt
  | .statusMissing dt _ => dt
  | .retrain dt _ _ _ => dt
  | .waveLoad dt _ _ _ => dt
  | .regDataRead dt _ _ _ => dt
  | .regDataWrite dt _ _ _ => dt
  | .arm dt _ _ => dt
  | .disarm dt _ _ => dt
  | .enqueue dt _ _ _ => dt
  | .restart dt _ _ _ => dt
  | .load dt _ _ _ => dt
  | .edit dt _ _ _ => dt
  | .swapLine dt _ _ _ => dt
  | .swapCancel dt _ _ _ => dt
  | .thresholdLoad dt _ _ _ => dt
  | .ringTailDoorbell dt _ _ => dt
  | .ringReset dt _ _ => dt
  | .ringResume dt _ _ => dt
  | .registerWrite dt _ _ => dt
  | .containerStart dt _ _ _ => dt
  | .containerTransferDone dt _ => dt
  | .completionTimeout dt _ => dt
  | .purge dt _ _ => dt
  | .openDirect dt _ _ => dt
  | .commitDirect dt _ _ => dt
  | .reserveBarWrite dt _ _ => dt
  | .reserveBarRead dt _ _ => dt
  | .bundle dt _ _ => dt
  | .bundleUnitStart dt _ => dt
  | .egressWrite dt _ _ => dt
  | .csiFrameStart dt _ _ _ => dt
  | .csiLongPacket dt _ _ _ _ _ => dt
  | .csiFrameEnd dt _ _ _ => dt
  | .cameraFrameTimeout dt _ => dt
  | .pipelineFrameStart dt => dt
  | .pipelineFrameDone dt => dt
  | .exposureCommit dt _ _ _ => dt
  | .cciTransactionDone dt _ _ => dt
  | .cciStretchTimeout dt _ => dt
  | .cciRequest dt _ _ _ => dt
  | .freeze dt _ _ _ => dt
  | .loopReport dt => dt
  | .loopUpdate dt _ => dt
  | .sweep dt _ _ => dt
  | .sweepSlot dt => dt
  | .dgatePulse dt _ => dt
  | .shotDecide dt _ => dt
  | .dgateStuck dt _ => dt
  | .lampRefresh dt _ => dt
  | .lampLatch dt _ _ => dt
  | .peerActiveChange dt _ => dt
  | .arbitrationTimeout dt => dt
  | .takeoverLaneSend dt _ => dt
  | .heartbeatSend dt _ => dt
  | .heartbeatLost dt => dt
  | .heartbeatReceived dt _ _ _ _ _ => dt
  | .mirrorReceived dt _ _ => dt
  | .segmentReceived dt _ _ => dt
  | .confirmReceived dt _ _ => dt
  | .mirrorTimeout dt => dt
  | .pairLinkDownTimeout dt => dt
  | .reportReceived dt _ => dt
  | .bayStateReceived dt _ _ => dt
  | .decisionReceived dt _ _ _ => dt
  | .alignReceived dt _ => dt
  | .alignSend dt => dt
  | .alignPoint dt => dt
  | .digestReceived dt _ _ _ => dt
  | .relinquishReceived dt _ _ => dt
  | .takeoverNoticeReceived dt _ => dt
  | .handoverReceived dt _ => dt
  | .yieldedReceived dt => dt
  | .resyncDataReceived dt _ => dt
  | .handover dt _ _ => dt
  | .handoverTakeoverSend dt _ => dt
  | .resync dt _ _ => dt
  | .declareDegraded dt _ _ => dt
  | .netLink dt _ _ => dt
  | .ethernetFrameFiltered dt _ _ _ => dt
  | .arpReceived dt _ _ => dt
  | .arpRetry dt _ _ => dt
  | .arpUnresolved dt _ _ => dt
  | .arpAgeExpiry dt _ _ => dt
  | .sharedIpArp dt => dt
  | .icmpEcho dt _ _ => dt
  | .challenge dt _ _ => dt
  | .openSession dt _ _ => dt
  | .request dt _ _ => dt
  | .closeRequest dt _ _ => dt
  | .identRead dt _ _ => dt
  | .sessionIdleTimeout dt _ => dt
  | .nonceExpiry dt _ => dt
  | .lockoutEnd dt _ => dt
  | .authCountExpiry dt _ => dt
  | .closeSession dt _ _ => dt
  | .keyWrite dt _ _ => dt
  | .mdioRequest dt _ _ _ _ => dt
  | .publicationSample dt _ => dt
  | .eventPushSend dt => dt
  | .frameLaunch dt _ _ => dt
  | .launchDropped dt _ _ => dt
  | .ptpSyncReceived dt _ => dt
  | .deferredStep dt => dt
  | .ptpDelayRespReceived dt _ => dt
  | .ptpDelayReqReceived dt _ => dt
  | .ptpAnnounceReceived dt _ => dt
  | .ptpSyncSend dt => dt
  | .ptpDelayReqSend dt => dt
  | .syncTimeout dt => dt
  | .setTime dt _ _ => dt
  | .timeSnapshot dt _ => dt
  | .provenanceExport dt _ => dt
  | .provenanceRewind dt _ _ => dt
  | .printRecordWrite dt _ _ => dt
  | .hostPortReset dt _ => dt
  | .hostLink dt _ _ => dt
  | .mbDoorbell dt _ => dt
  | .mbStatusRead dt => dt
  | .icClaim dt _ _ => dt
  | .icComplete dt _ _ => dt
  | .icPendClear dt _ _ => dt
  | .icVanishedRead dt _ => dt
  | .icFaultClear dt _ => dt
  | .icModeWrite dt _ => dt
  | .coalesceTimeout dt _ => dt
  | .crcData dt _ _ => dt
  | .crcInit dt _ _ => dt
  | .crcCfgWrite dt _ _ => dt
  | .crcStatRead dt _ => dt
  | .dramReadError dt _ _ _ _ _ => dt
  | .dramReread dt _ _ => dt
  | .dramAlert dt _ _ _ => dt
  | .migrationStart dt _ => dt
  | .rankMigrated dt _ => dt
  | .dramTempPoll dt _ _ => dt
  | .dramBandFall dt _ => dt
  | .dramRefresh dt _ => dt
  | .zqCalibration dt _ => dt
  | .dqsTracking dt _ => dt
  | .activationTableClear dt _ => dt
  | .hammerRefresh dt _ _ _ => dt
  | .patrolScrub dt _ _ => dt
  | .train dt _ _ => dt
  | .scrub dt _ _ => dt
  | .migrate dt _ _ => dt
  | .clearExclude dt _ _ => dt
  | .dieSensorSample dt _ => dt
  | .dieSensorSilent dt _ => dt
  | .sensorStale dt _ => dt
  | .calAnalogue dt _ _ => dt
  | .calPhoto dt _ _ => dt
  | .calPhotoTimeout dt => dt
  | .commit dt _ _ => dt
  | .commitClear dt _ _ => dt
  | .pfailAssert dt => dt
  | .pfailRelease dt => dt
  | .porst dt _ => dt
  | .resetPin dt => dt
  | .resetCmd dt _ _ => dt
  | .resetTakeEffect dt => dt
  | .watchdogExpiry dt => dt
  | .lockstepMismatch dt => dt
  | .fatalWarmReset dt => dt
  | .supplyFault dt _ _ => dt
  | .clockFault dt _ => dt
  | .recoveryImageReceived dt _ _ => dt
  | .bootComplete dt _ => dt
  | .modeRequestIdle dt _ _ => dt
  | .modeRequestService dt _ _ => dt
  | .modeRequestReady dt _ _ => dt
  | .modeRequestPrint dt _ _ => dt
  | .printGalleriesWrite dt _ _ => dt
  | .headPowerOff dt => dt
  | .safeRequest dt _ _ => dt
  | .safeClear dt _ _ => dt
  | .fwUpdate dt _ _ => dt
  | .fwConfirm dt _ _ => dt
  | .shutdown dt _ _ => dt
  | .selftest dt _ _ => dt
  | .selftestEnter dt => dt
  | .selftestPhaseEnd dt _ => dt
  | .extest dt => dt
  | .idcode dt => dt
  | .samplePreload dt _ => dt
  | .highz dt => dt
  | .clamp dt => dt
  | .extestPulse dt => dt
  | .extestTrain dt => dt
  | .bypass dt _ => dt
  | .tapReset dt _ => dt
  | .pcieCompletionUnsuccessful dt _ => dt
  | .configWrite dt _ _ _ => dt
  | .supplyRestored dt _ _ => dt
  | .clockRestored dt _ => dt
  | .prbsLock dt _ => dt
  | .pairLinkTimeSyncReceived dt _ _ _ => dt
  | .takeoverTickTimeout dt => dt
  | .ptpAnnounceSend dt => dt
  | .announceReceiptTimeout dt => dt
  | .hostHeartbeatTick dt => dt
  | .csiPacketDiscarded dt _ _ => dt
  | .malformedMessage dt _ _ => dt

end Sys2Proof
end

