-- ==== Sys2Proof/Certificates/Slice0/Obligations.lean ====
section
/-! DEFINITION. What is to be proved of the model.

A clause `Does c s u` says that command c, in state s, answers a next state, and which: u, with the block settled. u is
written as a change of the state that the passing of dt leaves, so everything that u does not name is as it was: a clause is
result and frame in one. What settling changes is said once, by SettleFrame and SettleQuiet. -/

open Sys2Proof Sys2Proof.Machine

/-! The block as a whole -/

/-- A step on a queue with a command at its front is that command's effect on the state with the queue's rest.

With no command waiting the block idles (the model's choice: log entry 1). -/
def Obligations.StepRunsFront : Prop :=
  (∀ (c : Instr) (rest : List Instr) (s : State), s.pending = c :: rest → step s = exec c { s with pending := rest }) ∧
  (∀ s : State, s.pending = [] → step s = .next s)

/-- No command faults and none is refused: every command, in every state, answers a next state, and it leaves the queue of the
commands that wait as it is. -/
def Obligations.EveryCommandCompletes : Prop :=
  ∀ (c : Instr) (s : State), Answers c s (fun t => t.pending = s.pending)

/-- Every step leaves the protective outputs and the mode in agreement with the SAFE latch: a set latch leaves no mode that
fires, and SAFE_N, LMP_BLANK_N and IRQ_N stand as the state says. -/
def Obligations.StepKeepsGuard : Prop :=
  ∀ s t : State, s.Guarded → step s = .next t → t.Guarded

/-- Every step keeps the canonical form of the Reserve's memory: addresses strictly rising, no byte listed at the value that
an unlisted one reads as. -/
def Obligations.StepKeepsMemory : Prop :=
  ∀ s t : State, Memory.wf s.res.mem = true → step s = .next t → Memory.wf t.res.mem = true

/-- The state after reset is safe: guarded, and its memory in canonical form.

What reset leaves (R422, R423): BOOT with no latch; SAFE_N asserted and LMP_BLANK_N low; every lane DISABLED and the pair
link not trained; ACTIVE_N and IRQ_N released; the Catalogue served on neither route; no transaction, operation or session. -/
def Obligations.ResetLeaves : Prop :=
  (State.reset.Safe) ∧
  (let s := State.reset
  s.pending = [] ∧ s.sys.mode = .boot ∧ s.sys.latch = false ∧ s.sys.safeN = true ∧ s.sys.lampBlank = true ∧
  (∀ l : Fin 32, (s.lane l.val).train.state = .disabled) ∧ s.linkState = 0 ∧ s.pair.activeN = false ∧ s.ic.irqN = false ∧
  s.served = false ∧ (∀ k : Fin 16, (s.slot k.val).state = .free) ∧ s.net.sessions = [] ∧ s.ic.bringup = true)

/-- What settling never changes: each of these parts of the state is, after it, as the command left it, unless too few lanes make the
unit give up control (R286); then settling is that, and settling what it leaves. -/
def Obligations.SettleFrame : Prop :=
  ∀ s : State, let t := settle s
  (s.tooFewLanes = true → t = settle (giveUp 7 s)) ∧ (s.tooFewLanes = false →
  t.pending = s.pending ∧ t.free = s.free ∧ t.clk = s.clk ∧ t.crc = s.crc ∧ t.res = s.res ∧ t.dram = s.dram ∧
  t.therm = s.therm ∧ t.cal = s.cal ∧ t.arc = s.arc ∧ t.encs = s.encs ∧ t.cmps = s.cmps ∧ t.pulses = s.pulses ∧
  t.emus = s.emus ∧ t.gates = s.gates ∧ t.pred = s.pred ∧ t.ctxs = s.ctxs ∧ t.ports = s.ports ∧ t.pipe = s.pipe ∧
  t.reports = s.reports ∧ t.lastContext = s.lastContext ∧ t.sweeps = s.sweeps ∧ t.dgateAt = s.dgateAt ∧ t.lamps = s.lamps ∧
  t.chains = s.chains ∧ t.test = s.test ∧ t.tap = s.tap ∧ t.porstLow = s.porstLow ∧
  t.sys.latch = s.sys.latch ∧ t.sys.causes = s.sys.causes ∧ t.pair.role = s.pair.role)

/-- Where nothing follows by itself, settling drives the pins and lets the interrupt controller signal, and changes nothing
else. -/
def Obligations.SettleQuiet : Prop :=
  ∀ s : State, s.Quiet → settle s = settleIrq (drivePins s)

/-! The Catalogue -/

/-- READ of a plain entry answers with success and the entry's value, and changes nothing (R41, R44, R47). A lane's REG_DATA
waits for its module, and the entries whose value the manual leaves open draw a free value: both are left to other clauses. -/
def Obligations.ReadAnswers : Prop :=
  ∀ (dt : Nat) (r : Route) (i : BitVec 16) (sub : Byte) (bs : Bytes) (row : Row) (s : State),
    Reaches r 1 i.toNat sub.toNat bs row dt s → row.acc ≠ .wo → row.ty.isDomain = false →
    (among i.toNat 0x5800 32 && sub.toNat == 5) = false → readsFree i.toNat sub.toNat = false →
    let u := s.arrived r dt
    Does (.read dt r i sub bs) s (emit (.response (routeNo r) 1 i.toNat sub.toNat 0 (u.readBytes i.toNat row)) u)

/-- READ of an entry that may not be read is refused with 0xAB01_0004, and a plain READ or WRITE of a DOMAIN entry with
0xAB01_0006; a WRITE of a read-only entry with 0xAB01_0003. No entry changes (R44, R47).

A service on an index that does not exist is refused with 0xAB01_0001, on a subindex that does not exist with 0xAB01_0002,
whatever the service; no entry changes (R28, R29, R47). -/
def Obligations.Refusals : Prop :=
  (∀ (dt : Nat) (r : Route) (i : BitVec 16) (sub : Byte) (bs : Bytes) (row : Row) (s : State),
    let u := s.arrived r dt
    (Reaches r 1 i.toNat sub.toNat bs row dt s → row.acc = .wo →
      Does (.read dt r i sub bs) s (emit (.response (routeNo r) 1 i.toNat sub.toNat 0xAB010004 []) u)) ∧
    (Reaches r 1 i.toNat sub.toNat bs row dt s → row.acc ≠ .wo → row.ty.isDomain = true →
      Does (.read dt r i sub bs) s (emit (.response (routeNo r) 1 i.toNat sub.toNat 0xAB010006 []) u)) ∧
    (Reaches r 2 i.toNat sub.toNat bs row dt s → row.acc = .ro →
      Does (.write dt r i sub bs) s (emit (.response (routeNo r) 2 i.toNat sub.toNat 0xAB010003 []) u)) ∧
    (Reaches r 2 i.toNat sub.toNat bs row dt s → row.acc ≠ .ro → row.ty.isDomain = true →
      Does (.write dt r i sub bs) s (emit (.response (routeNo r) 2 i.toNat sub.toNat 0xAB010006 []) u))) ∧
  (∀ (dt : Nat) (r : Route) (i : BitVec 16) (sub : Byte) (bs : Bytes) (s : State),
    (advance dt s).routeOpen r = true → s.cat.waiting = [] → s.cat.mirror = none → s.cat.reg = none → isVendor i.toNat = false →
    let u := s.arrived r dt
    (findGroup i.toNat groups = none →
      Does (.read dt r i sub bs) s (emit (.response (routeNo r) 1 i.toNat sub.toNat 0xAB010001 []) u) ∧
      Does (.write dt r i sub bs) s (emit (.response (routeNo r) 2 i.toNat sub.toNat 0xAB010001 []) u)) ∧
    (∀ g, findGroup i.toNat groups = some g → findRow sub.toNat g.1.rows = none →
      Does (.read dt r i sub bs) s (emit (.response (routeNo r) 1 i.toNat sub.toNat 0xAB010002 []) u) ∧
      Does (.write dt r i sub bs) s (emit (.response (routeNo r) 2 i.toNat sub.toNat 0xAB010002 []) u)))

/-- An accepted WRITE of a plain entry that starts no long operation stores the value, has the action its chapter gives it, and
is answered with success and no data (R36, R43). -/
def Obligations.WriteApplies : Prop :=
  ∀ (dt : Nat) (r : Route) (i : BitVec 16) (sub : Byte) (bs : Bytes) (row : Row) (s : State),
    Accepts r i.toNat sub.toNat bs row dt s → row.ty.isDomain = false → row.sub = sub.toNat →
    opRes i.toNat sub.toNat (ofLe bs) = none → i.toNat ≠ 0x6100 → (among i.toNat 0x5800 32 && sub.toNat == 5) = false →
    let u := s.arrived r dt
    Does (.write dt r i sub bs) s
      (answered r i.toNat sub.toNat [] (actEntry i.toNat sub.toNat (u.val i.toNat sub.toNat) bs true (s.stored r i.toNat bs row dt)))

/-- An accepted WRITE of a read-write entry leaves the entry at the value written, reserved bits at 0 (R7, R36): it is stored
before the entry's action. -/
def Obligations.StoredValueReads : Prop :=
  ∀ (dt : Nat) (r : Route) (idx sub : Nat) (bs : Bytes) (row : Row) (s : State),
    row.acc ≠ .wo → row.sub = sub →
    let u := s.stored r idx bs row dt
    u.val idx sub = keptBits idx sub (ofLe bs) ∧
    ∀ j t, t < 256 → sub < 256 → (j ≠ idx ∨ t ≠ sub) → u.val j t = (s.arrived r dt).val j t

/-- The block transfer services in their order (R44, R45). A start of a write opens a transfer and a start of a read one that
holds the value as it stands; a segment of the next bytes is kept; a read segment returns the bytes asked for; BLOCK_CANCEL and
1 s without a service end the transfer.

The segment that completes a block write: with the right CRC-32C and content the value replaces the entry's whole and its
action follows; with a wrong CRC-32C it is refused with 0xAB01_000C and the entry keeps its value; in both cases the transfer
ends (R44). -/
def Obligations.BlockTransfers : Prop :=
  (∀ (dt : Nat) (r : Route) (i : BitVec 16) (sub : Byte) (bs : Bytes) (row : Row) (x : Xfer) (s : State),
    let u := s.arrived r dt
    let k := routeNo r
    let resp := fun (service : Nat) (data : Bytes) => emit (.response k service i.toNat sub.toNat 0 data)
    (Reaches r 3 i.toNat sub.toNat bs row dt s → row.acc ≠ .wo → row.ty.isDomain = true → u.xfer k = none →
      let v := u.readDomain i.toNat sub.toNat
      v ≠ [] →
      Does (.blockReadStart dt r i sub bs) s (resp 3 (le 4 v.length ++ le 4 (crc32c v))
        { u with cat := { u.cat with xfers := tset u.cat.xfers k ⟨false, i.toNat, sub.toNat, v.length, crc32c v, v, u.clk.core⟩ } })) ∧
    (Reaches r 4 i.toNat sub.toNat bs row dt s → row.acc ≠ .ro → row.ty.isDomain = true → bs.length = 8 →
      lengthAllowed row (leAt bs 0 4) = true → (row.modes = 0 ∨ bitOf row.modes u.sys.mode.code = true) →
      u.resBusy (resOfEntry i.toNat sub.toNat) = false → u.xfer k = none → u.entryBusy i.toNat sub.toNat = false →
      (u.inControl = true ∨ activeOnly i.toNat row = false) → leAt bs 0 4 ≠ 0 →
      Does (.blockWriteStart dt r i sub bs) s (resp 4 []
        { u with cat := { u.cat with
            xfers := tset u.cat.xfers k ⟨true, i.toNat, sub.toNat, leAt bs 0 4, leAt bs 4 4, [], u.clk.core⟩ } })) ∧
    (Reaches r 5 i.toNat sub.toNat bs row dt s → row.acc ≠ .ro → 5 ≤ bs.length → u.xfer k = some x → x.write = true →
      x.index = i.toNat → x.sub = sub.toNat → leAt bs 0 4 = x.data.length → x.data.length + (bs.length - 4) < x.total →
      Does (.blockWriteSegment dt r i sub bs) s (resp 5 []
        { u with cat := { u.cat with
            xfers := tset u.cat.xfers k { x with data := x.data ++ bs.drop 4, lastAt := u.clk.core } } })) ∧
    (Reaches r 6 i.toNat sub.toNat bs row dt s → row.acc ≠ .wo → bs.length = 6 →
      0 < leAt bs 4 2 → leAt bs 4 2 ≤ segmentLimit k → u.xfer k = some x → x.write = false → x.index = i.toNat →
      x.sub = sub.toNat → leAt bs 0 4 + leAt bs 4 2 < x.total →
      Does (.blockReadSegment dt r i sub bs) s (resp 6 (sliceB x.data (leAt bs 0 4) (leAt bs 4 2))
        { u with cat := { u.cat with xfers := tset u.cat.xfers k { x with lastAt := u.clk.core } } })) ∧
    (Reaches r 7 i.toNat sub.toNat bs row dt s →
      Does (.blockCancel dt r i sub bs) s (resp 7 [] { u with cat := { u.cat with xfers := terase u.cat.xfers k } })) ∧
    ((advance dt s).xfer k = some x → x.lastAt + sCk 1 ≤ (advance dt s).clk.core →
      Does (.blockTransferTimeout dt r) s
        { advance dt s with cat := { (advance dt s).cat with xfers := terase (advance dt s).cat.xfers k } })) ∧
  (∀ (dt : Nat) (r : Route) (i : BitVec 16) (sub : Byte) (bs : Bytes) (row : Row) (x : Xfer) (s : State),
    let u := s.arrived r dt
    let k := routeNo r
    Reaches r 5 i.toNat sub.toNat bs row dt s → row.acc ≠ .ro → row.ty.isDomain = true → row.sub = sub.toNat → 5 ≤ bs.length →
    u.xfer k = some x → x.write = true → x.index = i.toNat → x.sub = sub.toNat → leAt bs 0 4 = x.data.length →
    x.data.length + (bs.length - 4) = x.total →
    let v := x.data ++ bs.drop 4
    let w := { u with cat := { u.cat with xfers := terase u.cat.xfers k } }
    (crc32c v ≠ x.crc →
      Does (.blockWriteSegment dt r i sub bs) s (emit (.response k 5 i.toNat sub.toNat 0xAB01000C []) w)) ∧
    (crc32c v = x.crc → w.contentCode i.toNat row v = 0 → (row.mirrored = false ∨ w.mirrors = false) →
      Does (.blockWriteSegment dt r i sub bs) s
        (emit (.response k 5 i.toNat sub.toNat 0 []) (actEntry i.toNat sub.toNat 0 v true (storeDomain i.toNat row v w)))))

/-! Long operations -/

/-- The slot of a started operation (R49, R50): the kind, a handle of the next sequence number and the slot, the resources; QUEUED
where another active operation holds one of them and RUNNING else, with no progress; and the sequence moves on, never to 0. No
other slot changes. -/
def Obligations.StartTakesSlot : Prop :=
  ∀ (k idx sub res : Nat) (bs : Bytes) (s : State),
    let t := startOp k idx sub res bs s
    (t.slot k).kindIndex = idx ∧ (t.slot k).kindSub = sub ∧ (t.slot k).resources = res ∧
    (t.slot k).handle = s.cat.nextSeq * 256 + k ∧ (t.slot k).progress = 0 ∧ (t.slot k).result = 0 ∧
    (t.slot k).state = (if s.claimed res (some k) then .queued else .running) ∧
    t.cat.nextSeq = (if s.cat.nextSeq = 0xFFFFFF then 1 else s.cat.nextSeq + 1) ∧
    (∀ j, j ≠ k → t.slot j = s.slot j)

/-- Every operation that ends raises LONGOP_ENDED, with its handle and RESULT (R51): its slot takes the finished state, and the
newest record of ring 0 is that event's. -/
def Obligations.EndRaisesEvent : Prop :=
  ∀ (k : Nat) (st : LState) (result : Nat) (s : State), s.ringCap 0 ≠ 0 →
    let t := endOp k st result s
    (t.slot k).state = st ∧ (t.slot k).result = result ∧ (t.slot k).handle = (s.slot k).handle ∧
    (∀ j, j ≠ k → t.slot j = s.slot j) ∧
    ∃ r : Rec, (∃ n, (n, Slot.head r) ∈ (tget {} t.prov.rings 0 : ProvRing).slots) ∧
      r.code = 0x0101 ∧ r.argument = le 4 (s.slot k).handle ++ le 4 result

/-- Starting an operation of a kind whose start only takes its slot: FW_UPDATE, COMMIT and its clearing form, the two
calibrations, PURGE, BUNDLE, the drop-gate SWEEP, TRAIN, SCRUB and ENQUEUE. The answer carries the handle (R43); the slot claims
the kind's resources (R49).

Starting an operation of a kind whose start does more than take its slot: SHUTDOWN notes itself, HANDOVER names its master
line to the peer, RESYNC begins an image anew, COMMIT_DIRECT closes its segment, MIGRATE retires its rank, LOAD sets the spare
LOADING, WAVE_LOAD queues its first frame, RETRAIN brings its lane to DETECT, CCI_REQUEST waits for its bus. -/
def Obligations.OperationsRun : Prop :=
  (∀ (dt : Nat) (r : Route) (bs : Bytes) (q : Fin 64) (row : Row) (k : Nat) (s : State),
    (s.arrived r dt).freeSlot = some k →
    let starts := fun (c : Instr) (idx sub res : Nat) =>
      Accepts r idx sub bs row dt s →
      Does c s (answered r idx sub (le 4 (s.cat.nextSeq * 256 + k)) (s.started r k idx sub res bs row dt))
    starts (.fwUpdate dt r bs) 0x1120 0x02 (2 ^ 19) ∧
    starts (.commit dt r bs) 0x1700 0x01 1 ∧
    starts (.commitClear dt r bs) 0x1700 0x01 1 ∧
    starts (.calAnalogue dt r bs) 0x1840 0x02 (2 ^ 17) ∧
    starts (.calPhoto dt r bs) 0x1850 0x05 (2 ^ 17) ∧
    starts (.purge dt r bs) 0x6000 0x08 (2 ^ 3) ∧
    starts (.bundle dt r bs) 0x6800 0x04 0 ∧
    starts (.sweep dt r bs) 0x7C00 0x01 0x1FF00 ∧
    starts (.train dt r bs) 0x9000 0x09 6 ∧
    starts (.scrub dt r bs) 0x9000 0x0A (2 * ofLe bs) ∧
    starts (.enqueue dt r q bs) (0x6210 + q.val) 0x08 0) ∧
  (∀ (dt : Nat) (r : Route) (bs : Bytes) (g : Fin 8) (l : Fin 32) (b : Fin 512) (p : Fin 4) (row : Row) (k : Nat) (s : State),
    (s.arrived r dt).freeSlot = some k →
    let starts := fun (c : Instr) (idx sub res : Nat) (begins : State → State) =>
      Accepts r idx sub bs row dt s →
      Does c s (answered r idx sub (le 4 (s.cat.nextSeq * 256 + k)) (begins (s.started r k idx sub res bs row dt)))
    starts (.shutdown dt r bs) 0x1100 0x0D 1 (fun u => { u with sys := { u.sys with shutdown := true } }) ∧
    starts (.handover dt r bs) 0x1200 0x0A (2 ^ 18) (beginHandover k) ∧
    starts (.resync dt r bs) 0x1200 0x0B (2 ^ 3 + 2 ^ 18)
      (fun u => { u with pair := { u.pair with imageDone := false, aligned := false, mirrorNext := none, confirmed := 0xFFFFFFFF } }) ∧
    starts (.commitDirect dt r bs) 0x6000 0x0B 0 (beginDirect (ofLe bs)) ∧
    starts (.migrate dt r bs) 0x9000 0x0B (2 ^ (1 + ofLe bs / 4)) (beginMigrate (ofLe bs) k) ∧
    starts (.load dt r g bs) (0x3021 + 0x100 * g.val) 0x01 (2 ^ (8 + g.val)) (setSpare g.val .loading) ∧
    starts (.waveLoad dt r b bs) (0x4000 + b.val) 0x1C 0 (sendWave k 0) ∧
    starts (.retrain dt r l bs) (0x5000 + l.val) 0x0A 0 (retrain l.val k) ∧
    starts (.cciRequest dt r p bs) (0x7110 + p.val) 0x05 0 (requestCci p.val k bs))

/-- ABORT of a running operation moves it to ABORTING with the code it will end with, and of a queued one ends it ABORTED at
once; of a finished one it has no effect; RELEASE frees the slot of a finished operation (R50).

A slice of an operation that is aborting ends it ABORTED with its code, what it worked on left as its chapter says. A slice of
one that is running, and whose progress alone tells its end (SHUTDOWN, FW_UPDATE, COMMIT, PURGE, COMMIT_DIRECT, TRAIN, SCRUB, LOAD
and ENQUEUE), raises its progress, which never falls, or at 10,000 is its last one; a Reserve scrub does nothing while f_die is 0 (R392). A queued operation that no active one and no
older queued one bars from its resources runs (R48-R50). -/
def Obligations.SlotCommands : Prop :=
  (∀ (dt : Nat) (r : Route) (k : Fin 16) (bs : Bytes) (row : Row) (s : State),
    let u := s.stored r (0x1310 + k.val) bs row dt
    let x := u.slot k.val
    let code := abortByCommand x.kindIndex x.kindSub
    (Accepts r (0x1310 + k.val) 0x0A bs row dt s → x.state = .running →
      Does (.abort dt r k bs) s (answered r (0x1310 + k.val) 0x0A []
        (setSlot k.val { x with state := .aborting, abortCode := code } u))) ∧
    (Accepts r (0x1310 + k.val) 0x0A bs row dt s → x.state = .queued →
      Does (.abort dt r k bs) s (answered r (0x1310 + k.val) 0x0A [] (endAborted k.val (setSlot k.val { x with abortCode := code } u)))) ∧
    (Accepts r (0x1310 + k.val) 0x0A bs row dt s → x.finished = true →
      Does (.abort dt r k bs) s (answered r (0x1310 + k.val) 0x0A [] u)) ∧
    (Accepts r (0x1310 + k.val) 0x0B bs row dt s →
      Does (.release dt r k bs) s (answered r (0x1310 + k.val) 0x0B [] (setSlot k.val {} u)))) ∧
  (∀ (dt p : Nat) (k : Fin 16) (obs : SliceObs) (s : State),
    let u := advance dt s
    let x := u.slot k.val
    let timed := (x.kindIndex, x.kindSub) ∈ [(0x1100, 0x0D), (0x1120, 0x02), (0x1700, 0x01), (0x6000, 0x08), (0x6000, 0x0B),
        (0x9000, 0x09), (0x9000, 0x0A)] ∨
      (∃ g, g < 8 ∧ x.kindIndex = 0x3021 + 0x100 * g) ∨ (∃ q, q < 64 ∧ x.kindIndex = 0x6210 + q)
    (x.state = .aborting → Does (.longopSlice dt k p obs) s (endOp k.val .aborted (x.abortCode) (cleanOp k.val u))) ∧
    let goes := x.kindIndex = 0x9000 → x.kindSub = 0x0A → u.therm.fDie ≠ 0
    (x.state = .running → x.sliced = true → timed → goes → p < 10000 →
      Does (.longopSlice dt k p obs) s (setSlot k.val { x with progress := max x.progress p } u)) ∧
    (x.state = .running → x.sliced = true → timed → goes → 10000 ≤ p → Does (.longopSlice dt k p obs) s (lastSlice k.val obs u)) ∧
    (x.state = .running → x.sliced = true → (x.kindIndex, x.kindSub) = (0x9000, 0x0A) → u.therm.fDie ≠ 0 → 10000 ≤ p →
      Does (.longopSlice dt k p obs) s (endOp k.val .done 0 u)) ∧
    (x.state = .running → x.sliced = true → (x.kindIndex, x.kindSub) = (0x9000, 0x0A) → u.therm.fDie = 0 →
      Does (.longopSlice dt k p obs) s u) ∧
    (x.state = .queued →
      (∀ j, j < 16 → j ≠ k.val → (u.slot j).resources &&& x.resources ≠ 0 →
        (u.slot j).state ≠ .running ∧ (u.slot j).state ≠ .aborting ∧
        ((u.slot j).state = .queued → x.endedAt < (u.slot j).endedAt)) →
      Does (.longopDequeue dt k) s (setSlot k.val { x with state := .running } u)))

/-! Commands that are accepted writes of one entry -/

/-- Mode and protection (R427-R433, R437, R413, R442): a MODE_REQUEST of another mode moves to it, PRINT with the galleries that
PRINT_GALLERIES names; PRINT_GALLERIES in PRINT changes which galleries print, with MODE_CHANGED; SAFE_REQUEST sets the latch
with the host's cause; SAFE_CLEAR clears it and raises SAFE_CLEARED; RESET takes effect 1 ms later; SELFTEST is due 1 ms later;
FW_CONFIRM clears TRIAL and ATTEMPTS and confirms the running version. -/
def Obligations.ModeAndSafeCommands : Prop :=
  ∀ (dt : Nat) (r : Route) (bs : Bytes) (row : Row) (s : State),
    let u := fun (idx : Nat) => s.stored r idx bs row dt
    let does := fun (c : Instr) (idx sub : Nat) (t : State) => Accepts r idx sub bs row dt s → Does c s (answered r idx sub [] t)
    (ofLe bs = 1 → (u 0x1100).sys.mode ≠ .idle →
      does (.modeRequestIdle dt r bs) 0x1100 0x02 (changeMode .idle 0 0 (u 0x1100))) ∧
    (ofLe bs = 2 → (u 0x1100).sys.mode ≠ .service →
      does (.modeRequestService dt r bs) 0x1100 0x02 (changeMode .service 0 0 (u 0x1100))) ∧
    (ofLe bs = 3 → (u 0x1100).sys.mode ≠ .ready →
      does (.modeRequestReady dt r bs) 0x1100 0x02 (changeMode .ready 0 0 (u 0x1100))) ∧
    (ofLe bs = 4 → (u 0x1100).sys.mode ≠ .print →
      does (.modeRequestPrint dt r bs) 0x1100 0x02 (changeMode .print ((u 0x1100).val 0x1100 4) 0 (u 0x1100))) ∧
    ((u 0x1100).sys.mode = .print → ofLe bs ≠ (u 0x1100).sys.printing →
      does (.printGalleriesWrite dt r bs) 0x1100 0x04
        (speedWarn (raiseMode .print 0 { u 0x1100 with sys := { (u 0x1100).sys with printing := ofLe bs } }))) ∧
    (s.sys.mode ≠ .boot → s.sys.mode ≠ .test → s.pair.role ≠ .standby → bitOf s.sys.causes 0 = false → s.sys.latch = false →
      let v := { u 0x1100 with sys := { (u 0x1100).sys with
        latch := true, causes := setBit s.sys.causes 0 true, safeTime := (advance dt s).now } }
      does (.safeRequest dt r bs) 0x1100 0x0A
        (raise 0x0202 0 (le 4 1 ++ le 4 (setBit s.sys.causes 0 true)) (stopFiring (advance dt s).now v))) ∧
    (s.sys.latch = true →
      does (.safeClear dt r bs) 0x1100 0x09
        (raise 0x0203 0 (zeros 4 ++ le 4 s.sys.causes) { u 0x1100 with sys := { (u 0x1100).sys with latch := false, causes := 0 } })) ∧
    does (.resetCmd dt r bs) 0x1100 0x0B
      { u 0x1100 with sys := { (u 0x1100).sys with resetAt := some ((advance dt s).clk.core + msCk 1) } } ∧
    does (.selftest dt r bs) 0x1800 0x01
      (let run : TestRun := { mask := ofLe bs, entered := false, due := (advance dt s).clk.core + msCk 1, started := 0, phase := 0, done := 0 }
       { u 0x1800 with test := { (u 0x1800).test with run := some run } }) ∧
    does (.fwConfirm dt r bs) 0x1120 0x03
      (writeBoot { s.sys.bootControl with trial := false, attempts := 0, confirmed := s.sys.runVersion } (u 0x1120))

/-- Plans, captions and nozzle tables (R126, R129, R121, R139, R140, R156): ARM arms the plan and raises PLAN_ARMED, DISARM takes
it away; RESTART empties its queue; EDIT writes the spare, SWAP_LINE arms a swap for its owner and SWAP_CANCEL takes it back;
THRESHOLD_LOAD takes its segment as the gallery's array.

The remaining commands that are writes of one entry (R71, R173, R96, R232, R242, R294, R309, R313, R323, R383): each leaves the
value in its entry, then acts. -/
def Obligations.EntryCommands : Prop :=
  (∀ (dt : Nat) (r : Route) (bs : Bytes) (q : Fin 64) (g : Fin 8) (row : Row) (s : State),
    let tab := 0x3021 + 0x100 * g.val
    let does := fun (c : Instr) (idx sub : Nat) (t : State) => Accepts r idx sub bs row dt s → Does c s (answered r idx sub [] t)
    (let u := storeValue 0x6100 row bs (noteBudget bs (s.arrived r dt))
     let p := u.armPlan bs
     does (.arm dt r bs) 0x6100 0x01 (raise 0x0501 0 (le 4 p.id ++ le 4 p.switch)
       { u with plans := { u.plans with armed := some p, switched := 0, completeTick := u.completeTickOf p.switch } })) ∧
    (let u := s.stored r 0x6100 bs row dt
     does (.disarm dt r bs) 0x6100 0x02 { u with plans := { u.plans with armed := none, switched := 0 } }) ∧
    does (.restart dt r q bs) (0x6210 + q.val) 0x09 (emptyQueue q.val (ofLe bs) (s.stored r (0x6210 + q.val) bs row dt)) ∧
    (let u := s.stored r tab bs row dt
     let x := u.gal g.val
     does (.edit dt r g bs) tab 0x03
       (setGal g.val { x with noz := { x.noz with spare := x.noz.spare.put (leAt bs 0 4) (leAt bs 4 8) } } u) ∧
     does (.swapLine dt r g bs) tab 0x04
       (setGal g.val { x with noz := { x.noz with swap := some ⟨ofLe bs, 0, false⟩, spareState := .armed } } u) ∧
     does (.swapCancel dt r g bs) tab 0x05
       (setGal g.val { x with noz := { x.noz with swap := none, spareState := .ready } } u)) ∧
    (let u := s.stored r (0x3020 + 0x100 * g.val) bs row dt
     ∀ x, u.committed (ofLe bs) 6 = some x →
       does (.thresholdLoad dt r g bs) (0x3020 + 0x100 * g.val) 0x07
         (setGal g.val { u.gal g.val with noz := { (u.gal g.val).noz with
           thresholds := (u.segBytes x).drop 16, thresholdId := ofLe bs, thresholdBits := byteAt (u.segBytes x) 5
           arrayBad := false } } u))) ∧
  (∀ (dt : Nat) (r : Route) (bs : Bytes) (c : Fin 16) (row : Row) (s : State),
    let u := fun (idx : Nat) => s.stored r idx bs row dt
    let does := fun (c : Instr) (idx sub : Nat) (t : State) => Accepts r idx sub bs row dt s → Does c s (answered r idx sub [] t)
    does (.origin dt r bs) 0x2100 0x0C
      (let v := Sys2Proof.Machine.origin (ofLe bs) (u 0x2100)
       { v with pair := { v.pair with alignAt := none } }) ∧
    does (.faultClear dt r bs) 0x2210 0x02 (faultClear (ofLe bs) (u 0x2210)) ∧
    (let v := u 0x6000
     let o := (v.allocCode bs (32 + leAt bs 16 4)).2
     does (.openDirect dt r bs) 0x6000 0x09 (noteReserve (draw { v with res := { v.res with
       segs := v.res.segs ++ [⟨leAt bs 8 4, byteAt bs 5, leAt bs 12 4, leAt bs 20 4, o, .opened, true, none, none⟩]
       directOffset := o } }))) ∧
    does (.exposureCommit dt r c bs) (0x7000 + c.val) 0x14 (commitExposure c.val (u (0x7000 + c.val))) ∧
    (ofLe bs = 1 →
      does (.freeze dt r c bs) (0x7000 + c.val) 0x1B
        (setCtx c.val { (u (0x7000 + c.val)).ctx c.val with freeze := true } (u (0x7000 + c.val)))) ∧
    does (.declareDegraded dt r bs) 0x1200 0x0C (declareDegraded (u 0x1200)) ∧
    does (.closeSession dt r bs) 0x1400 0x08 (closeWhere (fun x => ofLe bs == 0xFFFFFFFF || x.id == ofLe bs) 4 (u 0x1400)) ∧
    does (.keyWrite dt r bs) 0x1400 0x01 (keyWrite bs (u 0x1400)) ∧
    (ofLe bs ≠ 0 →
      does (.setTime dt r bs) 0x1B00 0x06 (stepTime (((ofTime96 (ofLe bs) : Int) - (advance dt s).now) * 4294967296) (u 0x1B00))) ∧
    does (.clearExclude dt r bs) 0x9000 0x08 (writeExclude (s.dram.exclude - (s.dram.exclude &&& ofLe bs)) (u 0x9000)))

/-- REG_DATA goes to its module and waits for the answer (R36, R215): a READ as CTRL_READ of 4 bytes at REG_ADDRESS, a WRITE as
CTRL_WRITE of its value. MDIO_REQUEST puts its frame on the bus; a read leaves what the PHY answered in MDIO_DATA (R298). -/
def Obligations.RelayedCommands : Prop :=
  ∀ (dt : Nat) (r : Route) (bs : Bytes) (l : Fin 32) (p : Fin 2) (phy : BitVec 16) (row : Row) (s : State),
    let u := s.arrived r dt
    let reg := 0x5800 + l.val
    let mdio := 0x1A00 + 0x10 * p.val
    (Reaches r 1 reg 5 bs row dt s → row.acc ≠ .wo → row.ty.isDomain = false → u.running l.val = true →
      Does (.regDataRead dt r l bs) s (ctrlRead l.val (u.val reg 4) 4 .regRead
        { u with cat := { u.cat with reg := some ⟨⟨.direct (routeNo r), 1, reg, 5, bs⟩, l.val, none⟩ } })) ∧
    (Accepts r reg 5 bs row dt s →
      Does (.regDataWrite dt r l bs) s (ctrlWrite l.val (u.val reg 4) bs .regWrite
        { u with cat := { u.cat with reg := some ⟨⟨.direct (routeNo r), 2, reg, 5, bs⟩, l.val, none⟩ } })) ∧
    (Accepts r mdio 7 bs row dt s →
      let v := s.stored r mdio bs row dt
      let sent := emit (.mdio p.val (byteAt bs 0 == 2) (v.netCfg p.val 6) (byteAt bs 1) (leAt bs 2 2)) v
      (byteAt bs 0 = 2 → Does (.mdioRequest dt r p bs phy) s (answered r mdio 7 [] sent)) ∧
      (byteAt bs 0 ≠ 2 → ((Does (.mdioRequest dt r p bs phy) s (setVal mdio 8 phy.toNat
        (answered r mdio 7 [] (draw (setVal mdio 8 ((Config.freeValue v.free).toNat % 65536) sent))))))))

/-! Web motion -/

/-- An accepted edge of an encoder channel (R56, R60, R61): a channel that does not count takes the levels only; no change of
levels changes nothing; a change of both is impossible, counts as such and leaves the position; a step in quadrature counts one,
in the direction DIRECTION gives it. A count of channel 1 ends at its index check; one of channel 0 goes on to the line clock, the
emulated encoders and the compare units, in that order (R54, R85).

A qualified Z edge latches INDEX_POSITION, and is the reference where none stands; without Z_PERIOD nothing is checked. One
that lies within Z_TOL of an expected index stands for it, one that does not is misplaced and becomes the reference (R57).

The line clock's own events (R58, R62, R67, R68): a cross-check window that ends within XCHECK_TOL leaves the deviation and
begins anew; T_STILL without an edge makes the channel still and raises WEB_STILL with state 1; a synthesised tick comes at its
due time.

A master tick moves the tick number on by one, modulo 2^32, and the next boundary by COUNTS_PER_LINE (R66, R67). -/
def Obligations.EncoderEvents : Prop :=
  (∀ (dt : Nat) (c : Fin 2) (a b : Bool) (s : State),
    let u := advance dt s
    let x := u.enc c.val
    let raw := u.rawTime (u.encCfg c.val 2)
    let step := (quadPhase a b + 4 - quadPhase x.a x.b) % 4
    let d : Int := if (step = 1) = (u.encCfg c.val 3 = 1) then -1 else 1
    let pos := wrap48 (x.pos + d)
    let y := { x with
      a := a, b := b, pos := pos, dir := d, still := false, edgeAt := raw
      run := if x.still || x.dir != d then [raw] else runAfter raw x.run
      history := if c.val = 0 then ((raw, pos) :: x.history).take 64 else x.history }
    let counted := checkPassed c.val d raw
      (if x.still then raiseAt (u.timeAt raw) 0x0307 0x10 [BitVec.ofNat 8 c.val, 0] (setEnc c.val y u) else setEnc c.val y u)
    (u.counts c.val = false → Does (.encoderEdge dt c a b) s (setEnc c.val { x with a := a, b := b } u)) ∧
    (u.counts c.val = true → step = 0 → Does (.encoderEdge dt c a b) s u) ∧
    (u.counts c.val = true → step = 2 →
      Does (.encoderEdge dt c a b) s (raiseLimitedAt (u.timeAt raw) (sCk 1) 0x0301 c.val 0x10 (argB4 c.val (wrapAdd 32 x.illegal 1))
        (setEnc c.val { x with a := a, b := b, illegal := wrapAdd 32 x.illegal 1 } u))) ∧
    (u.counts c.val = true → step = 1 ∨ step = 3 →
      (c.val = 1 → Does (.encoderEdge dt c a b) s counted) ∧
      (c.val = 0 → Does (.encoderEdge dt c a b) s
        (compareAll x.pos pos (u.timeAt raw) (emuCount d (clockEdge d raw x.edgeAt counted)))))) ∧
  (∀ (dt : Nat) (c : Fin 2) (s : State),
    let u := advance dt s
    let x := u.enc c.val
    u.counts c.val = true → u.encCfg c.val 6 = 0 ∨ (x.a = true ∧ x.b = true) →
    (u.encCfg c.val 4 = 0 → Does (.encoderIndexEdge dt c) s (setEnc c.val { x with indexPos := x.pos } u)) ∧
    (u.encCfg c.val 4 ≠ 0 → x.indexRef = none →
      Does (.encoderIndexEdge dt c) s
        (setEnc c.val { x with indexPos := x.pos, zTol := u.encCfg c.val 5, indexRef := some x.pos, open_ := [] } u)) ∧
    (let y := { x with
       indexPos := x.pos, zTol := u.encCfg c.val 5
       open_ := x.open_.filter (fun e => decide (u.encCfg c.val 5 < (posDiff x.pos e.1).natAbs)) }
     ∀ r, u.encCfg c.val 4 ≠ 0 → x.indexRef = some r →
      let q := posDiff x.pos r % (u.encCfg c.val 4 : Int)
      let near := q ≤ u.encCfg c.val 5 ∨ (u.encCfg c.val 4 : Int) - u.encCfg c.val 5 ≤ q
      (near → Does (.encoderIndexEdge dt c) s (setEnc c.val y u)) ∧
      (¬near → Does (.encoderIndexEdge dt c) s (indexError c.val 0 (u.rawTime (u.encCfg c.val 2)) (setEnc c.val y u))))) ∧
  (∀ (dt : Nat) (c : Fin 2) (s : State),
    let u := advance dt s
    let x := u.enc c.val
    (∀ p0 p1, u.lc.xStart = some (p0, p1) → u.val 0x2100 8 ≠ 0 →
      let d0 := posDiff (u.enc 0).pos p0
      let d1 := posDiff (u.enc 1).pos p1
      (u.val 0x2100 8 : Int) ≤ d0 → deviates (u.val 0x2100 7) (u.val 0x2100 9) d0 d1 = false →
      Does (.xcheckWindowEnd dt) s (startWindow { u with lc := { u.lc with deviation := deviationOf (u.val 0x2100 7) d0 d1 } })) ∧
    (u.sys.mode ≠ .boot → u.sys.mode ≠ .test → x.still = false → x.edgeAt + msCk (u.val 0x2100 5) ≤ u.clk.core →
      let s1 := raise 0x0307 0x10 [BitVec.ofNat 8 c.val, 1] (setEnc c.val { x with still := true, run := [] } u)
      Does (.webStill dt c) s
        (if c.val = 0 then speedWarn { s1 with lc := { s1.lc with fwdRun := 0, times := [] } } else s1)) ∧
    (∀ due, u.synthDue = some due → due ≤ u.clk.core → Does (.synthesisedTick dt) s (masterTick due u))) ∧
  (∀ (t : Nat) (s : State),
    (masterTick t s).lc.lastTick = (s.lc.lastTick + 1) % 4294967296 ∧
    (masterTick t s).lc.lastTickAt = s.timeAt t ∧ (masterTick t s).lc.ticked = true)

/-- Compare outputs, probes and emulated encoders (R76, R80, R82, R83): an output falls once no unit's pulse drives it; an edge of
the selected sense waits for the encoder's filter delay, then is looked up, and latched where the window takes it and rejected
where not; an emulated encoder steps one count toward the owed position, MIN_EDGE after the step before. -/
def Obligations.OutputsAndProbes : Prop :=
  ∀ (dt : Nat) (m : Fin 16) (p : Fin 4) (level : Bool) (e : Fin 2) (s : State),
    let u := advance dt s
    let x := u.probe p.val
    let edge := if level then 1 else 2
    ((∀ k, k < 16 → (u.cmp k).drives m.val u.clk.core = false) → Does (.comparePulseEnd dt m) s (setPulse m.val false u)) ∧
    (level ≠ x.level → u.flag (0x2040 + p.val) 1 = true → u.sys.mode ≠ .boot → u.sys.mode ≠ .test →
      u.val (0x2040 + p.val) 2 &&& edge ≠ 0 →
      Does (.probeEdge dt p level) s (setProbe p.val
        { x with level := level, waiting := x.waiting ++ [(u.rawTime (u.val (0x2040 + p.val) 3), edge)] } u)) ∧
    (level = x.level → Does (.probeEdge dt p level) s (setProbe p.val { x with level := level } u)) ∧
    (let v := drainProbes u
     let y := v.probe p.val
     ∀ raw edge rest, y.waiting = (raw, edge) :: rest → raw + v.encCfg 0 2 + 2 ≤ v.clk.core →
       let w := draw (setProbe p.val { y with waiting := rest } v)
       (v.inWindow p.val (v.positionAt raw) = true →
         Does (.probeLatch dt p) s (latchProbe p.val ⟨v.timeAt raw, edge, v.positionAt raw⟩ w)) ∧
       (v.inWindow p.val (v.positionAt raw) = false →
         Does (.probeLatch dt p) s
           (setProbe p.val { w.probe p.val with rejected := wrapAdd 32 y.rejected 1 } w))) ∧
    (let y := tget {} u.emus e.val
     u.flag (0x20C0 + e.val) 1 = true → y.lag ≠ 0 → y.lag.natAbs ≤ u.val (0x20C0 + e.val) 5 →
     y.stepAt + nsCk (u.val (0x20C0 + e.val) 3) ≤ u.clk.core →
     let z := { y with out := if 0 < y.lag then y.out + 1 else y.out - 1, stepAt := u.clk.core }
     Does (.emuStep dt e) s { u with emus := tset u.emus e.val z })

/-! Firing gates -/

/-- Accepted levels of a gate (R173): a healthy gate whose levels stay healthy stays so; one whose levels are not is withdrawn,
with its action; a withdrawn gate whose levels are healthy again is healthy, with GATE_RESTORED; and a gate whose two inputs have
been equal for more than 1 ms is in FAULT, with GATE_FAULT, and sets the SAFE latch where it acts. A standby raises neither
GATE_WITHDRAWN nor GATE_FAULT (the model's reading of R283: log entry 73).

A withdrawal (R173-R175): the gate is WITHDRAWN, its count goes up and GATE_WITHDRAWN tells whether it latches; a latching gate
that acts in the mode sets the SAFE latch with the gate's cause, so that the next state is in no mode that fires. -/
def Obligations.GateInputs : Prop :=
  (∀ (dt : Nat) (n : Fin 8) (p c : Bool) (s : State),
    let u := advance dt s
    let g := u.gate n.val
    let equal := if p == c then (match g.equalAt with | some t => some t | none => some u.clk.core) else none
    let v := setGate n.val { g with p := p, c := c, equalAt := equal } u
    u.sys.mode ≠ .boot →
    (g.state = .healthy → v.gateHealthy n.val = true → Does (.gateInputAccepted dt n p c) s v) ∧
    (g.state = .healthy → v.gateHealthy n.val = false → Does (.gateInputAccepted dt n p c) s (withdrawGate n.val v)) ∧
    (g.state = .withdrawn → v.gateHealthy n.val = true →
      Does (.gateInputAccepted dt n p c) s
        (raise 0x0702 0x11 (le 1 n.val ++ le 1 (v.gateVal n.val 1)) (enterGate n.val .healthy v))) ∧
    (∀ t, g.equalAt = some t → t + msCk 1 < u.clk.core → g.state = .healthy ∨ g.state = .withdrawn →
      let w := raiseGate 0x0703 (le 1 n.val ++ le 1 (b2n g.p) ++ le 1 (b2n g.c)) (enterGate n.val .fault u)
      Does (.gateFault dt n) s (if w.gateActs w.sys.mode n.val then safeSet 1 w else w))) ∧
  (∀ (dt : Nat) (n : Fin 8) (p c : Bool) (s t : State),
    let u := advance dt s
    u.sys.mode ≠ .boot → u.sys.mode ≠ .test → u.pair.role ≠ .standby → (u.gate n.val).state = .healthy →
    (setGate n.val { u.gate n.val with p := p, c := c, equalAt := none } u).gateHealthy n.val = false →
    u.gateActs u.sys.mode n.val = true → u.gateVal n.val 5 = 1 →
    exec (.gateInputAccepted dt n p c) s = .next t →
    (t.gate n.val).state = .withdrawn ∧ t.sys.latch = true ∧ bitOf t.sys.causes 1 = true ∧ t.sys.mode.live = false ∧
    t.sys.safeN = true)

/-! Lines and their frames -/

/-- A line in the path (R17-R19, R154, R156): its completion keeps the drop data and the reasons found; a line that is not complete
and can no longer leave by its deadline is late; a frame that is due starts on a free lane once the line is complete, with the
line's fire-at fixed by its first frame (R163), and a line that can no longer meet its deadline is late first; a lane of a standby
sends nothing and counts what would have made the line blank (R283).

A lane between frames, and what watches the ticks (R164, R181, R188, R339): when a frame has ended a TIME follows, on a lane that
carries it, and then what is due; a lane with no frame sends a TIME that ends before the next frame; no tick by phi + 2p ends the prediction and cancels what would fire later; a line's
print record is written 2 ms after its fire-at or deadline, and the line leaves. -/
def Obligations.LinesAndFrames : Prop :=
  (∀ (dt : Nat) (g : Fin 8) (l : Fin 32) (n : BitVec 32) (obs ring : EccObs) (y : Line) (s : State),
    let u := advance dt s
    ((u.gal g.val).find n.toNat = some y → y.drops = none → y.late = false →
      let v := applyEcc g.val y obs u
      let out := v.linePath g.val y
      let y1 := { y with drops := some out.1, reasons := v.completeReasons g.val y obs }
      Does (.lineComplete dt g n obs) s (compareDigest g.val y1 (dropBytes out.1)
        (finishCaptions g.val y1 (noteClamped g.val out.2 (putLine g.val y1 v))))) ∧
    ((u.gal g.val).find n.toNat = some y → y.pending = true →
      u.pred.valid = false ∨ u.missesDeadline g.val y = true →
      Does (.dataLate dt g n) s (lineLate g.val y u)) ∧
    ((u.gal (l.val / 4)).find n.toNat = some y → u.shadows l.val = false → u.running l.val = true →
      (u.lane l.val).sending = none → u.sendable l.val y = true →
      u.deadlinePassed (l.val / 4) (usg 32 ((n.toNat : Int) - u.step (l.val / 4))) = true →
      (y.pending = true → u.missed l.val y = true) →
      let v := if u.missed l.val y then lineLate (l.val / 4) y u else readRing l.val y ring u
      ∀ y1, (v.gal (l.val / 4)).find n.toNat = some y1 →
      ∀ y2, ((fixLine (l.val / 4) y1 v).gal (l.val / 4)).find n.toNat = some y2 →
      Does (.lineFrameStart dt l ⟨n, ring⟩) s (startFrame l.val y2 (fixLine (l.val / 4) y1 v))) ∧
    ((u.gal (l.val / 4)).find n.toNat = some y → u.shadows l.val = true →
      Does (.lineFrameStart dt l ⟨n, ring⟩) s (shadowLine l.val y u))) ∧
  (∀ (dt : Nat) (g : Fin 8) (link : Link) (n : BitVec 32) (s : State),
    let u := advance dt s
    let k := linkKey link
    (∀ f, (u.lane k).sending = some f → f.endsAt ≤ u.clk.core → f.frame.type ≠ 0x21 →
      let v := setLane k { u.lane k with sending := none } u
      let w := if v.sendsTime k then sendTime k v else v
      w.yieldAfter k = none → Does (.laneFrameSent dt link) s (pumpLane k w)) ∧
    (u.sendsTime k = true → (u.lane k).sending = none → u.timeFits k = true →
      Does (.timePeriodic dt link) s (pumpLane k (sendLink k (.time (u.now % 2 ^ 64))
        (setLane k { u.lane k with timeAt := u.clk.core } u)))) ∧
    (u.pred.valid = true → u.pred.phi + 2 * u.pred.p ≤ (u.now : Int) →
      Does (.tickOverdue dt) s (predictorLost (raiseBlank 0x0707 0x0010 (le 4 u.pred.mPhi ++ le 4 u.lc.period)
        { u with pred := { u.pred with overdue := wrapAdd 32 u.pred.overdue 1 } }))) ∧
    (∀ y, (u.gal g.val).find n.toNat = some y → y.prints = true → bitOf (u.val 0x1500 3) g.val = true → u.inControl = true →
      y.stamp + usT 2000 ≤ u.now →
      let v := writePrintRecord g.val (u.withLanesDown g.val y) u
      Does (.printRecordWrite dt g n) s
        (setGal g.val { v.gal g.val with lines := (v.gal g.val).lines.filter (fun z => z.line != n.toNat) } v)))

/-- The stitch mask that a gallery starts with (R150): word i of the ramp has floor((2i + 1) / 4) bits, the first rows of the
published order, and words 32 to 63 are all ones. -/
def Obligations.DefaultStitchMask : Prop :=
  rampMask.length = 128 ∧ leAt rampMask 0 2 = 0 ∧ leAt rampMask 2 2 = 0 ∧ leAt rampMask 4 2 = 1 ∧ leAt rampMask 6 2 = 1 ∧
  leAt rampMask 8 2 = 0x0101 ∧ leAt rampMask 10 2 = 0x0101 ∧ leAt rampMask 62 2 = 0x7FFF ∧
  (∀ i, i < 32 → ((List.range 16).filter (fun b => bitOf (leAt rampMask (2 * i) 2) b)).length = (2 * i + 1) / 4 ∧
    ∀ b, b < 16 → (bitOf (leAt rampMask (2 * i) 2) b = true ↔ b ∈ rampOrder.take ((2 * i + 1) / 4))) ∧
  (∀ i, 32 ≤ i → i < 64 → leAt rampMask (2 * i) 2 = 0xFFFF) ∧
  rampOrder = [0, 8, 4, 12, 2, 10, 6, 14, 1, 9, 5, 13, 3, 11, 7, 15]

/-! The head link -/

/-- What a module sends (R185, R190, R201, R205-R207): an accepted frame restarts UPSTREAM_TIMEOUT and then has its effect. STATUS
no sooner than 100 µs after the last is taken; an answer ends its transaction and goes to who asked; FAULT code 1 counts a line
late at the module and marks its record; other codes raise MODULE_FAULT; DELAY_RESP gives the lane its DELAY. -/
def Obligations.ModuleFrames : Prop :=
  ∀ (dt : Nat) (l : Fin 32) (k : Link) (f : Bytes) (s : State),
    let u := advance dt s
    let p := payloadOf f
    let line := leAt f 8 4
    let key := linkKey k
    let timed := heard key (receive key 0xB0 f u).2
    let got := fun (type : Nat) => heard l.val (receive l.val type f u).2
    ((receive l.val 0x81 f u).1 = true → (u.lane l.val).statusAt = none →
      Does (.statusReceived dt l f) s (doStatus l.val p (receive l.val 0x81 f u).2)) ∧
    ((receive l.val 0x90 f u).1 = true → ∀ c x, (got 0x90).answered l.val (leAt p 0 2) [0x10, 0x12] = some (c, x) → c.user = .regWrite →
      Does (.ctrlAckReceived dt l f) s (serveWaiting (pumpLane l.val
        (answerReg (if leAt p 2 2 = 0 then 0 else 0xAB080004) [] (setLane l.val x (got 0x90)))))) ∧
    ((receive l.val 0x91 f u).1 = true → ∀ c x, (got 0x91).answered l.val (leAt p 0 2) [0x11] = some (c, x) → c.user = .version →
      leAt p 2 2 = 0 →
      Does (.ctrlDataReceived dt l f) s (serveWaiting (pumpLane l.val (setLane l.val { x with version := leAt p 8 4 }
        (setLane l.val x (got 0x91)))))) ∧
    ((receive l.val 0x93 f u).1 = true → ∀ c x b, (got 0x93).answered l.val (leAt p 2 2) [0x13] = some (c, x) →
      c.user = .identity b 0 →
      Does (.idDataReceived dt l f) s (pumpLane l.val (doIdentity b 0 p (setLane l.val x (got 0x93))))) ∧
    ((receive l.val 0xA0 f u).1 = true → leAt p 0 2 ≠ 1 → (got 0xA0).sweep = none →
      Does (.faultReceived dt l f) s
        (faultShot l.val line (raise 0x0808 (0x0200 + l.val) (le 1 l.val ++ le 1 (byteAt p 2) ++ le 2 (leAt p 0 2) ++ le 4 line) (got 0xA0)))) ∧
    ((receive key 0xB0 f u).1 = true → ∀ seq t1 d, (timed.lane key).syncs.find? (fun q => q.1 == leAt p 0 2) = some (seq, t1) →
      d = delayOf t1 0 (sgn 64 (usg 64 ((leAt p 16 8 : Int) - (leAt p 8 8 : Nat)))) (timed.now - 62 * timed.symbolT key)
        (timed.ival (0x5000 + key) 8 2) →
      (timed.lane key).delay ≠ none →
      let w := pumpLane key (setLane key { timed.lane key with
        delay := some d, lastDelay := d
        syncs := (timed.lane key).syncs.takeWhile (fun q => q.1 != seq) } timed)
      Does (.delayRespReceived dt k f) s (if (timed.lane key).settingUp then finishSetup key w else w))

/-- A module that does not answer (R190, R197, R201, R207): a transaction unanswered for 1 ms, or 50 ms for an identity read, goes out
again under its TAG, three times in all; the third TIME_SYNC in a row without its answer takes the lane down with cause 5; no
valid frame for UPSTREAM_TIMEOUT takes it down with cause 4; no STATUS for a bay sets INK_COLD and raises STATUS_MISSING. -/
def Obligations.ModuleSilence : Prop :=
  ∀ (dt : Nat) (l : Fin 32) (k : Link) (tag : BitVec 16) (b : Fin 512) (s : State),
    let u := advance dt s
    let key := linkKey k
    let again := fun (c : Ctrl) (x : Lane) =>
      let d := { c with resends := c.resends + 1 }
      pumpLane l.val (setLane l.val { x with ctrlQueue := d :: x.ctrlQueue, outstanding := d :: x.outstanding } u)
    (∀ c x, u.answered l.val tag.toNat [0x10, 0x11, 0x12] = some (c, x) → u.running l.val = true →
      u.resending l.val tag.toNat = false → c.sentAt + msCk 1 ≤ u.clk.core → c.resends < 3 →
      Does (.ctrlRetry dt l tag) s (serveWaiting (again c x))) ∧
    (∀ c x, u.answered l.val tag.toNat [0x13] = some (c, x) → u.running l.val = true →
      u.resending l.val tag.toNat = false → c.sentAt + msCk 50 ≤ u.clk.core → c.resends < 3 →
      Does (.idReadRetry dt l tag) s (again c x)) ∧
    (u.sendsTime key = true → (u.lane key).syncDue ≤ u.clk.core → (u.lane key).syncQueue = 0 →
      Does (.timeSyncSend dt k) s (pumpLane key (setLane key { u.lane key with syncQueue := 1 } u))) ∧
    (∀ q t1 rest, (u.lane key).syncs = (q, t1) :: rest → 2 ≤ rest.length → t1 + (usT 10 : Nat) ≤ (u.now : Int) →
      Does (.timeSyncUnanswered dt k) s (linkDown key 5 u)) ∧
    ((u.lane l.val).validAt + msCk (u.val (0x5000 + l.val) 12) ≤ u.clk.core →
      Does (.upstreamSilent dt l) s (laneDown l.val 4 u)) ∧
    (u.running (b.val / 16) = true → u.populated b.val = true → (u.bay b.val).inkCold = false →
      (u.bay b.val).statusAt + msCk (u.val (0x5000 + b.val / 16) 12) ≤ u.clk.core →
      Does (.statusMissing dt b) s (raise 0x080A (0x0200 + b.val / 16) (le 2 b.val)
        (forgetSensor (0x2000 + b.val) (forgetSensor (0x3000 + b.val)
          (enterCold b.val none (setBay b.val { u.bay b.val with missing := true } u))))))

/-- Training of a link (R192-R195): DETECT ends 100 µs after the partner leaves electrical idle; TRAIN sets tell alignment, the preset
asked, which the transmitter takes in every training state, and the count of errors; every preset is measured in turn and the best asked; VERIFY counts 10 ms of PRBS31; a state that
times out begins again, the third time in a row FAILED; AUTO_RETRAIN begins again after 1 s; in RUN the FOM is measured; FOM
is min(255, floor(W x H / 16)) of the eye measured; a test mode's checker locks, and then counts the errors it sees.

The causes that take a link in RUN down (R197): 1 sixteen code errors among 1,024 code groups (R180), 2 comma loss, 3 a run
of eight bad frames. A head-link lane not in RUN has no such cause, and stays as it is. -/
def Obligations.LaneTraining : Prop :=
  (∀ (dt : Nat) (k : Link) (l : Fin 32) (ok : Bool) (value request : Byte) (w : Fin 65) (h : Fin 129) (errors : Nat) (s : State),
    let u := advance dt s
    let key := linkKey k
    let t := (u.lane key).train
    let fom := fomOf w.val h.val
    (t.state = .detect → t.since + usCk 100 ≤ u.clk.core →
      Does (.laneDetect dt k) s (sendTrain key 1 0 4
        (setTrain key { t with state := .align, since := u.clk.core, aligned := false, partnerAligned := false } u))) ∧
    (t.state = .align → t.aligned = true →
      Does (.trainReceived dt k ok 1 value request) s
        (checkAligned key (setTrain key { t with
          txPreset := request.toNat % 8, partnerAligned := t.partnerAligned || value.toNat == 1 } u))) ∧
    (t.state = .equalise →
      Does (.trainReceived dt k ok 2 value request) s (checkEqualised key (setTrain key { t with txPreset := request.toNat % 8 } u)) ∧
      Does (.trainReceived dt k ok 3 value request) s (checkEqualised key (setTrain key
        { t with txPreset := request.toNat % 8, eqSeen := t.eqSeen || decide (96 ≤ value.toNat) } u))) ∧
    (t.state = .verify →
      Does (.trainReceived dt k ok 4 value request) s (checkVerify key
        (setTrain key { t with txPreset := request.toNat % 8, partnerPrbs := some value.toNat } u))) ∧
    (t.state = .equalise → t.eqSent = false → t.stepAt + usCk 500 ≤ u.clk.core →
      (t.measuring = false →
        Does (.eqPresetStep dt k ⟨w, h⟩) s (setTrain key { t with measuring := true, stepAt := u.clk.core } u)) ∧
      (t.measuring = true → t.chosen = true → 96 ≤ fom →
        Does (.eqPresetStep dt k ⟨w, h⟩) s (checkEqualised key
          (sendTrain key 3 fom t.asking (setTrain key { t with fom := fom, eqSent := true } u)))) ∧
      (t.measuring = true → t.chosen = false → t.asking < 7 → t.asking ≠ 0 → t.bestFom < fom →
        Does (.eqPresetStep dt k ⟨w, h⟩) s (sendTrain key 2 fom (t.asking + 1) (setTrain key { t with
          fom := fom, best := t.asking, bestFom := fom, asking := t.asking + 1, chosen := false
          measuring := false, stepAt := u.clk.core } u)))) ∧
    (t.state = .verify → t.prbs = none → t.since + msCk 10 ≤ u.clk.core → errors ≤ 255 →
      Does (.verifyPrbsEnd dt k errors) s
        (checkVerify key (sendTrain key 4 errors t.asking (setTrain key { t with prbs := some errors } u)))) ∧
    (∀ n, trainLimit t.state = some n → t.since + msCk n ≤ u.clk.core →
      (t.timeouts < 2 → Does (.trainTimeout dt k) s (startDetect key (setTrain key { t with timeouts := t.timeouts + 1 } u))) ∧
      (2 ≤ t.timeouts → Does (.trainTimeout dt k) s (enterFailed key t.state.code 0 u))) ∧
    (t.state = .failed → u.autoRetrain key = true → t.since + sCk 1 ≤ u.clk.core →
      Does (.autoRetrain dt k) s (startDetect key u)) ∧
    (let x := u.lane l.val
     u.running l.val = true →
      Does (.fomMeasure dt l ⟨w, h⟩) s (noteMargin l.val fom 0 x.train.marginal
        (setTrain l.val { x.train with fom := fom, marginal := (marginal x.train.marginal fom).2 } u))) ∧
    (let x := u.lane l.val
     x.train.state = .test → 1 ≤ u.val (0x5000 + l.val) 0x13 → u.val (0x5000 + l.val) 0x13 ≤ 5 →
      (x.prbsAt = none →
        Does (.prbsLock dt ⟨l, errors⟩) s (setLane l.val { x with prbsAt := some u.clk.core, injectAt := u.clk.core } u)) ∧
      (x.prbsAt ≠ none →
        Does (.prbsLock dt ⟨l, errors⟩) s (setLane l.val { x with prbsErrors := wrapAdd 64 x.prbsErrors errors } u)))) ∧
  (∀ (dt : Nat) (k : Link) (groups : List (BitVec 10)) (inFrame positive : Bool) (s : State),
    let u := advance dt s
    let key := linkKey k
    Does (.codeErrorLimit dt ⟨k, groups, inFrame, positive⟩) s
      (if 16 ≤ codeErrors (groups.take 1024) inFrame positive then linkDown key 1 u else u) ∧
    Does (.commaLoss dt k) s (linkDown key 2 u) ∧
    (8 ≤ (u.lane key).badRun → Does (.badFrameRun dt k) s (linkDown key 3 u)) ∧
    (∀ (l : Fin 32) (cause : Nat), (s.lane l.val).train.state ≠ .run → laneDown l.val cause s = s))

/-! The host port -/

/-- Configuration writes, the link, and the registers that a read or a write acts on (R325, R343-R349): each writable field of the
configuration space as written, the others as they were, and then what waited to be sent; the link at a speed it may have, or
down, and then in L2 or not; HEARTBEAT; a snapshot of time, tick and position together; MB_STATUS read, as any read of its register gives it, and OVERRUN cleared.

Writes of the register BAR (R90, R347): one aligned word goes to its register, whichever block it is in; the ring registers'
TAIL, RESET and RESUME act on their ring. A port that is disabled by its strap, or in TEST, takes none of them. -/
def Obligations.HostPortCommands : Prop :=
  (∀ (dt : Nat) (bme : Option Bool) (power : Option PowerWrite) (other : Option ConfigWrite) (b d3 on mask l2 : Bool) (p : Fin 3)
    (q : Fin 6) (speed : Fin 5) (width : Fin 9) (cause : Fin 3) (v : BitVec 32) (s : State),
    let u := advance dt s
    let h := u.host
    h.config (some b) none none = { h with bme := b } ∧
    h.config none (some ⟨d3, on⟩) none = { h with d3hot := d3, pmeEn := on, wake := h.wake && (d3 || h.l2) && on } ∧
    h.config none none (some (.sizes p q)) = { h with maxPayload := p.val, maxRead := q.val } ∧
    h.config none none (some (.msix on mask)) = { h with msixOn := on, msixMask := mask } ∧
    (u.portOn = true →
      Does (.configWrite dt bme power other) s (sendHeld (flushRings { u with host := u.host.config bme power other })) ∧
      (speed.val ≤ u.val 0xA000 2 → (speed.val = 0 ↔ width.val = 0) → (l2 = true → speed.val = 0) →
        Does (.hostLink dt speed ⟨width, l2⟩) s (raise 0x0F02 2 [BitVec.ofNat 8 speed.val, BitVec.ofNat 8 width.val]
          (setVal 0xA000 4 width.val (setVal 0xA000 3 speed.val
            { u with host := { u.host with l2 := l2, wake := u.host.wake && (u.host.d3hot || l2) } })))) ∧
      Does (.hostPortReset dt cause) s (raise 0x0F03 2 ([BitVec.ofNat 8 cause.val, 0, 0, 0] ++ le 4 u.ringFlights)
        (bump 0xA000 6 32 (crcDefaults (resetBar (dropRings (muteMailbox u)))))) ∧
      (bitOf v.toNat 0 = true → Does (.timeSnapshot dt v) s { u with host := { u.host with snap := u.snapshot } }) ∧
      Does (.mbStatusRead dt) s (emit (.readData (some (le 4 (u.registerRead 0x003004))))
        { u with host := { u.host with mailbox := { u.host.mailbox with overrun := false } } })) ∧
    (u.host.ready = true → u.host.heartbeatAt + msCk 1 ≤ u.clk.core →
      Does (.hostHeartbeatTick dt) s
        { u with host := { u.host with heartbeat := wrapAdd 32 u.host.heartbeat 1, heartbeatAt := u.clk.core } })) ∧
  (∀ (dt : Nat) (r e : Fin 4) (o : BitVec 24) (v : BitVec 32) (b0 b1 b2 b3 : Byte) (s : State),
    let u := advance dt s
    let x := u.accRing r.val
    let y := u.egrRing e.val
    (u.portOn = true →
      (o.toNat % 4 = 0 → ¬ (0x001000 ≤ o.toNat ∧ o.toNat < 0x002000) →
        Does (.registerWrite dt o [b0, b1, b2, b3]) s (registerWrite o.toNat (ofLe [b0, b1, b2, b3]) u)) ∧
      Does (.ringTailDoorbell dt (.accession r) v) s (setAccRing r.val { x with tail := v.toNat % x.entries, askedAt := u.clk.core } u) ∧
      Does (.ringTailDoorbell dt (.egress e) v) s (setEgrRing e.val { y with tail := v.toNat % y.entries, askedAt := u.clk.core } u) ∧
      (x.enable = false → u.ringBusy r.val = false → bitOf v.toNat 0 = false →
        Does (.ringReset dt (.accession r) v) s
          (setAccRing r.val { x with
            head := 0, tail := 0, chains := [], halted := x.halted && !bitOf v.toNat 1, askedAt := u.clk.core } u)) ∧
      (x.halted = true → bitOf v.toNat 2 = false →
        Does (.ringResume dt (.accession r) v) s (setAccRing r.val { x with enable := bitOf v.toNat 0, halted := false, askedAt := u.clk.core } u))) ∧
    (u.portOn = false →
      Does (.registerWrite dt o [b0, b1, b2, b3]) s u ∧ Does (.ringTailDoorbell dt (.accession r) v) s u ∧
      Does (.ringReset dt (.accession r) v) s u ∧ Does (.ringResume dt (.accession r) v) s u))

/-- The mailbox (R348, R349): a doorbell while BUSY is discarded, counted and sets OVERRUN; a body whose length is wrong is answered
at once with 0xAB0F_0001 under its tag; any other is a transaction, which takes its turn with those of the other routes.

What the mailbox shows of an answer (R349): the body in MB_RESPONSE with its length and the request's tag, BUSY gone, DONE set,
and source 12 pending. -/
def Obligations.Mailbox : Prop :=
  (∀ (dt : Nat) (v : BitVec 32) (s : State),
    let u := advance dt s
    let m := u.host.mailbox
    let n := v.toNat % 8192
    let t := transOf (.mailbox (v.toNat / 65536)) (m.body n)
    let taken := { u with host := { u.host with mailbox := { m with busy := true, done := false } } }
    u.portOn = true →
    (m.busy = true →
      Does (.mbDoorbell dt v) s (bump 0xA000 0x0A 32 { u with host := { u.host with mailbox := { m with overrun := true } } })) ∧
    (m.busy = false → u.served = true → mailboxLength n (m.body n) = false →
      Does (.mbDoorbell dt v) s (refuseWith t 0xAB0F0001 taken)) ∧
    (m.busy = false → u.served = true → mailboxLength n (m.body n) = true →
      Does (.mbDoorbell dt v) s (serve t taken))) ∧
  (∀ (tag : Nat) (body : Bytes) (s : State),
    let t := answerMailbox tag body s
    t.host.mailbox.response = body ∧ t.host.mailbox.respLen = body.length ∧ t.host.mailbox.tag = tag ∧
    t.host.mailbox.busy = false ∧ t.host.mailbox.done = true ∧ t.ic.pendingBit 12 = true)

/-! The interrupt controller -/

/-- A CLAIM is accepted when its source is enabled on the target and deliverable to it, and the stack holds fewer than 16 entries
(R351, R353): the source goes on the stack with its priority, an edge source's pending bit clears, a level source is in service,
and the target's condition counts as becoming true again where it holds (R352). The stack stands so in the next state.

A COMPLETE of the source at the top pops it and ends its service (R354): an edge source, or a level source still asserted, does
nothing more; a level source that is de-asserted counts in IC_VANISHED.

In BRINGUP a fault sends no vector, a CLAIM of kind 4 is pushed as though it had passed, and a COMPLETE of kind 1 pops the top and
ends the service of both sources; a CLAIM of kind 3 and a COMPLETE of kind 2 have no effect but the fault (R356).

A CLAIM of an enabled source that is in service, on the stack of another target, is of kind 4 even where the source is not pending, as a level
source in service is not: the model's reading (DEDUCED, log entry 47), since kinds 3 and 4 both fit. -/
def Obligations.Claims : Prop :=
  (∀ (dt : Nat) (t : Fin 4) (v : BitVec 32) (s : State),
    let u := sampleLevels (advance dt s)
    let src := v.toNat % 256
    (advance dt s).portOn = true → u.ic.deliverable t.val src = true →
    (u.ic.stackOf t.val).length < 16 →
    Does (.icClaim dt t v) s (resignal t.val { u with ic := { u.ic with
      stack := tset u.ic.stack t.val ((src, tget 0 u.ic.prio src) :: u.ic.stackOf t.val)
      pending := if irqLevel src then u.ic.pending else tset u.ic.pending src false
      serving := tset u.ic.serving src true } }) ∧
    Answers (.icClaim dt t v) s (fun w => w.ic.stackOf t.val = (src, tget 0 u.ic.prio src) :: u.ic.stackOf t.val)) ∧
  (∀ (dt : Nat) (t : Fin 4) (v : BitVec 32) (p : Nat) (rest : List (Nat × Nat)) (s : State),
    let u := sampleLevels (advance dt s)
    let src := v.toNat % 256
    let ic := { u.ic with stack := tset u.ic.stack t.val rest, serving := tset u.ic.serving src false }
    (advance dt s).portOn = true → u.ic.stackOf t.val = (src, p) :: rest →
    (irqLevel src = false ∨ u.levelNow src = true →
      Does (.icComplete dt t v) s (resignal t.val { u with ic := ic })) ∧
    (irqLevel src = true → u.levelNow src = false →
      Does (.icComplete dt t v) s (resignal t.val
        { u with ic := { ic with vanished := tset ic.vanished t.val (satAdd 32 (tget 0 ic.vanished t.val) 1) } }))) ∧
  (∀ (dt : Nat) (t : Fin 4) (v : BitVec 32) (s : State),
    let u := sampleLevels (advance dt s)
    let src := v.toNat % 256
    (advance dt s).portOn = true → u.ic.bringup = true →
    (u.ic.enabled t.val src = true → u.ic.pendingBit src = true →
      (u.ic.inService src = true ∨ tget 0 u.ic.prio src ≤ u.ic.topPrio t.val) → (u.ic.stackOf t.val).length < 16 →
      Does (.icClaim dt t v) s (resignal t.val (claimPush t.val src (stackFault t.val 4 src u)))) ∧
    (u.ic.enabled t.val src = false → Does (.icClaim dt t v) s (resignal t.val (stackFault t.val 3 src u))) ∧
    (u.ic.stackOf t.val = [] → Does (.icComplete dt t v) s (resignal t.val (stackFault t.val 2 src u))) ∧
    (∀ top p rest, u.ic.stackOf t.val = (top, p) :: rest → top ≠ src →
      let w := stackFault t.val 1 src u
      let w2 := endService t.val top { w with ic := { w.ic with stack := tset w.ic.stack t.val rest } }
      Does (.icComplete dt t v) s (resignal t.val { w2 with ic := { w2.ic with serving := tset w2.ic.serving src false } }))) ∧
  (∀ (dt : Nat) (t : Fin 4) (v : BitVec 32) (s : State),
    let u := sampleLevels (advance dt s)
    let src := v.toNat % 256
    (advance dt s).portOn = true → u.ic.bringup = false → u.ic.enabled t.val src = true →
    u.ic.inService src = true → u.ic.servedElsewhere t.val src = true →
    Does (.icClaim dt t v) s (resignal t.val (stackFault t.val 4 src u)))

/-- Every other CLAIM or COMPLETE is a fault in NORMAL mode, of the kinds R355 lists, and leaves the stacks as they are; the target's
condition counts as becoming true again where it holds (R352). A fault records itself in IC_FAULT, the first one since VALID was cleared, raises STACK_FAULT, and sends vector 4, or sets its PBA bit while it is masked. -/
def Obligations.StackFaults : Prop :=
  (∀ (dt : Nat) (t : Fin 4) (v : BitVec 32) (s : State),
    let u := sampleLevels (advance dt s)
    let src := v.toNat % 256
    let st := u.ic.stackOf t.val
    (advance dt s).portOn = true → u.ic.bringup = false →
    let faults := fun (kind : Nat) => resignal t.val (stackFault t.val kind src u)
    (∀ p rest, st = p :: rest → p.1 ≠ src → Does (.icComplete dt t v) s (faults 1)) ∧
    (st = [] → Does (.icComplete dt t v) s (faults 2)) ∧
    (u.ic.enabled t.val src = false → Does (.icClaim dt t v) s (faults 3)) ∧
    (u.ic.pendingBit src = false → u.ic.inService src = false → Does (.icClaim dt t v) s (faults 3)) ∧
    (u.ic.enabled t.val src = true → u.ic.pendingBit src = true → tget 0 u.ic.prio src ≤ u.ic.topPrio t.val →
      Does (.icClaim dt t v) s (faults 4)) ∧
    (u.ic.enabled t.val src = true → u.ic.pendingBit src = true → u.ic.inService src = true →
      Does (.icClaim dt t v) s (faults 4)) ∧
    (u.ic.deliverable t.val src = true → st.length = 16 → Does (.icClaim dt t v) s (faults 5))) ∧
  (∀ (t kind offered : Nat) (s : State),
    let w := stackFault t kind offered s
    w.ic.stack = s.ic.stack ∧ w.ic.fValid = true ∧
    (s.ic.fValid = false → w.ic.fTarget = t ∧ w.ic.fKind = kind ∧ w.ic.fOffered = offered ∧ w.ic.fOverrun = s.ic.fOverrun ∧
      w.ic.fEmpty = (s.ic.stackOf t).isEmpty) ∧
    (s.ic.fValid = true → w.ic.fOverrun = true ∧ w.ic.fKind = s.ic.fKind ∧ w.ic.fOffered = s.ic.fOffered) ∧
    (s.ringCap 0 ≠ 0 → ∃ r : Rec, r.code = 0x0F01 ∧ (∃ n, (n, Slot.head r) ∈ (tget {} w.prov.rings 0 : ProvRing).slots)) ∧
    (s.ic.bringup = false → s.mayMaster = true → s.host.vectorMasked 4 = false → .msix 4 ∈ w.out) ∧
    (s.ic.bringup = false → s.host.vectorMasked 4 = true → bitOf w.host.pba 4 = true))

/-- A change of MODE leaves the stacks, pending bits and IC_FAULT as they stand (R357): MODE and IRQ_PIN_EN take what is written, and
nothing else changes. -/
def Obligations.ModeChangeKeeps : Prop :=
  ∀ (dt : Nat) (v : BitVec 32) (s : State),
    let u := advance dt s
    u.portOn = true →
    Does (.icModeWrite dt v) s { u with ic := { u.ic with bringup := bitOf v.toNat 0, pinEn := bitOf v.toNat 5 } }

/-- The controller's other registers (R358, R359): ones written to IC_PEND clear edge sources and no level one; IC_VANISHED reads, as
any read of its register gives it, and clears; ones at VALID and OVERRUN clear them; a coalescing window that ends sets the pending bit and clears the count.

Ones written to IC_PEND clear the pending bits of the edge sources they name, and nothing else (R359): every other source keeps
its bit, and no part of the state but the pending bits changes. -/
def Obligations.InterruptRegisters : Prop :=
  (∀ (dt : Nat) (i : Fin 8) (t : Fin 4) (src : Fin 256) (v : BitVec 32) (s : State),
    let u := advance dt s
    (u.portOn = true →
      Does (.icFaultClear dt v) s { u with ic := { u.ic with
        fValid := u.ic.fValid && !(bitOf v.toNat 31), fOverrun := u.ic.fOverrun && !(bitOf v.toNat 30) } } ∧
      Does (.icVanishedRead dt t) s (emit (.readData (some (le 4 (u.registerRead (0x01020C + 0x10 * t.val)))))
        { u with ic := { u.ic with vanished := tset u.ic.vanished t.val 0 } }) ∧
      Does (.icPendClear dt i v) s (doIcPendClear i.val v.toNat u)) ∧
    (tget 0 u.ic.count src.val ≠ 0 →
      tget 0 u.ic.window src.val + usCk (tget 0xFFFF u.ic.coalT src.val) ≤ u.clk.core →
      Does (.coalesceTimeout dt src) s { u with ic := { u.ic with
        pending := tset u.ic.pending src.val true, count := tset u.ic.count src.val 0 } })) ∧
  (∀ (i v : Nat) (s : State),
    let w := doIcPendClear i v s
    w = { s with ic := { s.ic with pending := w.ic.pending } } ∧
    (∀ j, j < 32 → bitOf v j = true → irqLevel (32 * i + j) = false → tget false w.ic.pending (32 * i + j) = false) ∧
    (∀ src, (∀ j, j < 32 → bitOf v j = true → src ≠ 32 * i + j) → tget false w.ic.pending src = tget false s.ic.pending src))

/-! The CRC unit -/

/-- The CRC unit (R362-R364): in SOFT mode the bytes feed the channel, in any other mode they are discarded; INIT, and a change of ALGO
or MODE, load the initial value; a channel bound to an enabled ring takes no configuration; CRC_STAT reads and clears.

A value may be fed in pieces: bytes written to CRC_DATA one after another give what one write of them all gives (R363). -/
def Obligations.CrcCommands : Prop :=
  (∀ (dt : Nat) (n : Fin 16) (bs : Bytes) (v : BitVec 32) (s : State),
    let u := advance dt s
    let c := u.crcCh n.val
    let algo := field v.toNat 1 0
    let wanted := field v.toNat 5 4
    u.portOn = true →
    (c.mode = 1 → Does (.crcData dt n bs) s (setCrc n.val { c with val := crcFeed c.algorithm c.val bs } u)) ∧
    (c.mode ≠ 1 → Does (.crcData dt n bs) s u) ∧
    (u.crcFrozen c = true → Does (.crcCfgWrite dt n v) s u ∧ Does (.crcInit dt n v) s u) ∧
    (u.crcFrozen c = false → wanted < 2 →
      Does (.crcInit dt n v) s (setCrc n.val { c with
        algo := algo, mode := wanted, ring := field v.toNat 13 12, egress := bitOf v.toNat 14
        val := (CrcAlgo.ofCode algo).initial } u) ∧
      (bitOf v.toNat 16 = false → Does (.crcCfgWrite dt n v) s (setCrc n.val { c with
        algo := algo, mode := wanted, ring := field v.toNat 13 12, egress := bitOf v.toNat 14
        val := if algo ≠ c.algo ∨ wanted ≠ c.mode then (CrcAlgo.ofCode algo).initial else c.val } u))) ∧
    Does (.crcStatRead dt n) s (emit (.readData (some (le 4 (u.registerRead (0x030014 + 0x20 * n.val)))))
      (setCrc n.val { c with skips := 0, repeats := 0, mismatches := 0 } u))) ∧
  (∀ (a : CrcAlgo) (v : Nat) (xs ys : Bytes), crcFeed a v (xs ++ ys) = crcFeed a (crcFeed a v xs) ys)

/-! The Reserve: accession, the Reserve BAR and egress -/

/-- Accession (R91-R97): a posted chain whose buffers hold its bytes is taken, its container checked in steps 1 to 3, and its chain
waits for its result in ring order; a network container is taken when a unit is free for it, and a refusal stands in NET_RESULT;
a body that has been moved is verified, and the container commits or fails. A read that is unsuccessful, or has no completion within
COMPLETION_TIMEOUT, halts its ring: the container being read fails, or, with none, the next descriptor.

What verification finds (R94 step 5): the original's length, then its CRC-32C. -/
def Obligations.Accession : Prop :=
  (∀ (dt : Nat) (r : Fin 4) (e : Fin 4) (descs : List Desc) (bs : Bytes) (id : BitVec 32) (s : State),
    let u := advance dt s
    let x := u.accRing r.val
    let y := u.egrRing e.val
    let late := fun (ring : RingId) => u.readSince ring + msCk (u.val 0xA000 5) ≤ u.clk.core
    (u.accepts = true → x.enable = true → x.halted = false → u.mayMaster = true → descs.length ≤ x.posted →
      ∀ ds, takeChain false descs = (ds, some 0) → bs.length = sumN (ds.map (fun d => d.length.toNat)) → u.unitFor bs = true →
      u.crcBound false r.val = none →
      let q := takeContainer r.val bs 0 none none u
      Does (.containerStart dt (.ring r) descs bs) s (flushRing r.val (addChain r.val ⟨ds, headerId bs, q.1⟩ q.2))) ∧
    (u.accepts = true → x.enable = true → x.halted = false → u.mayMaster = true → descs.length ≤ x.posted →
      ∀ ds code, takeChain false descs = (ds, some code) → code ≠ 0 →
      Does (.containerStart dt (.ring r) descs bs) s (flushRing r.val (addChain r.val ⟨ds, 0, some code⟩ (haltAcc r.val code u)))) ∧
    (u.accepts = true → ∀ held, u.res.netHeld = some held → u.unitFor held = true →
      let q := takeContainer 4 held 0 none none { u with res := { u.res with netHeld := none } }
      (q.1 = none → Does (.containerStart dt .network descs bs) s q.2) ∧
      (∀ code, q.1 = some code → Does (.containerStart dt .network descs bs) s (setVal 0x6000 13 code q.2))) ∧
    (∀ f, u.res.flights.find? (fun f => f.id == id.toNat && f.moves) = some f → f.original = none →
      Does (.containerTransferDone dt id) s (failFlight f 0xAB040005 u)) ∧
    (∀ f orig, u.res.flights.find? (fun f => f.id == id.toNat && f.moves) = some f → f.original = some orig →
      f.compressed = false → f.badStream = none → f.verify orig = 0 → u.rangeGone f.offset f.length = false →
      Does (.containerTransferDone dt id) s
        (settleFlight { f with unit_ := none, passed := true } (passUnit (putFlight { f with unit_ := none, passed := true } u)))) ∧
    (∀ c, x.chains.reverse.find? (u.reading r.val) = some c →
      let t := chainResult r.val c.segId 0xAB04000A (noteReserve (haltAcc r.val 0xAB04000A (dropFlight c.segId u)))
      (late (.accession r) → Does (.completionTimeout dt (.accession r)) s t) ∧
      Does (.pcieCompletionUnsuccessful dt (.accession r)) s t) ∧
    (x.chains.reverse.find? (u.reading r.val) = none → x.enable = true → x.halted = false → x.posted ≠ 0 →
      let t := flushRing r.val (addChain r.val ⟨[unknownDesc u.free], 0, some 0xAB04000A⟩ (haltAcc r.val 0xAB04000A (draw u)))
      (late (.accession r) → Does (.completionTimeout dt (.accession r)) s t) ∧
      Does (.pcieCompletionUnsuccessful dt (.accession r)) s t) ∧
    (y.enable = true → y.halted = false → y.posted ≠ 0 →
      let t := haltEgress e.val 0xAB04000A [unknownDesc u.free] (draw u)
      (late (.egress e) → Does (.completionTimeout dt (.egress e)) s t) ∧
      Does (.pcieCompletionUnsuccessful dt (.egress e)) s t)) ∧
  (∀ (f : Flight) (bs : Bytes),
    (f.verify bs = 0 ↔ bs.length = f.length ∧ crc32c bs = f.crc) ∧
    (bs.length ≠ f.length → f.verify bs = 0xAB040006) ∧
    (bs.length = f.length → crc32c bs ≠ f.crc → f.verify bs = 0xAB040007))

/-- The Reserve BAR (R98, R344): a write inside an OPEN direct segment lands there, byte for byte, and any other is discarded
whole and counted (one that lies only partly inside: the model's choice, log entry 68); a read returns the Reserve, all-ones beyond CAPACITY, and a poisoned completion with its counter where a codeword is
uncorrectable. The memory, its other bytes and all else are as before. -/
def Obligations.ReserveBar : Prop :=
  ∀ (dt : Nat) (o : BitVec 30) (n : BitVec 12) (bs : Bytes) (s : State),
    let u := advance dt s
    let a := u.val 0x6000 5 + o.toNat
    let inside := fun (g : Seg) => g.direct && g.state == .opened && decide (g.offset ≤ a ∧ a + bs.length ≤ g.offset + g.length)
    u.portOn = true →
    (u.res.segs.any inside = true → u.mirrors = false → Does (.reserveBarWrite dt o bs) s (resWrite a bs u)) ∧
    (u.res.segs.any inside = false → Does (.reserveBarWrite dt o bs) s (bump 0x6000 14 32 u)) ∧
    ((u.res.capacity ≤ a ∨ u.poisoned a (min n.toNat (u.res.capacity - a)) = false) →
      Does (.reserveBarRead dt o n) s (emit (.readData (some ((List.range n.toNat).map
        (fun i => if a + i < u.res.capacity then u.reserveByte (a + i) else 0xFF)))) (draw u))) ∧
    (a < u.res.capacity → u.poisoned a (min n.toNat (u.res.capacity - a)) = true →
      Does (.reserveBarRead dt o n) s (emit (.readData none) (bump 0xA000 8 32 (bump 0xA000 9 32 u))))

/-- A write of the Reserve's memory stores its bytes at its address and no other byte changes: a byte read back is the one written
there, and outside the bytes written every address reads as before; the canonical form stands. -/
def Obligations.MemoryReadsBack : Prop :=
  ∀ (a : Nat) (bs : Bytes) (s : State),
    Memory.wf s.res.mem = true →
    Memory.wf (resWrite a bs s).res.mem = true ∧
    (∀ i, i < bs.length → Memory.byte (resWrite a bs s).res.mem (a + i) = bs.getD i 0) ∧
    (∀ k, (k < a ∨ a + bs.length ≤ k) → Memory.byte (resWrite a bs s).res.mem k = Memory.byte s.res.mem k)

/-- Egress (R103-R106, R338): a BUNDLE's job takes one of the two deflate units; the record at the front of a ring's backlog goes into
posted buffers that hold it; a Provenance export record goes to its ring once it is due; PROV_CTRL's REWIND moves the export
pointer back to the oldest record held. -/
def Obligations.EgressAndExport : Prop :=
  ∀ (dt : Nat) (k : Fin 16) (e : Fin 4) (r : Fin 2) (v : BitVec 32) (descs : List Desc) (s : State),
    let u := advance dt s
    (u.bundling k.val = true → u.res.deflating.length < 2 → k.val ∉ u.res.deflating → u.therm.fDie ≠ 0 →
      Does (.bundleUnitStart dt k) s { u with res := { u.res with deflating := u.res.deflating ++ [k.val] } }) ∧
    (∀ rec_ rest, (u.egr e.val).backlog = rec_ :: rest → (u.egrRing e.val).enable = true → (u.egrRing e.val).halted = false →
      u.mayMaster = true → descs.length ≤ (u.egrRing e.val).posted → u.crcBound true e.val = none →
      ∀ ds, takeBuffers rec_.bytes.length descs = (ds, some 0) →
      Does (.egressWrite dt e descs) s (recordSent e.val rec_ (passHead e.val ds.length
        (fillBuffers e.val rec_.kind (u.egr e.val).sequence rec_.lost (u.egrRing e.val).head true
          rec_.bytes ds u)))) ∧
    (u.exportDue r.val = true →
      let p := u.provRing r.val
      Does (.provenanceExport dt r) s (queueRecord 2 (u.exportRecord r.val)
        (setProvRing r.val { p with exported := p.exported + p.batch (u.ringCap r.val), skipped := 0 } u))) ∧
    (u.portOn = true →
      let w := setVal 0x1500 4 (setBit (u.val 0x1500 4) r.val (bitOf v.toNat 0)) u
      (w.provOldest r.val < (w.provRing r.val).exported →
        Does (.provenanceRewind dt r v) s
          (setProvRing r.val { w.provRing r.val with exported := w.provOldest r.val, waitFrom := 0 } w)) ∧
      ((w.provRing r.val).exported ≤ w.provOldest r.val → Does (.provenanceRewind dt r v) s w))

/-! Cameras -/

/-- Frames (R219-R225): on a port that runs, a Frame Start of a bound virtual channel begins a frame, a long packet of the context's
data type is a line of it, and Frame End ends it; any other packet is ignored and counted, and one with an uncorrectable header
counted as such; a header that needed a correction is counted first; a frame without its end within FRAME_TIMEOUT is discarded.

A line of a frame (R224, R225): with a slot held, its samples go to the row's place in the slot as the frame's own geometry has it, as many bytes as the row has, and
the flags tell of a bad CRC or a wrong length; the row count goes up. -/
def Obligations.CameraFrames : Prop :=
  (∀ (dt : Nat) (p vc : Fin 4) (c : Fin 16) (n : BitVec 16) (ty : Byte) (px : List (BitVec 12)) (ok corrected : Bool) (s : State),
    let u0 := advance dt s
    let u := if corrected then portCount p.val 8 u0 else u0
    let x := u.ctx c.val
    (u0.portRuns p.val = true → u.ctxFor p.val vc.val = some c.val →
      Does (.csiFrameStart dt p ⟨vc, corrected⟩ n) s (frameStart c.val n.toNat u) ∧
      (u.ctxVal c.val 4 = ty.toNat → x.incoming ≠ none →
        Does (.csiLongPacket dt p ⟨vc, corrected⟩ ty px ok) s (frameLine c.val px ok (if ok then u else portCount p.val 10 u))) ∧
      (u.ctxVal c.val 4 ≠ ty.toNat → Does (.csiLongPacket dt p ⟨vc, corrected⟩ ty px ok) s (portCount p.val 11 u)) ∧
      (x.incoming ≠ none → Does (.csiFrameEnd dt p ⟨vc, corrected⟩ n) s (frameEnd c.val n.toNat u)) ∧
      (x.incoming = none → Does (.csiFrameEnd dt p ⟨vc, corrected⟩ n) s (portCount p.val 11 u))) ∧
    (u0.portRuns p.val = true → u.ctxFor p.val vc.val = none →
      Does (.csiFrameStart dt p ⟨vc, corrected⟩ n) s (portCount p.val 11 u) ∧
      Does (.csiLongPacket dt p ⟨vc, corrected⟩ ty px ok) s (portCount p.val 11 u) ∧
      Does (.csiFrameEnd dt p ⟨vc, corrected⟩ n) s (portCount p.val 11 u)) ∧
    (u0.portRuns p.val = true →
      Does (.csiPacketDiscarded dt p .uncorrectable) s (portCount p.val 9 u0) ∧
      Does (.csiPacketDiscarded dt p (.ignored corrected)) s (portCount p.val 11 u)) ∧
    (u0.portRuns p.val = false → Does (.csiFrameStart dt p ⟨vc, corrected⟩ n) s u0 ∧ Does (.csiFrameEnd dt p ⟨vc, corrected⟩ n) s u0 ∧
      Does (.csiLongPacket dt p ⟨vc, corrected⟩ ty px ok) s u0) ∧
    (∀ i, (u0.ctx c.val).incoming = some i → i.startAt + msCk (u0.val 0x7100 6) ≤ u0.clk.core →
      Does (.cameraFrameTimeout dt c) s (offerExposure c.val (discardFrame c.val true u0)))) ∧
  (∀ (c k : Nat) (px : List (BitVec 12)) (i : Incoming) (s : State),
    let x := s.ctx c
    let y := x.slot k
    let w := y.w
    x.incoming = some i → i.slot = some k → i.lines < y.h → px.length = w →
    frameLine c px true s = resWrite (y.base + 2 * w * i.lines) (rowBytes w y.bits px)
      (setCtx c ({ x with incoming := some { i with lines := i.lines + 1 } }.setSlot k y) s) ∧
    (rowBytes w y.bits px).length = 2 * w ∧
    (∀ m, (m < y.base + 2 * w * i.lines ∨ y.base + 2 * w * (i.lines + 1) ≤ m) →
      Memory.wf s.res.mem = true → Memory.byte (frameLine c px true s).res.mem m = Memory.byte s.res.mem m))

/-- The pipeline and the CCI masters (R226, R230, R231, R244): the free pipeline takes the earliest full frame with the parameters as
they stand; at its end the frame's slot is free, or held, and its report is delivered; a transaction's end goes to whom the bus
works for, a NACK, a bus fault or a stretched clock with its status. -/
def Obligations.PipelineAndCci : Prop :=
  ∀ (dt : Nat) (p : Fin 4) (c k : Nat) (result : CciResult) (s : State),
    let u := advance dt s
    let x := u.ctx c
    let y := x.slot k
    (u.pipe.active = none → u.sys.mode ≠ .boot → u.sys.mode ≠ .test → u.nextSlot = some (c, k) →
      let z := { y with state := FSlotState.processing, tags := { y.tags with pipeVersion := x.pipeVersion } }
      Does (.pipelineFrameStart dt) s (setCtx c (x.setSlot k z)
        { u with pipe := { u.pipe with active := some (c, k), set_ := some (u.pipeSet c), frame := z, takenAt := u.clk.core } })) ∧
    (∀ set_, u.pipe.active = some (c, k) → u.pipe.set_ = some set_ →
      let z := u.pipe.frame
      u.pipe.takenAt + (2400 + z.w * z.h) ≤ u.clk.core →
      let r := u.report c z set_
      let v := setCtx c { (x.setSlot k { y with state := if x.freeze then .held else .free }) with freeze := false }
        (ctxCount c 0x1C { u with pipe := { u.pipe with
          active := none, set_ := none, total := wrapAdd 32 u.pipe.total 1
          recent := (u.clk.core, z.w * z.h) :: u.pipe.recent.filter (fun q => decide (u.clk.core < q.1 + sCk 1)) } })
      Does (.pipelineFrameDone dt) s (feedPhoto c r (deliverReport c z.tags.frame r v))) ∧
    ((u.port p.val).job = some (.exposure c) →
      Does (.cciTransactionDone dt p result) s (exposureEnded p.val c (cciStatus result).1 u) ∧
      Does (.cciStretchTimeout dt p) s (exposureEnded p.val c 4 u)) ∧
    ((u.port p.val).job = some .raw →
      Does (.cciTransactionDone dt p result) s (rawEnded p.val (cciStatus result).1 (cciStatus result).2 u) ∧
      Does (.cciStretchTimeout dt p) s (rawEnded p.val 4 [] u)) ∧
    (cciStatus .nack).1 = 3 ∧ (cciStatus .busFault).1 = 5 ∧ (∀ d, cciStatus (.done d) = (2, d))

/-! The colour loop, the drop-gate sweep and the lamps -/

/-- The colour loop (R252-R256). A report delivered is taken, oldest first: by a unit in control gallery by gallery, by another
for nothing. Of a loaded update every changed entry is mirrored and edited into the spare, and the swap is armed for LEAD_LINES
ahead; where the spare is not READY the update is dropped.

A result of a report is used only under every condition of R253; one that fails a condition is counted stale and changes
nothing but that count, so that no table changes by it. -/
def Obligations.LoopEvents : Prop :=
  (∀ (dt : Nat) (g : Fin 8) (s : State),
    let u := advance dt s
    (∀ d rest, u.reports = d :: rest →
      Does (.loopReport dt) s
        (if u.inControl then forEach (List.range 8) (takeResults d) { u with reports := rest } else { u with reports := rest })) ∧
    (u.reports = [] → Does (.loopReport dt) s u) ∧
    ((u.loop g.val).update = .waiting →
      ((u.gal g.val).noz.spareState = .ready → u.inControl = true →
        Does (.loopUpdate dt g) s
          (let v := mirrorEntry (0x3021 + 0x100 * g.val) 4 (le 4 (u.loopSwapLine g.val)) (editSpare g.val u)
           raise 0x0A03 (0x0100 + g.val)
            ([BitVec.ofNat 8 g.val, 0] ++ le 2 (clampN 0xFFFF (u.loop g.val).changes.length) ++ le 4 (u.loopSwapLine g.val))
            (setLoop g.val { u.loop g.val with update := .armed }
              (setVal (0x7810 + g.val) 6 (u.loopSwapLine g.val)
                (bump (0x7810 + g.val) 2 32 (armSwap g.val (u.loopSwapLine g.val) 1 v)))))) ∧
      ((u.gal g.val).noz.spareState ≠ .ready →
        Does (.loopUpdate dt g) s (setLoop g.val { u.loop g.val with update := .idle } u)))) ∧
  (∀ (d : Delivered) (x : Ladder) (w : LoopWork) (s : State),
    let sound := x.usable.filter (fun p => entState ((s.gal x.gal).noz.active.ent p.1) != 2)
    s.flag (0x7810 + x.gal) 1 = false ∨ s.inPrint x.gal = false ∨ leAt d.bytes 6 2 &&& 0x3D ≠ 0 ∨
      x.swaps ≠ (s.gal x.gal).noz.swapCount ∨ (s.loop x.gal).update ≠ .idle ∨ sound.length < s.val 0x7800 12 →
    takeResult d x (w, s) = (w, bump (0x7810 + x.gal) 4 32 s))

/-- The drop-gate sweep (R247-R250). A due slot sends each running gallery its shot of the next nozzle and notes the shots; a
pulse is given to the shot whose window it meets, and is stray where there is none, with no sweep as with one; a shot is decided
DG_LATE after its fire-at; a level held for 1 ms, from before the sweep or from an edge within it, is stuck and fails the gallery
with cause 4. -/
def Obligations.SweepEvents : Prop :=
  ∀ (dt : Nat) (g : Fin 8) (w : Sweep) (s : State),
    let u := advance dt s
    let x := u.sweepGal g.val
    let at' := u.rawTime (u.val 0x7C00 7)
    let v := { u with dgateAt := tset u.dgateAt g.val at' }
    (u.pulseTaken g.val (u.timeAt at') = none →
      Does (.dgatePulse dt g) s (setSweepGal g.val { x with pulses := true, stray := wrapAdd 32 x.stray 1 } v)) ∧
    (u.sweep = some w →
    (∀ n, u.nextNozzle w.mask w.nextIndex = some n → u.slotDue w = true →
      Does (.sweepSlot dt) s
        (forEach ((u.sweeping8 w).flatMap lanesOf) (sendShot w w.nextSlot n (w.fireAt w.nextSlot))
          { u with sweep := some { w with
              nextSlot := w.nextSlot + 1, nextIndex := n + 1
              shots := w.shots ++ ((u.sweeping8 w).filter (fun h => u.hasNozzle h n)).map
                (fun h => u.shotOf w h w.nextSlot n (w.fireAt w.nextSlot)) } })) ∧
    ((u.sweeping8 w).contains g.val = true →
      (∀ hs, giveTo (u.dgTime 2) (u.dgTime 4) (u.timeAt at') g.val w.shots = some hs →
        Does (.dgatePulse dt g) s (setSweepGal g.val { x with pulses := true } { v with sweep := some { w with shots := hs } })) ∧
      (giveTo (u.dgTime 2) (u.dgTime 4) (u.timeAt at') g.val w.shots = none →
        u.pulseTaken g.val (u.timeAt at') = none) ∧
      (thas u.dgateAt g.val = false ∨ tget 0 u.dgateAt g.val + msCk 1 < u.clk.core →
        Does (.dgateStuck dt g) s (failGallery g.val 4 u))) ∧
    ((u.sweeping8 w).contains g.val = false → u.pulseTaken g.val (u.timeAt at') = none) ∧
    (∀ h hs, takeFirst (fun h => h.gal == g.val && decide (h.fire + u.dgTime 4 ≤ (u.now : Int))) w.shots = some (h, hs) →
      x.state = 1 → let y := x.decide h.nozzle (h.verdict (u.dgTime 3))
      let t := setSweepGal g.val y { u with sweep := some { w with shots := hs } }
      Does (.shotDecide dt g) s (if 1024 ≤ y.batch.length then endBatch g.val t else t)))

/-- A lamp chain (R260-R263, R266-R269). A due refresh computes every lamp of the chain's drivers, sends the frames with the last
driver's first, and moves SEQ on; the LAT after it loads them and checks every driver's status. Before it is due neither
changes anything. -/
def Obligations.LampChains : Prop :=
  ∀ (dt : Nat) (ch : Fin 4) (status : List Bytes) (s : State),
    let u := advance dt s
    let x := u.chain ch.val
    let drivers := List.range (u.chainVal ch.val 3)
    (u.lampDue ch.val = true →
      let v := draw (forEach (drivers.flatMap (lampsOf ch.val)) (refreshLamp ch.val x.closing) u)
      let frames := drivers.map (fun d => v.lampFrame ch.val d x.seq)
      Does (.lampRefresh dt ch) s (forEach drivers.reverse (fun d s => emit (.lamp ch.val d (frames.getD d [])) s)
        (setChain ch.val { x with
          state := if x.state = 2 then 2 else 1, seq := (x.seq + 1) % 256, prev := x.sent, sent := frames
          refreshAt := u.clk.core, shifting := true, last := x.closing, closing := false } v))) ∧
    (u.lampDue ch.val = false → Does (.lampRefresh dt ch) s u) ∧
    (x.shifting = true → u.clk.core < x.refreshAt + u.shiftCk ch.val → Does (.lampLatch dt ch status) s u) ∧
    (x.shifting = true → x.refreshAt + u.shiftCk ch.val ≤ u.clk.core → x.last = false →
      Does (.lampLatch dt ch status) s
        (forEach drivers (fun d s => checkDriver ch.val d (x.prev.getD d []) (status.getD d []) s)
          (emit (.lamp ch.val 255 []) (setChain ch.val { x with shifting := false } u))))

/-! The redundant pair -/

/-- Control (R278, R288-R290). A change of PEER_ACTIVE_N is taken; its fall lets the STANDBY take over, and a SYNCING, STALE
or DEGRADED unit only raises an event. Unit B of a pair enters ACTIVE after ARBITRATION_WAIT and
trains its lanes. A gallery's lane goes back to RUN at
the takeover's line while the lane is still in SHADOW. A takeover whose tick has not come within 1 ms plans its lines anew.

A handover (R291): a STANDBY takes M_h and confirms it; another role refuses it; YIELDED gives the old active's last lines
up; each lane in SHADOW is taken over at its gallery's line, in the next reign. -/
def Obligations.ControlRoles : Prop :=
  (∀ (dt : Nat) (asserted : Bool) (l : Fin 32) (s : State),
    let u := advance dt s
    let p := { u with pair := { u.pair with peerActive := asserted } }
    (u.pair.peerActive = asserted → Does (.peerActiveChange dt asserted) s u) ∧
    (u.pair.peerActive = true → asserted = false →
      (u.pair.role = .standby → u.pair.hand = none → Does (.peerActiveChange dt asserted) s (takeOver p)) ∧
      (u.pair.role = .syncing ∨ u.pair.role = .stale ∨ u.pair.role = .degraded →
        Does (.peerActiveChange dt asserted) s (raise 0x0C08 0 (le 1 u.pair.role.code) p)) ∧
      (u.pair.role = .active → Does (.peerActiveChange dt asserted) s p)) ∧
    (u.pair.peerActive = false → asserted = true →
      (u.pair.role = .arbitrating → Does (.peerActiveChange dt asserted) s (enterSyncing p)) ∧
      (u.pair.role = .active → u.pair.hand = none → u.pair.activeN = true → Does (.peerActiveChange dt asserted) s (contend p))) ∧
    (u.pair.role = .arbitrating → u.pair.peerActive = false → u.pair.arbitrateAt + msCk (u.val 0x1200 9) ≤ u.clk.core →
      Does (.arbitrationTimeout dt) s (trainShadow (fun _ => true) (enterActive u))) ∧
    (∀ g t, u.pair.takes.find? (fun q => q.1 == l.val / 4) = some (g, t) → u.pair.role = .active → bitOf t.lanes (l.val % 4) = true →
      t.due ≤ u.now →
      let v := if (u.lane l.val).train.state == .shadow then takeLane l.val t.n1 u else u
      Does (.takeoverLaneSend dt l) s (finishTakes { v with pair := { v.pair with
        takes := tset v.pair.takes (l.val / 4) { t with lanes := setBit t.lanes (l.val % 4) false } } })) ∧
    (u.pair.role = .active → u.pair.takeAt + usT 1000 ≤ u.now → u.lc.lastTickAt < u.pair.takeAt →
      Does (.takeoverTickTimeout dt) s { u with pair := { u.pair with takes := u.pair.takes.map (fun q =>
        (q.1, { u.planTake q.1 u.now 0 false with lanes := q.2.lanes, held := q.2.held })) } })) ∧
  (∀ (dt : Nat) (mh : BitVec 32) (l : Fin 32) (h : HandPlan) (s : State),
    let u := advance dt s
    (u.linkState ≠ 0 → u.pair.role = .standby →
      Does (.handoverReceived dt mh) s (emit (.pair (.confirm mh.toNat 0)) { u with pair := { u.pair with
        relinquished := none
        hand := some { mh := mh.toNat, ny := (List.range 8).map (fun g => (g, u.lastOldLine g mh.toNat)), taking := true, lanesDone := 0
                       confirmed := false, yieldedAt := none, slot := 0 } } })) ∧
    (u.linkState ≠ 0 → u.pair.role ≠ .standby →
      Does (.handoverReceived dt mh) s (emit (.pair (.confirm mh.toNat 0xAB0C0002)) u)) ∧
    (u.linkState ≠ 0 → u.pair.hand = some h → h.taking = true →
      Does (.yieldedReceived dt) s { u with pair := { u.pair with hand := some { h with yieldedAt := some u.now } } }) ∧
    (u.pair.hand = some h → h.taking = true → (u.lane l.val).peerRun = true → (u.lane l.val).train.state = .shadow →
      u.handDue h (l.val / 4) = true →
      Does (.handoverTakeoverSend dt l) s (closeHand (takeLane l.val ((u.handLine h (l.val / 4) + u.step (l.val / 4)) % 4294967296)
        { u with pair := { u.pair with
            reign := u.newReign, hand := some { h with confirmed := true, lanesDone := setBit h.lanesDone l.val true } } }))))

/-- Heartbeats (R279, R281): one on a lane in RUN every 10 µs tells role, reign, mode, LAST_TICK and the last sequence
confirmed; 30 µs without one raises HEARTBEAT_LOST, once; one received is taken whole; PEER_LINK_TIMEOUT with the link down makes a
standby STALE with cause 1. A peer that resynchronises and shows that no image has reached it gets it again after MIRROR_TIMEOUT
(the model's choice, log entry 67). -/
def Obligations.Heartbeats : Prop :=
  ∀ (dt : Nat) (i : Fin 2) (role mode : Byte) (reign : BitVec 16) (tick confirmed : BitVec 32) (s : State),
    let u := advance dt s
    let x := u.lane (32 + i.val)
    (u.running (32 + i.val) = true → x.beatAt + usCk 10 ≤ u.clk.core →
      Does (.heartbeatSend dt i) s (emit (.pair (.heartbeat i.val u.pair.role.code u.pair.reign u.sys.mode.code u.lc.lastTick
        u.pair.confirmed)) (setLane (32 + i.val) { x with beatAt := u.clk.core } u))) ∧
    (u.pair.peerRole ≠ 0xFF → u.pair.heartbeatLost = false → u.pair.heartbeatAt + usCk 30 ≤ u.clk.core →
      Does (.heartbeatLost dt) s (raise 0x0C03 0 [BitVec.ofNat 8 u.pair.role.code, BitVec.ofNat 8 u.linkState]
        { u with pair := { u.pair with heartbeatLost := true } })) ∧
    (u.linkState ≠ 0 → u.pair.role = .active → u.pair.peerRole = role.toNat → role.toNat ≠ 2 →
      let v := { u with pair := { u.pair with
        peerReign := reign.toNat, peerMode := mode.toNat, peerTick := tick.toNat, peerConfirmed := confirmed.toNat
        heartbeatAt := u.clk.core, heartbeatLost := false } }
      Does (.heartbeatReceived dt role reign mode tick confirmed) s
        (if (role.toNat = 3 ∨ role.toNat = 5) ∧ v.imageDue = true then sendImage v else v)) ∧
    (u.linkState ≠ 0 → u.pair.role = .standby → u.pair.hand = none → role.toNat = 2 →
      Does (.heartbeatReceived dt role reign mode tick confirmed) s { u with pair := { u.pair with
        peerRole := 2, peerReign := reign.toNat, peerMode := mode.toNat, peerTick := tick.toNat, peerConfirmed := confirmed.toNat
        heartbeatAt := u.clk.core, heartbeatLost := false, reign := reign.toNat, relinquished := none } }) ∧
    (∀ t, u.pair.downAt = some t → t + msCk (u.val 0x1200 8) ≤ u.clk.core →
      Does (.pairLinkDownTimeout dt) s (becomeStale 1 u))

/-- Mirroring (R280, R281, R283, R293, R327). A mirrored write in sequence is served as the active served it; one out of sequence makes the standby
STALE with cause 0. A mirrored step in sequence moves this unit's clock by the same amount to the same epoch, once. A segment in sequence is taken; a confirmation releases the write held for it; MIRROR_TIMEOUT makes the peer
stale, with cause 3, and releases what is held. Image data is taken only while RESYNC runs, by a unit that is SYNCING or STALE. -/
def Obligations.Mirroring : Prop :=
  ∀ (dt : Nat) (seq result : BitVec 32) (body : MirrorBody) (mailbox : Bool) (index : BitVec 16) (sub : Byte) (data : Bytes) (amount : Int)
    (epoch : Fin 16) (part : SegmentPart) (item : ResyncItem) (s : State),
    let u := advance dt s
    let next := { u with pair := { u.pair with mirrorNext := some (wrapAdd 32 seq.toNat 1) } }
    (u.linkState ≠ 0 → u.pair.mirrorNext = some seq.toNat →
      ((index.toNat = 0x1100 ∧ sub.toNat = 7) = False →
        Does (.mirrorReceived dt seq (.write mailbox index sub data)) s (serveNow ⟨.peer seq.toNat, 2, index.toNat, sub.toNat,
          next.converted index.toNat sub.toNat data⟩ next)) ∧
      Does (.mirrorReceived dt seq (.step amount epoch)) s
        (confirm seq.toNat 0 (if next.clk.epoch = epoch.val then next else stepTo amount epoch.val next))) ∧
    (u.linkState ≠ 0 → ∀ m, u.pair.mirrorNext = some m → m ≠ seq.toNat →
      Does (.mirrorReceived dt seq body) s (becomeStale 0 u) ∧ Does (.segmentReceived dt seq part) s (becomeStale 0 u)) ∧
    (u.linkState ≠ 0 → u.pair.mirrorNext = some seq.toNat →
      Does (.segmentReceived dt seq part) s (match part with
        | .container bs => takeMirrored seq.toNat bs next
        | .direct id o bs last => if last then directEnds seq.toNat id.toNat next else directWrite id.toNat o bs next)) ∧
    (u.linkState = 0 → Does (.mirrorReceived dt seq body) s u ∧ Does (.confirmReceived dt seq result) s u) ∧
    (let v := { u with pair := { u.pair with peerConfirmed := seq.toNat } }
     u.linkState ≠ 0 → ∀ t since, u.cat.mirror = some (seq.toNat, t, since) →
      Does (.confirmReceived dt seq result) s (confirmWrite t result.toNat v)) ∧
    (u.mirrorLate = true → u.cat.mirror = none →
      Does (.mirrorTimeout dt) s (releaseDirects (releaseFlights
        (raise 0x0C05 0 (le 1 3) { u with pair := { u.pair with peerStale := true } })))) ∧
    (u.mirrorLate = false → Does (.mirrorTimeout dt) s u) ∧
    (u.linkState ≠ 0 → u.pair.role = .syncing ∨ u.pair.role = .stale → (u.opOf 0x1200 11).isSome = true →
      Does (.resyncDataReceived dt item) s (takeItem item u))

/-- What the active sends its standby (R280, R283, R285, R287, R289): reports wait for the loop; bay state is taken by a unit not in control, and
a decision and a digest by a STANDBY; RELINQUISH is kept for the takeover; a notice of a later reign makes an ACTIVE give up with
cause 8.

Alignment and time on the pair link (R284): the active names an instant at least 1 ms ahead and both units take
their values at it; a follower of the active's time answers each TIME_SYNC, and one with a delay sets its clock. -/
def Obligations.StandbyState : Prop :=
  (∀ (dt : Nat) (report : Bytes) (b : Fin 512) (st : BayState) (q : Fin 64) (inst line crc : BitVec 32) (starved : Bool) (g : Fin 8)
    (cause : Byte) (lines : List (BitVec 32)) (reign : BitVec 16) (s : State),
    let u := advance dt s
    u.linkState ≠ 0 →
    Does (.reportReceived dt report) s
      { u with reports := u.reports ++ [⟨if u.inControl then report else reportMoved u.pair.delta report, false, []⟩] } ∧
    (u.inControl = false → Does (.bayStateReceived dt b st) s (takeBay b.val st u)) ∧
    (u.inControl = true → Does (.bayStateReceived dt b st) s u) ∧
    (u.pair.role = .standby → starved = false →
      Does (.decisionReceived dt q inst starved) s
        (setQueue q.val { u.queue q.val with decided := tset (u.queue q.val).decided inst.toNat false } u)) ∧
    (u.pair.role = .standby → (u.gal g.val).find line.toNat = none →
      Does (.digestReceived dt g line crc) s { u with pair := { u.pair with
        digests := ⟨g.val, line.toNat, crc.toNat⟩ :: u.pair.digests.filter (fun d => !(d.gal == g.val && d.line == line.toNat)) } }) ∧
    Does (.relinquishReceived dt cause lines) s
      { u with pair := { u.pair with relinquished := some (cause.toNat, lines.map (·.toNat)) } } ∧
    (u.pair.role = .active → 0 < sgn 16 (usg 16 ((reign.toNat : Int) - u.pair.reign)) →
      Does (.takeoverNoticeReceived dt reign) s (giveUp 8 u)) ∧
    (u.pair.role ≠ .active → Does (.takeoverNoticeReceived dt reign) s u)) ∧
  (∀ (dt ta t1 : Nat) (d : Nat) (epoch : Fin 16) (v : AlignValues) (s : State),
    let u := advance dt s
    (u.linkState ≠ 0 → u.followsTime = true →
      Does (.alignReceived dt ⟨ta, none⟩) s { u with pair := { u.pair with alignDue := some ta } } ∧
      Does (.alignReceived dt ⟨ta, some v⟩) s (takeAlign ta v (doAlignPoint u)) ∧
      Does (.pairLinkTimeSyncReceived dt t1 none epoch) s (emit (.pair (.delayResp u.now u.now)) u) ∧
      Does (.pairLinkTimeSyncReceived dt t1 (some d) epoch) s
        (takeOffset ((u.now : Int) - t1 - d) epoch.val (emit (.pair (.delayResp u.now u.now)) u))) ∧
    (u.linkState = 0 ∨ u.followsTime = false →
      Does (.alignReceived dt ⟨ta, none⟩) s u ∧ Does (.pairLinkTimeSyncReceived dt t1 none epoch) s u) ∧
    (u.alignNow = true →
      let at' := u.now + usT 1000 + (Config.freeValue u.free).toNat
      Does (.alignSend dt) s
        (emit (.pair (.align ⟨at', none⟩)) (draw { u with pair := { u.pair with alignAt := some u.clk.core, alignDue := some at' } }))) ∧
    (u.alignNow = false → Does (.alignSend dt) s u) ∧
    (let k := u.clk.core - ((u.now - ta) * 6 + 327679) / 327680
     u.pair.alignDue = some ta → ta ≤ u.now → k + u.encCfg 0 2 + 2 ≤ u.clk.core → u.pair.role ≠ .active →
      Does (.alignPoint dt) s
        (draw { u with pair := { u.pair with alignDue := none, alignSnap := some (ta, u.alignValues k), alignHeld := none } })))

/-! The network interface -/

/-- The link and ARP (R298, R301, R304). A new state of a link is shown and told; an ARP request for an own address is answered;
a request unanswered is sent again at 250 ms steps, three times in all, and given up after 1 s; an entry ARP_AGE old is removed; the
shared address is announced again.

Frames filtered, echoes and launches (R298, R299, R302, R332, R333): a frame too long, with a bad FCS or too short is counted and discarded;
an echo within its rate is answered with its identifier, sequence number and data; a timed frame leaves once its launch time has come, and one later than SLACK is
dropped. -/
def Obligations.Network : Prop :=
  (∀ (dt : Nat) (p : Fin 2) (link : Fin 5) (ip : BitVec 32) (a : ArpFrame) (s : State),
    let u := advance dt s
    (u.host.ready = true → linkFits (u.netCfg p.val 1) link.val = true → link.val = 0 →
      Does (.netLink dt p link) s (netLink p.val 0 u)) ∧
    (u.host.ready = true → linkFits (u.netCfg p.val 1) link.val = true → bitOf u.sys.clocksBad 3 = false →
      Does (.netLink dt p link) s (netLink p.val link.val u)) ∧
    (linkFits (u.netCfg p.val 1) link.val = false → Does (.netLink dt p link) s u) ∧
    (u.host.ready = true → u.linkOf p.val ≠ 0 → a.request = true →
      let v := netCount p.val 2 64 u
      let r := rateStep v.net.arpRate v.net.arpRateAt p.val v.clk.core 1000
      let w := { v with net := { v.net with arpRate := r.2.1, arpRateAt := r.2.2 } }
      r.1 = true → (w.ownIps p.val).contains a.senderIp.toNat = false →
      (w.ownIps p.val).contains a.targetIp.toNat = true →
      Does (.arpReceived dt p a) s (sendNow p.val (.arpReply a.senderMac.toNat a.senderIp.toNat a.targetIp.toNat) w)) ∧
    (∀ w, u.net.arpWait.find? (fun w => w.port == p.val && w.ip == ip.toNat) = some w →
      (w.sent < 3 → w.since + msCk (250 * w.sent) ≤ u.clk.core →
        Does (.arpRetry dt p ip) s (sendArp p.val ip.toNat { u with net := { u.net with arpWait := u.net.arpWait.map (fun v =>
          if v.port == p.val && v.ip == ip.toNat then { v with sent := v.sent + 1 } else v) } })) ∧
      (w.since + sCk 1 ≤ u.clk.core →
        Does (.arpUnresolved dt p ip) s (raiseLimited (sCk 1) 0x0D07 p.val 0 (le 1 p.val ++ zeros 3 ++ be 4 ip.toNat)
          (netCount p.val 9 32 { u with net := { u.net with
            arpWait := u.net.arpWait.filter (fun v => !(v.port == p.val && v.ip == ip.toNat)) } })))) ∧
    (∀ e, u.net.arp.find? (fun e => e.port == p.val && e.ip == ip.toNat) = some e → e.at_ + sCk (u.netCfg p.val 5) ≤ u.clk.core →
      Does (.arpAgeExpiry dt p ip) s { u with net := { u.net with
        arp := u.net.arp.filter (fun x => !(x.port == p.val && x.ip == ip.toNat)) } }) ∧
    (u.net.sharedLeft ≠ 0 → u.net.sharedAt + msCk (if u.net.sharedLeft = 2 then 100 else 300) ≤ u.clk.core → u.pair.role = .active →
      Does (.sharedIpArp dt) s (announceShared { u with net := { u.net with sharedLeft := u.net.sharedLeft - 1 } }))) ∧
  (∀ (dt : Nat) (p : Fin 2) (q : Fin 8) (bs data : Bytes) (echo : BitVec 32) (src : NetSrc) (s : State),
    let u := advance dt s
    (u.host.ready = true → u.linkOf p.val ≠ 0 →
      (bs.length ≤ 1518 → Does (.ethernetFrameFiltered dt p bs false) s (netCount p.val 4 32 u)) ∧
      (bs.length < 64 → Does (.ethernetFrameFiltered dt p bs true) s u) ∧
      (1522 < bs.length → Does (.ethernetFrameFiltered dt p bs true) s (netCount p.val 5 32 u))) ∧
    (u.linkOf p.val = 0 → Does (.ethernetFrameFiltered dt p bs true) s u) ∧
    (u.reaches src = true → data.length ≤ 1472 →
      let v := netCount src.port.val 2 64 u
      let r := rateStep v.net.icmpRate v.net.icmpRateAt src.port.val v.clk.core 100
      let w := { v with net := { v.net with icmpRate := r.2.1, icmpRateAt := r.2.2 } }
      r.1 = true →
      Does (.icmpEcho dt src ⟨echo, data⟩) s (netCount src.port.val 8 32
        (sendNow src.port.val (.icmp (w.reachedIp src) src.ip.toNat src.mac.toNat echo.toNat data) w))) ∧
    (∀ f rest t, u.txq p.val q.val = f :: rest → f.launch = some t →
      (u.linkOf p.val ≠ 0 → t ≤ u.now → u.now ≤ t + u.slack p.val q.val → u.higherDue p.val q.val = false →
        Does (.frameLaunch dt p q) s (pumpAll p.val (leaveFrame p.val q.val f (setTxq p.val q.val rest u)))) ∧
      (t + u.slack p.val q.val < u.now →
        Does (.launchDropped dt p q) s (pumpAll p.val (dropLaunch p.val q.val f (setTxq p.val q.val rest u))))))

/-- The session protocol (R305-R312, R314). A datagram to port 45510 draws a token of its source. CHALLENGE is answered with a fresh nonce;
OPEN with the key, the nonce and the TAG right opens a session in the lowest free slot; REQUEST and CLOSE of a session with its TAG
right are taken; IDENT_READ needs no session, and takes its turn with the other transactions (R36). A message with no valid form is
counted and dropped, and one that finds its port's queue of 64 full counts in QUEUE_DROPS.

What ends by time (R308, R309, R315): a session idle for 30 s closes with reason 1; a nonce lives 5 s; a lockout 10 s; failures count
for 60 s. -/
def Obligations.Protocol : Prop :=
  (∀ (dt : Nat) (src : NetSrc) (msg : Bytes) (s : State),
    let u := advance dt s
    let m := msgOf msg
    let key := u.sourceKey src.ip.toNat
    let x := (u.source key).refill u.clk.core
    let v := setSource { x with tokens := x.tokens - 600000 } (netCount src.port.val 2 64 u)
    let signed := fun (k : Bytes) => (hmac k (msg.take (32 + m.body.length))).take 16
    u.reaches src = true → 600000 ≤ x.tokens → x.lockedAt = none →
    (wellFormed msg = false →
      Does (.malformedMessage dt src msg) s (netCount src.port.val 7 32 v) ∧
      Does (.challenge dt src msg) s (netCount src.port.val 7 32 v)) ∧
    (wellFormed msg = true → 64 ≤ v.queued src.port.val →
      Does (.challenge dt src msg) s (netCount src.port.val 10 32 v) ∧
      Does (.request dt src msg) s (netCount src.port.val 10 32 v)) ∧
    (wellFormed msg = true → v.queued src.port.val < 64 → m.kind = 1 →
      let n := (Config.random v.free).toNat
      let w := draw { v with net := { v.net with nonces := addNonce ⟨src.port.val, src.ip.toNat, n, v.clk.core⟩ v.net.nonces } }
      Does (.challenge dt src msg) s (replyUdp src (w.message 0x81 0 0 (le 16 n)) w)) ∧
    (wellFormed msg = true → v.queued src.port.val < 64 → m.kind = 2 → v.repeated src msg = none → v.net.keySet = true → m.gen = v.net.keyGen →
      ∀ n, v.nonceOf src (ofLe (m.body.take 16)) = some n → m.tag = signed v.net.key →
      ∀ k, sessionIds.find? (fun k => !thas v.net.sessions k) = some k →
      Does (.openSession dt src msg) s (openIn k src msg m n v)) ∧
    (∀ k y, v.boundSession src m.session = some (k, y) → m.tag = signed y.key → m.gen = v.net.keyGen →
      wellFormed msg = true → v.queued src.port.val < 64 →
      (m.kind = 3 → serial32 m.seq y.lastSeq = 1 → y.unanswered < 4 →
        Does (.request dt src msg) s (acceptRequest k src m y v)) ∧
      (m.kind = 4 →
        Does (.closeRequest dt src msg) s (closeSession k 0 (replyUdp src (tagged y.key (v.message 0x84 y.id 0 [])) v)))) ∧
    (wellFormed msg = true → v.queued src.port.val < 64 → m.kind = 6 → m.session = 0 →
      Does (.identRead dt src msg) s (serve (transOf (.ident src) m.body) v))) ∧
  (∀ (dt : Nat) (p : Fin 2) (k : Fin 8) (ip : BitVec 32) (s : State),
    let u := advance dt s
    let x := u.source (u.sourceKey ip.toNat)
    (u.net.sessions.any (fun q => q.1 == k.val && decide (q.2.lastMsg + sCk 30 ≤ u.clk.core)) = true →
      Does (.sessionIdleTimeout dt k) s (closeSession k.val 1 u)) ∧
    (u.net.sessions.any (fun q => q.1 == k.val && decide (q.2.lastMsg + sCk 30 ≤ u.clk.core)) = false →
      Does (.sessionIdleTimeout dt k) s u) ∧
    Does (.nonceExpiry dt p) s { u with net := { u.net with
      nonces := u.net.nonces.filter (fun n => n.port != p.val || decide (u.clk.core < n.at_ + sCk 5)) } } ∧
    (∀ t, x.lockedAt = some t → t + sCk 10 ≤ u.clk.core →
      Does (.lockoutEnd dt ip) s (setSource { x with lockedAt := none, fails := [] } u)) ∧
    (∀ t, x.fails.head? = some t → t + sCk 60 ≤ u.clk.core →
      Does (.authCountExpiry dt ip) s (setSource { x with fails := [] } u)))

/-- Publications and event push (R317, R318): an enabled publication sends its next sequence at its launch time; the event
backlog goes out when 44 records wait or PUSH_INTERVAL has passed, at most 44 in a datagram. -/
def Obligations.PushedData : Prop :=
  ∀ (dt : Nat) (p : Fin 16) (s : State),
    let u := advance dt s
    (∀ t, u.flag (0x1610 + p.val) 1 = true → u.host.ready = true → u.pubLaunch p.val = some t →
      u.flag (0x1610 + p.val) 7 = false →
      let seq := wrapAdd 32 (tget 0 u.net.pubSeq p.val) 1
      let d := destOf (u.val (0x1610 + p.val) 2)
      Does (.publicationSample dt p) s
        (sendUdp (d.1 % 2) (u.val (0x1610 + p.val) 5) (some t) d.2.2 d.2.1
          (u.pubTagged (u.message 0x90 p.val seq (u.pubBody p.val))) (some (p.val, seq))
          (draw { u with net := { u.net with pubLast := tset u.net.pubLast p.val t, pubSeq := tset u.net.pubSeq p.val seq } }))) ∧
    (u.flag (0x1610 + p.val) 1 = false → Does (.publicationSample dt p) s u) ∧
    (u.flag 0x1600 1 = true → 44 ≤ u.prov.backlog.length →
      let b := u.prov.backlog
      let seq := wrapAdd 32 u.prov.pushSeq 1
      let d := destOf (u.val 0x1600 2)
      let body := le 2 (b.take 44).length ++ [BitVec.ofNat 8 (b2n u.prov.dropped), 0] ++ le 4 (u.val 0x1600 6) ++
        (b.take 44).flatMap Rec.bytes
      Does (.eventPushSend dt) s
        (draw (sendUdp (d.1 % 2) (u.val 0x1600 5) none d.2.2 d.2.1 (u.pubTagged (u.message 0x91 16 seq body)) none
          { u with prov := { u.prov with backlog := b.drop 44, backlogAt := u.clk.core, dropped := false, pushSeq := seq } }))) ∧
    (u.flag 0x1600 1 = false → Does (.eventPushSend dt) s u)

/-! Device time -/

/-- The PTP port (R326, R328-R331). A message of it counts as a frame received. A Sync gives the offset its receipt time, the path delay and the asymmetry make; a Delay_Resp gives the
path delay; a port in MASTER sends Sync, Announce and Delay_Resp; a port that follows sends Delay_Req; an Announce is taken as a
foreign master's; without one for its timeout the state is decided anew; a pending step waits for nothing that holds it, then
takes the mean of four offsets. -/
def Obligations.PtpPort : Prop :=
  ∀ (dt : Nat) (master received : Int) (requester : BitVec 80) (seq : BitVec 16) (a : Announce) (s : State),
    let u := advance dt s
    let x := u.ptp
    let w := netCount u.ptpPort 2 64 u
    let t2 : Nat := u.clk.counter / 2 ^ 48 * 65536
    (u.ptpUp = true → (w.inControl = false ∨ x.state = .slave ∨ x.state = .uncalibrated) →
      let t21 := psOf ((t2 : Int) - master)
      let o := t21 - x.pathDelay - w.ival 0x1B10 13 4
      Does (.ptpSyncReceived dt master) s
        (useOffset o (if x.recent.isEmpty then none else some x.offset)
          (match x.syncAt with | some v => psOf ((t2 : Int) - v) | none => 0)
          { w with ptp := { x with
              offset := o, offsetAt := some u.clk.core, recent := (o :: x.recent).take 4
              syncReceived := wrapAdd 32 x.syncReceived 1, syncAt := some t2, t21 := t21 } })) ∧
    (u.ptpUp = false → Does (.ptpSyncReceived dt master) s u ∧ Does (.ptpAnnounceReceived dt a) s u) ∧
    (u.clk.stepPending = true → u.stepHeld = false → 4 ≤ x.recent.length →
      Does (.deferredStep dt) s (stepTime (counterOf (-(meanOffset x.recent))) u)) ∧
    (u.stepHeld = true → Does (.deferredStep dt) s u) ∧
    (∀ t3, x.delayReqAt = some t3 → u.ptpUp = true → x.syncAt ≠ none → x.delays = [] →
      let d := rneDiv (x.t21 + psOf (received - t3)) 2
      Does (.ptpDelayRespReceived dt received) s
        { w with ptp := { x with delayReqAt := none, delays := [d], pathDelay := rneDiv (0 + d) 1 } }) ∧
    (u.ptpUp = true → w.mastering = true →
      Does (.ptpDelayReqReceived dt ⟨requester, seq⟩) s (sendPtp none 3 seq.toNat w.ptpNow requester.toNat w)) ∧
    (u.ptpUp = true → w.mastering = false → Does (.ptpDelayReqReceived dt ⟨requester, seq⟩) s w) ∧
    (u.mastering = true →
      (x.lastAnnounceSent + u.ptpInterval 10 ≤ u.clk.core →
        Does (.ptpAnnounceSend dt) s
          (sendCounted none 4 u.now { u with ptp := { x with lastAnnounceSent := u.clk.core } })) ∧
      (let n := u.ival 0x1B10 9 1
       let launch := (u.now / (if n < 0 then sT / 2 ^ n.natAbs else sT * 2 ^ n.natAbs) + 1) *
        (if n < 0 then sT / 2 ^ n.natAbs else sT * 2 ^ n.natAbs)
       x.lastSyncSent ≠ launch →
        Does (.ptpSyncSend dt) s (sendCounted (some launch) 0 0 { u with ptp := { x with lastSyncSent := launch } }))) ∧
    (u.mastering = false →
      Does (.ptpAnnounceSend dt) s u ∧ Does (.ptpSyncSend dt) s u) ∧
    (u.ptpUp = true → u.inControl = true → x.state = .slave → x.lastDelaySent + u.ptpInterval 11 ≤ u.clk.core →
      Does (.ptpDelayReqSend dt) s (sendCounted none 2 0 { u with ptp := { x with lastDelaySent := u.clk.core } })) ∧
    (u.ptpUp = true → a.sender.toNat ≠ w.clockId → a.stepsRemoved.toNat < 255 → x.parent = some a.sender.toNat →
      Does (.ptpAnnounceReceived dt a) s
        (decideState { w with ptp := { x with foreign := heardFrom a u.clk.core x.foreign, announceAt := u.clk.core } })) ∧
    (u.ptpUp = true → u.inControl = true → x.state = .slave → x.announceAt + 3 * u.ptpInterval 10 ≤ u.clk.core →
      Does (.announceReceiptTimeout dt) s (decideState { u with ptp := { x with
        foreign := x.foreign.filter (fun f => some f.ann.sender.toNat != x.parent), parent := none, announceAt := u.clk.core } })) ∧
    Does (.syncTimeout dt) s u

/-! The memories -/

/-- Errors of a memory (R377, R378, R381-R384). An error of one device is corrected and counted; one of none is read again: an answer that decodes
retires the rank with cause 0, one that does not loses the word's tiles; ALERT_N retires with cause 1, or 2 for a write's CRC. A
retirement with a spare copies to it in a long operation of its own; the copy's end puts the spare into service, excludes the rank
and raises RANK_MIGRATED. -/
def Obligations.MemoryErrors : Prop :=
  ∀ (dt : Nat) (c : Fin 2) (r : Fin 4) (offset : Nat) (d : Fin 20) (user : DramUser) (writeCrc : Bool) (s : State),
    let u := advance dt s
    (u.sys.mode ≠ .boot → chanOf offset = c.val → u.serverOf c.val offset = some r.val →
      Does (.dramReadError dt c r offset (some d) user) s (correct c.val r.val d.val offset u) ∧
      Does (.dramReadError dt c r offset none user) s (setChan c.val { u.chan c.val with reread := some (offset, r.val, user) } u)) ∧
    (chanOf offset ≠ c.val → Does (.dramReadError dt c r offset none user) s u) ∧
    ((u.chan c.val).reread = some (offset, r.val, user) →
      let v := setChan c.val { u.chan c.val with reread := none } u
      Does (.dramReread dt c true) s (retire c.val r.val 0 v) ∧
      Does (.dramReread dt c false) s
        (staleOnLoss c.val offset (offset + 128) (retire c.val r.val 0 (uncorrectable c.val r.val offset user v)))) ∧
    (u.sys.mode ≠ .boot → Does (.dramAlert dt c r writeCrc) s (retire c.val r.val (if writeCrc then 2 else 1) u)) ∧
    (u.sys.mode = .boot → Does (.dramAlert dt c r writeCrc) s u) ∧
    (∀ m k, (u.chan c.val).migration = some m → m.slot = none → u.freeSlot = some k →
      Does (.migrationStart dt c) s (setChan c.val { u.chan c.val with migration := some { m with slot := some k } }
        (startOp k 0x9000 0x0B (2 ^ (1 + c.val)) (le 1 (4 * c.val + m.rank)) u))) ∧
    (∀ m k, (u.chan c.val).migration = some m → m.slot = some k → (u.slot k).state = .running → (u.slot k).sliced = true →
      let p := (u.rank c.val m.rank).pair
      let v := setRank c.val m.spare { u.rank c.val m.spare with state := .inService, pair := p, copied := u.rankWords }
        (setRankState c.val m.rank .retired u)
      let w := writeExclude (setBit u.dram.exclude (4 * c.val + m.rank) true)
        (setChan c.val { v.chan c.val with migration := none } v)
      Does (.rankMigrated dt c) s (endOp k .done 0 (raise 0x1002 (0x0500 + c.val)
        ([BitVec.ofNat 8 c.val, BitVec.ofNat 8 m.rank, BitVec.ofNat 8 m.spare, 0] ++ le 4 (u.poisonedIn c.val p)) w)))

/-- The upkeep of a memory (R371, R375, R379, R380): refreshes, ZQ calibrations and DQS tracking at their periods; the band of the hottest rank's
temperature, rising at once and falling after 1 s; the activation tables cleared each 32 ms; the neighbours of a row at the limit
refreshed; and the patrol, one word at a time. -/
def Obligations.MemoryUpkeep : Prop :=
  ∀ (dt : Nat) (c : Fin 2) (bank row : Nat) (reports : List (Option Int)) (s : State),
    let u := advance dt s
    let x := u.chan c.val
    (u.chanInService c.val = true →
      (x.refreshAt + refreshCk x.band ≤ u.clk.core →
        Does (.dramRefresh dt c) s (emit (.dram 0 c.val 0 0) (setChan c.val { x with refreshAt := u.clk.core } u))) ∧
      (u.clk.core < x.refreshAt + refreshCk x.band → Does (.dramRefresh dt c) s u) ∧
      (x.zqAt + msCk 128 ≤ u.clk.core →
        Does (.zqCalibration dt c) s (emit (.dram 1 c.val 0 0) (setChan c.val { x with zqAt := u.clk.core } u))) ∧
      (x.dqsAt + msCk 10 ≤ u.clk.core →
        Does (.dqsTracking dt c) s (emit (.dram 2 c.val 0 0) (setChan c.val { x with dqsAt := u.clk.core } u))) ∧
      (∀ t, u.sys.mode ≠ .boot → u.hottestRank c.val reports = some t → bandOf t = x.band →
        Does (.dramTempPoll dt c reports) s (sampleSensor (0x1000 + c.val) t (setChan c.val { x with temp := t, below := none } u))) ∧
      (∀ t, u.sys.mode ≠ .boot → u.hottestRank c.val reports = some t → x.band < bandOf t →
        Does (.dramTempPoll dt c reports) s (sampleSensor (0x1000 + c.val) t
          (setBand c.val (bandOf t) (setChan c.val { x with temp := t, below := none } u)))) ∧
      (x.band ≠ 2 → x.migration = none → u.therm.fDie ≠ 0 → x.patrol ≠ 0 →
        let n := u.skipGone c.val (nextWord x.patrol)
        Does (.patrolScrub dt c none) s
          (if u.resEnd ≤ 128 * n then setChan c.val { x with patrol := 0, passes := wrapAdd 32 x.passes 1 } u
           else setChan c.val { x with patrol := n } u))) ∧
    (∀ t, x.below = some t → t + sCk 1 ≤ u.clk.core → 0 < x.band →
      Does (.dramBandFall dt c) s (setBand c.val (x.band - 1)
        (setChan c.val { x with below := if bandOf x.temp < x.band - 1 then some u.clk.core else none } u))) ∧
    (x.clearAt + msCk 32 ≤ u.clk.core →
      Does (.activationTableClear dt c) s (setChan c.val { x with tables := [], clearAt := u.clk.core } u)) ∧
    (u.sys.mode ≠ .boot → u.val 0x9000 4 ≠ 2 → row ≠ 0 →
      let v := emit (.dram 3 c.val bank (row - 1)) (emit (.dram 3 c.val bank (row + 1)) u)
      let y := v.chan c.val
      let count := countRows (u.val 0x9000 3) (Config.activations u.free)
      Does (.hammerRefresh dt c bank row) s (raiseLimited (sCk 1) 0x1003 c.val (0x0500 + c.val)
        (le 1 c.val ++ zeros 3 ++ le 4 (wrapAdd 32 y.hammer 1))
        (setChan c.val { y with hammer := wrapAdd 32 y.hammer 1, tables := tmod [] y.tables bank (fun t => zeroRow row (count t)) } (draw v))))

/-! Temperatures, calibration and the archive -/

/-- Die sensors, sensors that went silent, and the photometric calibration's wait (R388, R389, R391, R398): every reading is converted and the
factor decided anew; a sensor silent for 10 ms fails; a sensor without samples loses its reading, and a memory's holds its band; a calibration
without a report for 10 s fails with 0xAB11_0005. PFAIL_N (R404): asserted, a COMMIT that runs fails with 0xAB11_0008 and PFAIL is
raised with state 1; released, with state 0. -/
def Obligations.SensorsAndPower : Prop :=
  ∀ (dt : Nat) (readings : List (Option Int)) (d : Fin 12) (id : BitVec 16) (s : State),
    let u := advance dt s
    let v := { u with arc := { u.arc with pfail := true } }
    (u.sys.mode ≠ .boot →
      Does (.dieSensorSample dt readings) s (setFactor (forEach (List.range 12) (fun d s =>
        match readings.getD d none with
        | some t => convertDie d t s
        | none => s) u)) ∧
      ((u.sensor d.val).at_ + msCk 10 ≤ u.clk.core →
        Does (.dieSensorSilent dt d) s (setFactor (failDie d.val (u.sensor d.val).reading u)))) ∧
    (u.sys.mode = .boot → Does (.dieSensorSample dt readings) s u ∧ Does (.dieSensorSilent dt d) s u) ∧
    (thas u.therm.sensors id.toNat = true → u.sensorStopped id.toNat = true →
      Does (.sensorStale dt id) s (if id.toNat / 4096 = 1 then holdBand (id.toNat % 4096) (forgetSensor id.toNat u)
        else forgetSensor id.toNat u)) ∧
    (thas u.therm.sensors id.toNat = false → Does (.sensorStale dt id) s u) ∧
    (∀ p, u.cal.photo = some p → p.sinceAt + sCk 10 ≤ u.clk.core →
      Does (.calPhotoTimeout dt) s (endOp p.slot .failed 0xAB110005 (dropPhoto u))) ∧
    (u.cal.photo = none → Does (.calPhotoTimeout dt) s u) ∧
    (u.arc.pfail = false → u.committing = none → Does (.pfailAssert dt) s (raise 0x1104 0 [1, 0] v)) ∧
    (u.arc.pfail = false → ∀ k, u.committing = some k →
      Does (.pfailAssert dt) s (raise 0x1104 0 [1, 1] (endOp k .failed 0xAB110008 (dropCommit v)))) ∧
    (u.arc.pfail = true →
      Does (.pfailAssert dt) s u ∧
      Does (.pfailRelease dt) s (raise 0x1104 0 [0, 0] { u with arc := { u.arc with pfail := false } })) ∧
    (u.arc.pfail = false → Does (.pfailRelease dt) s u)

/-! Resets, fatal causes, BOOT and TEST -/

/-- Resets and fatal causes (R408, R412-R414, R434, R435). PORST_N resets everything and latches the straps; a warm reset, from the pin with cause 1 or at
its time, keeps what it is to keep; a watchdog or a lockstep mismatch sets its cause, gives control up and asks for a reset 1 ms
later; a supply or clock fault is noted, sets its cause and gives control up; its end is noted.

A rail or a clock that is good again is noted, and nothing else changes (R408, R412). -/
def Obligations.Resets : Prop :=
  (∀ (dt : Nat) (straps : Fin 16) (rail : Fin 10) (mv : Nat) (s : State),
    let u := advance dt s
    let base := resetBase 0 straps.val u
    let bad := fun (i : Nat) (b : Bool) => { u with sys := { u.sys with clocksBad := setBit u.sys.clocksBad i b } }
    let railBad := noteRail rail.val mv { u with sys := { u.sys with railsBad := setBit u.sys.railsBad rail.val true } }
    Does (.porst dt straps) s (runRom { base with sys := { base.sys with bootStart := 0 }, porstLow := true, tap := u.tap }) ∧
    (u.test.run = none →
      Does (.resetPin dt) s (warmReset 1 u) ∧
      (railBad.sys.mode ≠ .boot → railBad.test.run = none →
        Does (.supplyFault dt rail mv) s (safeSet 5 (giveUp 4 railBad))) ∧
      (u.sys.mode ≠ .boot → Does (.clockFault dt .pll) s (safeSet 6 (giveUp 3 (bad 1 true))))) ∧
    (railBad.sys.mode = .boot → Does (.supplyFault dt rail mv) s railBad) ∧
    Does (.clockFault dt .enref) s (netLink 1 0 (netLink 0 0 (bad 3 true))) ∧
    Does (.clockFault dt .peref) s (doHostLink 0 0 false (bad 4 true)) ∧
    (∀ t, u.sys.resetAt = some t →
      (t ≤ u.clk.core → Does (.resetTakeEffect dt) s (warmReset 2 u)) ∧ (u.clk.core < t → Does (.resetTakeEffect dt) s u)) ∧
    (∀ t cause, u.sys.fatalAt = some (t, cause) →
      (t ≤ u.clk.core → Does (.fatalWarmReset dt) s (warmReset cause u)) ∧ (u.clk.core < t → Does (.fatalWarmReset dt) s u)) ∧
    (u.sys.mode = .test → Does (.watchdogExpiry dt) s (safeSet 8 u) ∧ Does (.lockstepMismatch dt) s (safeSet 7 u)) ∧
    (u.sys.mode ≠ .test →
      (let v := safeSet 8 (giveUp 5 u)
       v.sys.fatalAt = none →
        Does (.watchdogExpiry dt) s { v with sys := { v.sys with fatalAt := some (v.clk.core + msCk 1, 3) } }) ∧
      (let v := safeSet 7 (giveUp 1 u)
       v.sys.fatalAt = none →
        Does (.lockstepMismatch dt) s { v with sys := { v.sys with fatalAt := some (v.clk.core + msCk 1, 4) } }))) ∧
  (∀ (dt : Nat) (rail : Fin 10) (mv : Nat) (which : ClockFault) (s : State),
    let u := advance dt s
    Does (.supplyRestored dt rail mv) s (noteRail rail.val mv
      { u with sys := { u.sys with railsBad := setBit u.sys.railsBad rail.val false } }) ∧
    Does (.clockRestored dt which) s
      { u with sys := { u.sys with clocksBad := setBit u.sys.clocksBad (clockBit which) false } })

/-- BOOT, recovery and the built-in test (R420, R422, R424, R429, R443, R444, R449). A good recovery image runs as the running image; a bad one is
answered and waited for again. The end of BOOT enters IDLE, arbitrates, places the lanes and makes the host port ready. HEAD_POWER falls at
its time in IDLE. SELFTEST enters TEST when it is due, from IDLE only; the end of a phase takes its results and begins the
next phase that runs, or ends the test. -/
def Obligations.BootAndTest : Prop :=
  ∀ (dt : Nat) (image : Bytes) (crc : BitVec 32) (trained : List Bool) (results : List DomainResult) (s : State),
    let u := advance dt s
    (u.sys.mode = .boot → u.sys.straps % 4 = 3 → u.sys.recovered = false →
      let v := runRom u
      (crc32c image = crc.toNat → imageCheck image = 0 →
        Does (.recoveryImageReceived dt image crc) s
          (romLine 0x31 { v with sys := { v.sys with recovered := true, running := 2, runVersion := leAt image 8 4 } })) ∧
      (crc32c image ≠ crc.toNat → Does (.recoveryImageReceived dt image crc) s (romLine 0x30 (romLine 0x32 v)))) ∧
    (u.sys.mode ≠ .boot → Does (.recoveryImageReceived dt image crc) s u ∧ Does (.bootComplete dt trained) s u) ∧
    (let v := runRom (releasePins u)
     u.sys.mode = .boot → v.sys.halted = false → v.sys.straps % 4 ≠ 3 →
      let w := bootCauses (placeLanes (arbitrate (enterIdle trained v)))
      Does (.bootComplete dt trained) s
        (bootEvents trained (ptpConfigured { w with host := { w.host with ready := true, heartbeatAt := w.clk.core } }))) ∧
    (∀ t, u.sys.powerOffAt = some t →
      (u.sys.mode = .idle → t ≤ u.clk.core →
        Does (.headPowerOff dt) s (headPowerAll false { u with sys := { u.sys with powerOffAt := none } })) ∧
      (u.sys.mode = .idle → u.clk.core < t → Does (.headPowerOff dt) s u)) ∧
    (∀ r, u.test.run = some r → r.entered = false →
      (u.sys.mode = .idle →
        let v := stopForTest (changeMode .test 0 0 u)
        Does (.selftestEnter dt) s
          { v with test := { v.test with domains := [], run := some { r with entered := true, started := r.due } } }) ∧
      (u.sys.mode ≠ .idle → Does (.selftestEnter dt) s { u with test := { u.test with run := none } })) ∧
    (∀ r, u.test.run = some r → r.entered = true →
      (u.clk.core < r.phaseEnd → Does (.selftestPhaseEnd dt results) s u) ∧
      (r.phaseEnd ≤ u.clk.core →
        let v := takeResults13 r results u
        (∀ p, ([1, 2, 3, 4].filter (fun p => decide (r.phase < p))).find? r.runs = some p →
          Does (.selftestPhaseEnd dt results) s { v with test := { v.test with run := some { r with phase := p } } }) ∧
        (([1, 2, 3, 4].filter (fun p => decide (r.phase < p))).find? r.runs = none →
          Does (.selftestPhaseEnd dt results) s (endTest r 1 0 2 v)))) ∧
    (u.test.run = none → Does (.selftestEnter dt) s u ∧ Does (.selftestPhaseEnd dt results) s u)

/-! The test access port -/

/-- The test access port (R452, R453): each instruction selects its register and who owns the pins; those that take the pins act so only
while PORST_N is low, and as BYPASS otherwise; an opcode above 6 is BYPASS; Test-Logic-Reset selects IDCODE, and a rise of PORST_N
with it begins BOOT. -/
def Obligations.TestAccessPort : Prop :=
  ∀ (dt : Nat) (bits : Bytes) (opcode : Byte) (s : State),
    let u := advance dt s
    let passed := { u with tap := { u.tap with ir := .bypass, shiftOut := [0], pins := .engine } }
    (u.porstLow = true →
      Does (.extest dt) s (draw { u with tap := { u.tap with ir := .extest, shiftOut := u.capture, pins := .boundary } }) ∧
      Does (.extestPulse dt) s (draw { u with tap := { u.tap with ir := .extestPulse, shiftOut := u.capture, pins := .pulsing } }) ∧
      Does (.extestTrain dt) s (draw { u with tap := { u.tap with ir := .extestTrain, shiftOut := u.capture, pins := .training } }) ∧
      Does (.highz dt) s { u with tap := { u.tap with ir := .highz, shiftOut := [0], pins := .highz } } ∧
      Does (.clamp dt) s { u with tap := { u.tap with ir := .clamp, shiftOut := [0], pins := .clamped } } ∧
      Does (.tapReset dt true) s
        { u with tap := {}, porstLow := false, sys := { u.sys with bootStart := u.clk.core } }) ∧
    (u.porstLow = false →
      Does (.extest dt) s (draw passed) ∧ Does (.extestPulse dt) s (draw passed) ∧ Does (.extestTrain dt) s (draw passed) ∧
      Does (.highz dt) s passed ∧ Does (.clamp dt) s passed ∧ Does (.tapReset dt true) s { u with tap := {} }) ∧
    Does (.tapReset dt false) s { u with tap := {} } ∧
    Does (.idcode dt) s { u with tap := { u.tap with ir := .idcode, shiftOut := [0x37, 0x2D, 0x51, 0x18], pins := .engine } } ∧
    Does (.samplePreload dt bits) s
      (draw { u with tap := { ir := .sample, shiftOut := u.capture, boundary := bits, pins := .engine } }) ∧
    (6 < opcode.toNat → Does (.bypass dt opcode) s passed) ∧
    (opcode.toNat ≤ 6 → Does (.bypass dt opcode) s u)

/-! Completion -/

/-- Every command of the Catalogue completes with its own effect. A command that is a WRITE of one entry, once accepted (stages 1 to 8
of R47 pass: `Accepts`), is applied and answered (R36, R43): its value is stored, its entry acts as its chapter says, and a long
operation takes its slot. The services, ABORT and RELEASE of a slot's own operation and what ends by time run their function on the
state that the passing of dt leaves, whatever its operands. -/
def Obligations.CatalogueCommandsComplete : Prop :=
  ∀ (dt : Nat) (s : State),
    let u := advance dt s
    (∀ (route : Route) (data : Bytes) (row : Row),
      let writes := fun (c : Instr) (idx sub : Nat) =>
        Accepts route idx sub data row dt s →
        Does c s (finishWrite ⟨.direct (routeNo route), 2, idx, sub, data⟩ idx row data (noteArm idx sub 0 data (s.arrived route dt)))
      (∀ (slot : Fin 16), writes (.abort dt route slot data) (0x1310 + slot.val) 0x0A) ∧
      (∀ (slot : Fin 16), writes (.release dt route slot data) (0x1310 + slot.val) 0x0B) ∧
      writes (.origin dt route data) 0x2100 0x0C ∧
      writes (.faultClear dt route data) 0x2210 0x02 ∧
      (∀ (lane : Fin 32), writes (.retrain dt route lane data) (0x5000 + lane.val) 0x0A) ∧
      (∀ (bay : Fin 512), writes (.waveLoad dt route bay data) (0x4000 + bay.val) 0x1C) ∧
      writes (.arm dt route data) 0x6100 0x01 ∧
      writes (.disarm dt route data) 0x6100 0x02 ∧
      (∀ (q : Fin 64), writes (.enqueue dt route q data) (0x6210 + q.val) 0x08) ∧
      (∀ (q : Fin 64), writes (.restart dt route q data) (0x6210 + q.val) 0x09) ∧
      (∀ (g : Fin 8), writes (.load dt route g data) (0x3021 + 0x100 * g.val) 0x01) ∧
      (∀ (g : Fin 8), writes (.edit dt route g data) (0x3021 + 0x100 * g.val) 0x03) ∧
      (∀ (g : Fin 8), writes (.swapLine dt route g data) (0x3021 + 0x100 * g.val) 0x04) ∧
      (∀ (g : Fin 8), writes (.swapCancel dt route g data) (0x3021 + 0x100 * g.val) 0x05) ∧
      (∀ (g : Fin 8), writes (.thresholdLoad dt route g data) (0x3020 + 0x100 * g.val) 0x07) ∧
      writes (.purge dt route data) 0x6000 0x08 ∧
      writes (.openDirect dt route data) 0x6000 0x09 ∧
      writes (.commitDirect dt route data) 0x6000 0x0B ∧
      writes (.bundle dt route data) 0x6800 0x04 ∧
      (∀ (ctx : Fin 16), writes (.exposureCommit dt route ctx data) (0x7000 + ctx.val) 0x14) ∧
      (∀ (port : Fin 4), writes (.cciRequest dt route port data) (0x7110 + port.val) 0x05) ∧
      (∀ (ctx : Fin 16), writes (.freeze dt route ctx data) (0x7000 + ctx.val) 0x1B) ∧
      writes (.sweep dt route data) 0x7C00 0x01 ∧
      writes (.handover dt route data) 0x1200 0x0A ∧
      writes (.resync dt route data) 0x1200 0x0B ∧
      writes (.declareDegraded dt route data) 0x1200 0x0C ∧
      writes (.closeSession dt route data) 0x1400 0x08 ∧
      writes (.keyWrite dt route data) 0x1400 0x01 ∧
      writes (.setTime dt route data) 0x1B00 0x06 ∧
      writes (.train dt route data) 0x9000 0x09 ∧
      writes (.scrub dt route data) 0x9000 0x0A ∧
      writes (.migrate dt route data) 0x9000 0x0B ∧
      writes (.clearExclude dt route data) 0x9000 0x08 ∧
      writes (.calAnalogue dt route data) 0x1840 0x02 ∧
      writes (.calPhoto dt route data) 0x1850 0x05 ∧
      writes (.commit dt route data) 0x1700 0x01 ∧
      writes (.commitClear dt route data) 0x1700 0x01 ∧
      writes (.resetCmd dt route data) 0x1100 0x0B ∧
      writes (.modeRequestIdle dt route data) 0x1100 0x02 ∧
      writes (.modeRequestService dt route data) 0x1100 0x02 ∧
      writes (.modeRequestReady dt route data) 0x1100 0x02 ∧
      writes (.modeRequestPrint dt route data) 0x1100 0x02 ∧
      writes (.printGalleriesWrite dt route data) 0x1100 0x04 ∧
      writes (.safeRequest dt route data) 0x1100 0x0A ∧
      writes (.safeClear dt route data) 0x1100 0x09 ∧
      writes (.fwUpdate dt route data) 0x1120 0x02 ∧
      writes (.fwConfirm dt route data) 0x1120 0x03 ∧
      writes (.shutdown dt route data) 0x1100 0x0D ∧
      writes (.selftest dt route data) 0x1800 0x01) ∧
    (∀ (route : Route) (index : BitVec 16) (sub : Byte) (data : Bytes), Does (.read dt route index sub data) s (command route 1
      index.toNat sub.toNat data u)) ∧
    (∀ (route : Route) (index : BitVec 16) (sub : Byte) (data : Bytes), Does (.write dt route index sub data) s (command route 2
      index.toNat sub.toNat data u)) ∧
    (∀ (route : Route) (index : BitVec 16) (sub : Byte) (data : Bytes), Does (.blockReadStart dt route index sub data) s
      (command route 3 index.toNat sub.toNat data u)) ∧
    (∀ (route : Route) (index : BitVec 16) (sub : Byte) (data : Bytes), Does (.blockWriteStart dt route index sub data) s
      (command route 4 index.toNat sub.toNat data u)) ∧
    (∀ (route : Route) (index : BitVec 16) (sub : Byte) (data : Bytes), Does (.blockWriteSegment dt route index sub data) s
      (command route 5 index.toNat sub.toNat data u)) ∧
    (∀ (route : Route) (index : BitVec 16) (sub : Byte) (data : Bytes), Does (.blockReadSegment dt route index sub data) s
      (command route 6 index.toNat sub.toNat data u)) ∧
    (∀ (route : Route) (index : BitVec 16) (sub : Byte) (data : Bytes), Does (.blockCancel dt route index sub data) s (command
      route 7 index.toNat sub.toNat data u)) ∧
    (∀ (route : Route), Does (.blockTransferTimeout dt route) s (doTransferTimeout (routeNo route) u)) ∧
    (∀ (slot : Fin 16) (progress : Nat) (obs : SliceObs), Does (.longopSlice dt slot progress obs) s (doSlice slot.val progress
      obs u)) ∧
    (∀ (slot : Fin 16), Does (.longopDequeue dt slot) s (dequeueOp slot.val u)) ∧
    (∀ (g : Fin 8) (line : BitVec 32) (obs : EccObs), Does (.lineComplete dt g line obs) s (doLineComplete g.val line.toNat obs
      u)) ∧
    (∀ (lane : Fin 32) (line : LineRead), Does (.lineFrameStart dt lane line) s (doLineFrame lane.val line.line.toNat line.ring
      u)) ∧
    (∀ (g : Fin 8) (line : BitVec 32), Does (.dataLate dt g line) s (doDataLate g.val line.toNat u)) ∧
    (∀ (route : Route) (lane : Fin 32) (data : Bytes), Does (.regDataWrite dt route lane data) s (catWrite route (0x5800 +
      lane.val) 0x05 data u))

/-- Every command of web motion, accession, plans, nozzles, firing, the head link, cameras, the colour loop and lamps (R54-R274)
completes, in every state and for all operands: the next state is that of its own function on the state that the passing of dt
leaves, with the block settled. -/
def Obligations.PressCommandsComplete : Prop :=
  ∀ (dt : Nat) (s : State),
    let u := advance dt s
    (∀ (ch : Fin 2) (a b : Bool), Does (.encoderEdge dt ch a b) s (doEdge ch.val a b u)) ∧
    (∀ (ch : Fin 2), Does (.encoderIndexEdge dt ch) s (doIndexEdge ch.val u)) ∧
    Does (.xcheckWindowEnd dt) s (doWindowEnd u) ∧
    (∀ (ch : Fin 2), Does (.webStill dt ch) s (doWebStill ch.val u)) ∧
    Does (.synthesisedTick dt) s (doSynthTick u) ∧
    (∀ (m : Fin 16), Does (.comparePulseEnd dt m) s (doPulseEnd m.val u)) ∧
    (∀ (p : Fin 4) (level : Bool), Does (.probeEdge dt p level) s (doProbeEdge p.val level u)) ∧
    (∀ (p : Fin 4), Does (.probeLatch dt p) s (doProbeLatch p.val (drainProbes u))) ∧
    (∀ (e : Fin 2), Does (.emuStep dt e) s (doEmuStep e.val (noteLag e.val u))) ∧
    (∀ (link : Link), Does (.laneFrameSent dt link) s (doFrameSent (linkKey link) u)) ∧
    (∀ (link : Link), Does (.timePeriodic dt link) s (doTimePeriodic (linkKey link) u)) ∧
    Does (.tickOverdue dt) s (doTickOverdue u) ∧
    (∀ (n : Fin 8) (p c : Bool), Does (.gateInputAccepted dt n p c) s (doGateInput n.val p c u)) ∧
    (∀ (n : Fin 8), Does (.gateFault dt n) s (doGateFault n.val u)) ∧
    (∀ (lane : Fin 32) (frame : Bytes), Does (.statusReceived dt lane frame) s (doStatusFrame lane.val frame u)) ∧
    (∀ (lane : Fin 32) (frame : Bytes), Does (.ctrlAckReceived dt lane frame) s (serveWaiting (onFrame lane.val 0x90 frame
      (doCtrlAck lane.val) u))) ∧
    (∀ (lane : Fin 32) (frame : Bytes), Does (.ctrlDataReceived dt lane frame) s (serveWaiting (onFrame lane.val 0x91 frame
      (doCtrlData lane.val) u))) ∧
    (∀ (lane : Fin 32) (tag : BitVec 16), Does (.ctrlRetry dt lane tag) s (serveWaiting (doCtrlRetry lane.val tag.toNat u))) ∧
    (∀ (lane : Fin 32) (frame : Bytes), Does (.idDataReceived dt lane frame) s (onFrame lane.val 0x93 frame (doIdData lane.val)
      u)) ∧
    (∀ (lane : Fin 32) (tag : BitVec 16), Does (.idReadRetry dt lane tag) s (doIdRetry lane.val tag.toNat u)) ∧
    (∀ (lane : Fin 32) (frame : Bytes), Does (.faultReceived dt lane frame) s (onFrame lane.val 0xA0 frame (fun p s => faultShot
      lane.val (leAt frame 8 4) (doFault lane.val (leAt frame 8 4) p s)) u)) ∧
    (∀ (link : Link) (frame : Bytes), Does (.delayRespReceived dt link frame) s (onFrame (linkKey link) 0xB0 frame (doDelayResp
      (linkKey link)) u)) ∧
    (∀ (link : Link), Does (.timeSyncSend dt link) s (doSyncDue (linkKey link) u)) ∧
    (∀ (link : Link), Does (.timeSyncUnanswered dt link) s (doUnanswered (linkKey link) u)) ∧
    (∀ (link : Link) (localOk : Bool) (st value request : Byte), Does (.trainReceived dt link localOk st value request) s
      (doTrain (linkKey link) localOk st.toNat value.toNat request.toNat u)) ∧
    (∀ (link : Link), Does (.laneDetect dt link) s (doDetect (linkKey link) u)) ∧
    (∀ (link : Link) (eye : Eye), Does (.eqPresetStep dt link eye) s (doEqStep (linkKey link) (fomOf eye.width.val
      eye.height.val) u)) ∧
    (∀ (link : Link) (errors : Nat), Does (.verifyPrbsEnd dt link errors) s (doVerifyEnd (linkKey link) errors u)) ∧
    (∀ (link : Link), Does (.trainTimeout dt link) s (doTrainTimeout (linkKey link) u)) ∧
    (∀ (link : Link), Does (.autoRetrain dt link) s (doAutoRetrain (linkKey link) u)) ∧
    (∀ (lane : Fin 32) (eye : Eye), Does (.fomMeasure dt lane eye) s (doFom lane.val (fomOf eye.width.val eye.height.val) u)) ∧
    (∀ (run : CodeRun), Does (.codeErrorLimit dt run) s (doCodeErrors (linkKey run.link) run.groups run.inFrame run.positive u)) ∧
    (∀ (link : Link), Does (.commaLoss dt link) s (linkDown (linkKey link) 2 u)) ∧
    (∀ (link : Link), Does (.badFrameRun dt link) s (doBadRun (linkKey link) u)) ∧
    (∀ (lane : Fin 32), Does (.upstreamSilent dt lane) s (doUpstreamSilent lane.val u)) ∧
    (∀ (bay : Fin 512), Does (.statusMissing dt bay) s (doStatusMissing bay.val u)) ∧
    (∀ (route : Route) (lane : Fin 32) (data : Bytes), Does (.regDataRead dt route lane data) s (command route 1 (0x5800 +
      lane.val) 0x05 data u)) ∧
    (∀ (ring : RingId) (v : BitVec 32), Does (.ringTailDoorbell dt ring v) s (onBar (ringWrite ring 0x0C v.toNat) u)) ∧
    (∀ (ring : RingId) (v : BitVec 32), Does (.ringReset dt ring v) s (onBar (ringWrite ring 0x14 (setBit v.toNat 2 true)) u)) ∧
    (∀ (ring : RingId) (v : BitVec 32), Does (.ringResume dt ring v) s (onBar (ringWrite ring 0x14 (setBit v.toNat 1 true)) u)) ∧
    (∀ (src : ContainerSrc) (descs : List Desc) (bytes : Bytes), Does (.containerStart dt src descs bytes) s (doContainerStart
      src descs bytes u)) ∧
    (∀ (id : BitVec 32), Does (.containerTransferDone dt id) s (doTransferDone id.toNat u)) ∧
    (∀ (offset : BitVec 30) (data : Bytes), Does (.reserveBarWrite dt offset data) s (onBar (fun s => landDirect (s.val 0x6000 5
      + offset.toNat) data s) u)) ∧
    (∀ (slot : Fin 16), Does (.bundleUnitStart dt slot) s (if u.bundling slot.val then takeDeflate slot.val u else u)) ∧
    (∀ (ring : Fin 4) (descs : List Desc), Does (.egressWrite dt ring descs) s (doEgressWrite ring.val descs u)) ∧
    (∀ (port : Fin 4) (header : CsiHeader) (number : BitVec 16), Does (.csiFrameStart dt port header number) s (onPacket
      port.val header.corrected (toContext port.val header.vc.val (fun c => frameStart c number.toNat)) u)) ∧
    (∀ (port : Fin 4) (header : CsiHeader) (dataType : Byte) (pixels : List (BitVec 12)) (crcOk : Bool), Does (.csiLongPacket dt
      port header dataType pixels crcOk) s (onPacket port.val header.corrected (toContext port.val header.vc.val (longPacket
      port.val dataType.toNat pixels crcOk)) u)) ∧
    (∀ (port : Fin 4) (header : CsiHeader) (number : BitVec 16), Does (.csiFrameEnd dt port header number) s (onPacket port.val
      header.corrected (toContext port.val header.vc.val (endPacket port.val number.toNat)) u)) ∧
    (∀ (ctx : Fin 16), Does (.cameraFrameTimeout dt ctx) s (doFrameTimeout ctx.val u)) ∧
    Does (.pipelineFrameStart dt) s (doPipeStart u) ∧
    Does (.pipelineFrameDone dt) s (doPipeDone u) ∧
    (∀ (port : Fin 4) (result : CciResult), Does (.cciTransactionDone dt port result) s (cciEnded port.val (cciStatus result).1
      (cciStatus result).2 u)) ∧
    (∀ (port : Fin 4), Does (.cciStretchTimeout dt port) s (cciEnded port.val 4 [] u)) ∧
    Does (.loopReport dt) s (doLoopReport u) ∧
    (∀ (g : Fin 8), Does (.loopUpdate dt g) s (doLoopUpdate g.val u)) ∧
    Does (.sweepSlot dt) s (doSweepSlot u) ∧
    (∀ (g : Fin 8), Does (.dgatePulse dt g) s (doDgatePulse g.val u)) ∧
    (∀ (g : Fin 8), Does (.shotDecide dt g) s (doShotDecide g.val u)) ∧
    (∀ (g : Fin 8), Does (.dgateStuck dt g) s (doDgateStuck g.val u)) ∧
    (∀ (ch : Fin 4), Does (.lampRefresh dt ch) s (doLampRefresh ch.val u)) ∧
    (∀ (ch : Fin 4) (status : List Bytes), Does (.lampLatch dt ch status) s (doLampLatch ch.val status u)) ∧
    (∀ (ring : RingId), Does (.pcieCompletionUnsuccessful dt ring) s (doReadFailed ring u)) ∧
    (∀ (check : PrbsCheck), Does (.prbsLock dt check) s (doPrbsLock check.lane.val check.errors u)) ∧
    (∀ (port : Fin 4) (why : CsiDiscard), Does (.csiPacketDiscarded dt port why) s (doDiscard port.val why u))

/-- Every command of the pair, the network, time, the host port, the memories, temperatures, start-up and test (R275-R453) completes, in
every state and for all operands: the next state is that of its own function on the state that the passing of dt leaves, with the
block settled. -/
def Obligations.SystemCommandsComplete : Prop :=
  ∀ (dt : Nat) (s : State),
    let u := advance dt s
    (∀ (offset : BitVec 24) (data : Bytes), Does (.registerWrite dt offset data) s (onBar (barWrite data.length offset.toNat
      data) u)) ∧
    (∀ (ring : RingId), Does (.completionTimeout dt ring) s (doCompletionTimeout ring u)) ∧
    (∀ (offset : BitVec 30) (len : BitVec 12), Does (.reserveBarRead dt offset len) s (onBar (fun s => doBarRead (s.val 0x6000 5
      + offset.toNat) len.toNat s) u)) ∧
    (∀ (asserted : Bool), Does (.peerActiveChange dt asserted) s (doPeerActive asserted u)) ∧
    Does (.arbitrationTimeout dt) s (doArbitration u) ∧
    (∀ (lane : Fin 32), Does (.takeoverLaneSend dt lane) s (doTakeoverLane lane.val u)) ∧
    (∀ (lane : Fin 2), Does (.heartbeatSend dt lane) s (doHeartbeat lane.val u)) ∧
    Does (.heartbeatLost dt) s (doHeartbeatLost u) ∧
    (∀ (role : Byte) (reign : BitVec 16) (mode : Byte) (tick confirmed : BitVec 32), Does (.heartbeatReceived dt role reign mode
      tick confirmed) s (doHeard role.toNat reign.toNat mode.toNat tick.toNat confirmed.toNat u)) ∧
    (∀ (seq : BitVec 32) (body : MirrorBody), Does (.mirrorReceived dt seq body) s (onPair (inSequence seq.toNat (applyMirror
      seq.toNat body)) u)) ∧
    (∀ (seq : BitVec 32) (part : SegmentPart), Does (.segmentReceived dt seq part) s (onPair (inSequence seq.toNat (takePart
      seq.toNat part)) u)) ∧
    (∀ (seq result : BitVec 32), Does (.confirmReceived dt seq result) s (onPair (doConfirm seq.toNat result.toNat) u)) ∧
    Does (.mirrorTimeout dt) s (if u.mirrorLate then standAlone u else u) ∧
    Does (.pairLinkDownTimeout dt) s (doLinkDownTimeout u) ∧
    (∀ (report : Bytes), Does (.reportReceived dt report) s (onPair (takeReport report) u)) ∧
    (∀ (bay : Fin 512) (st : Sys2Proof.BayState), Does (.bayStateReceived dt bay st) s (onPair (takeBay bay.val st) u)) ∧
    (∀ (q : Fin 64) (inst : BitVec 32) (starved : Bool), Does (.decisionReceived dt q inst starved) s (onPair (takeDecision
      q.val inst.toNat starved) u)) ∧
    (∀ (msg : AlignMsg), Does (.alignReceived dt msg) s (onPair (doAlign msg) u)) ∧
    Does (.alignSend dt) s (doAlignSend u) ∧
    Does (.alignPoint dt) s (doAlignPoint u) ∧
    (∀ (g : Fin 8) (line crc : BitVec 32), Does (.digestReceived dt g line crc) s (onPair (takeDigest g.val line.toNat
      crc.toNat) u)) ∧
    (∀ (cause : Byte) (lines : List (BitVec 32)), Does (.relinquishReceived dt cause lines) s (onPair (fun s => { s with pair :=
      { s.pair with relinquished := some (cause.toNat, lines.map (·.toNat)) } }) u)) ∧
    (∀ (reign : BitVec 16), Does (.takeoverNoticeReceived dt reign) s (onPair (takeNotice reign.toNat) u)) ∧
    (∀ (mh : BitVec 32), Does (.handoverReceived dt mh) s (onPair (takeHandover mh.toNat) u)) ∧
    Does (.yieldedReceived dt) s (onPair takeYielded u) ∧
    (∀ (item : ResyncItem), Does (.resyncDataReceived dt item) s (onPair (doResyncData item) u)) ∧
    (∀ (lane : Fin 32), Does (.handoverTakeoverSend dt lane) s (doHandLane lane.val u)) ∧
    (∀ (port : Fin 2) (link : Fin 5), Does (.netLink dt port link) s (if u.host.ready && linkFits (u.netCfg port.val 1) link.val
      && (link.val == 0 || !bitOf u.sys.clocksBad 3) then netLink port.val link.val u else u)) ∧
    (∀ (port : Fin 2) (frame : Bytes) (fcsOk : Bool), Does (.ethernetFrameFiltered dt port frame fcsOk) s (if u.host.ready &&
      u.linkOf port.val != 0 then doFiltered port.val frame fcsOk u else u)) ∧
    (∀ (port : Fin 2) (arp : ArpFrame), Does (.arpReceived dt port arp) s (if u.host.ready && u.linkOf port.val != 0 then doArp
      port.val arp u else u)) ∧
    (∀ (port : Fin 2) (ip : BitVec 32), Does (.arpRetry dt port ip) s (doArpRetry port.val ip.toNat u)) ∧
    (∀ (port : Fin 2) (ip : BitVec 32), Does (.arpUnresolved dt port ip) s (doArpUnresolved port.val ip.toNat u)) ∧
    (∀ (port : Fin 2) (ip : BitVec 32), Does (.arpAgeExpiry dt port ip) s (doArpAge port.val ip.toNat u)) ∧
    Does (.sharedIpArp dt) s (doSharedArp u) ∧
    (∀ (src : NetSrc) (echo : EchoRequest), Does (.icmpEcho dt src echo) s (onDatagram src (doEcho src echo.id.toNat echo.data)
      u)) ∧
    (∀ (src : NetSrc) (msg : Bytes), Does (.challenge dt src msg) s (onMessage 1 src msg (fun _ s => doChallenge src s) u)) ∧
    (∀ (src : NetSrc) (msg : Bytes), Does (.openSession dt src msg) s (onMessage 2 src msg (fun m s => doOpen src msg m s) u)) ∧
    (∀ (src : NetSrc) (msg : Bytes), Does (.request dt src msg) s (onMessage 3 src msg (fun m s => onSession 3 src msg m
      (doRequest src m) s) u)) ∧
    (∀ (src : NetSrc) (msg : Bytes), Does (.closeRequest dt src msg) s (onMessage 4 src msg (fun m s => onSession 4 src msg m
      (doClose src) s) u)) ∧
    (∀ (src : NetSrc) (msg : Bytes), Does (.identRead dt src msg) s (onMessage 6 src msg (fun m s => doIdentRead src m s) u)) ∧
    (∀ (slot : Fin 8), Does (.sessionIdleTimeout dt slot) s (if u.net.sessions.any (fun p => p.1 == slot.val && decide
      (p.2.lastMsg + sCk 30 ≤ u.clk.core)) then closeSession slot.val 1 u else u)) ∧
    (∀ (port : Fin 2), Does (.nonceExpiry dt port) s ({ u with net := { u.net with nonces := u.net.nonces.filter (fun n =>
      n.port != port.val || decide (u.clk.core < n.at_ + sCk 5)) } })) ∧
    (∀ (ip : BitVec 32), Does (.lockoutEnd dt ip) s (doLockoutEnd ip.toNat u)) ∧
    (∀ (ip : BitVec 32), Does (.authCountExpiry dt ip) s (doAuthExpiry ip.toNat u)) ∧
    (∀ (route : Route) (port : Fin 2) (data : Bytes) (phy : BitVec 16), Does (.mdioRequest dt route port data phy) s
      (doMdioRequest route port.val data phy.toNat u)) ∧
    (∀ (p : Fin 16), Does (.publicationSample dt p) s (doPublication p.val u)) ∧
    Does (.eventPushSend dt) s (doEventPush u) ∧
    (∀ (port : Fin 2) (queue : Fin 8), Does (.frameLaunch dt port queue) s (doFrameLaunch port.val queue.val u)) ∧
    (∀ (port : Fin 2) (queue : Fin 8), Does (.launchDropped dt port queue) s (doLaunchDropped port.val queue.val u)) ∧
    (∀ (master : Int), Does (.ptpSyncReceived dt master) s (onPtp (doSync master) u)) ∧
    Does (.deferredStep dt) s (doDeferredStep u) ∧
    (∀ (received : Int), Does (.ptpDelayRespReceived dt received) s (onPtp (doPtpDelayResp received) u)) ∧
    (∀ (req : DelayReq), Does (.ptpDelayReqReceived dt req) s (onPtp (doDelayReq req.requester.toNat req.seq.toNat) u)) ∧
    (∀ (ann : Announce), Does (.ptpAnnounceReceived dt ann) s (onPtp (doAnnounce ann) u)) ∧
    Does (.ptpSyncSend dt) s (doSyncSend u) ∧
    Does (.ptpDelayReqSend dt) s (doDelayReqSend u) ∧
    Does (.syncTimeout dt) s (u) ∧
    (∀ (v : BitVec 32), Does (.timeSnapshot dt v) s (onBar (snapWrite v.toNat) u)) ∧
    (∀ (ring : Fin 2), Does (.provenanceExport dt ring) s (doExport ring.val u)) ∧
    (∀ (ring : Fin 2) (v : BitVec 32), Does (.provenanceRewind dt ring v) s (onBar (provControl ring.val (setBit v.toNat 1
      true)) u)) ∧
    (∀ (g : Fin 8) (line : BitVec 32), Does (.printRecordWrite dt g line) s (doPrintRecord g.val line.toNat u)) ∧
    (∀ (cause : Fin 3), Does (.hostPortReset dt cause) s (doHostPortReset cause.val u)) ∧
    (∀ (speed : Fin 5) (width : LinkWidth), Does (.hostLink dt speed width) s (doHostLink speed.val width.width.val width.l2 u)) ∧
    (∀ (value : BitVec 32), Does (.mbDoorbell dt value) s (onBar (doDoorbell value.toNat) u)) ∧
    Does (.mbStatusRead dt) s (onBar (fun s => emit (.readData (some (le 4 s.mbStatus))) { s with host := { s.host with mailbox
      := { s.host.mailbox with overrun := false } } }) u) ∧
    (∀ (t : Fin 4) (v : BitVec 32), Does (.icClaim dt t v) s (onBar (doIcClaim t.val (v.toNat % 256)) (sampleLevels u))) ∧
    (∀ (t : Fin 4) (v : BitVec 32), Does (.icComplete dt t v) s (onBar (doIcComplete t.val (v.toNat % 256)) (sampleLevels u))) ∧
    (∀ (i : Fin 8) (v : BitVec 32), Does (.icPendClear dt i v) s (onBar (doIcPendClear i.val v.toNat) u)) ∧
    (∀ (t : Fin 4), Does (.icVanishedRead dt t) s (onBar (icVanished t.val) u)) ∧
    (∀ (v : BitVec 32), Does (.icFaultClear dt v) s (onBar (icFaultClear v.toNat) u)) ∧
    (∀ (v : BitVec 32), Does (.icModeWrite dt v) s (onBar (icMode v.toNat) u)) ∧
    (∀ (src : Fin 256), Does (.coalesceTimeout dt src) s (closeWindow src.val u)) ∧
    (∀ (n : Fin 16) (bs : Bytes), Does (.crcData dt n bs) s (onBar (crcData n.val bs) u)) ∧
    (∀ (n : Fin 16) (v : BitVec 32), Does (.crcInit dt n v) s (onBar (crcCfg n.val (setBit v.toNat 16 true)) u)) ∧
    (∀ (n : Fin 16) (v : BitVec 32), Does (.crcCfgWrite dt n v) s (onBar (crcCfg n.val v.toNat) u)) ∧
    (∀ (n : Fin 16), Does (.crcStatRead dt n) s (onBar (crcStat n.val) u)) ∧
    (∀ (chan : Fin 2) (rank : Fin 4) (offset : Nat) (device : Option (Fin 20)) (user : DramUser), Does (.dramReadError dt chan
      rank offset device user) s (doReadError chan.val rank.val offset device user u)) ∧
    (∀ (chan : Fin 2) (decodes : Bool), Does (.dramReread dt chan decodes) s (doReread chan.val decodes u)) ∧
    (∀ (chan : Fin 2) (rank : Fin 4) (writeCrc : Bool), Does (.dramAlert dt chan rank writeCrc) s (if u.sys.mode == .boot then u
      else retire chan.val rank.val (if writeCrc then 2 else 1) u)) ∧
    (∀ (chan : Fin 2), Does (.migrationStart dt chan) s (doMigrationStart chan.val u)) ∧
    (∀ (chan : Fin 2), Does (.rankMigrated dt chan) s (doRankMigrated chan.val u)) ∧
    (∀ (chan : Fin 2) (reports : List (Option Int)), Does (.dramTempPoll dt chan reports) s (doTempPoll chan.val reports u)) ∧
    (∀ (chan : Fin 2), Does (.dramBandFall dt chan) s (doBandFall chan.val u)) ∧
    (∀ (chan : Fin 2), Does (.dramRefresh dt chan) s (if u.chanInService chan.val && decide ((u.chan chan.val).refreshAt +
      refreshCk (u.chan chan.val).band ≤ u.clk.core) then emit (.dram 0 chan.val 0 0) (setChan chan.val { (u.chan chan.val) with
      refreshAt := u.clk.core } u) else u)) ∧
    (∀ (chan : Fin 2), Does (.zqCalibration dt chan) s (if u.chanInService chan.val && decide ((u.chan chan.val).zqAt + msCk 128
      ≤ u.clk.core) then emit (.dram 1 chan.val 0 0) (setChan chan.val { (u.chan chan.val) with zqAt := u.clk.core } u) else u)) ∧
    (∀ (chan : Fin 2), Does (.dqsTracking dt chan) s (if u.chanInService chan.val && decide ((u.chan chan.val).dqsAt + msCk 10 ≤
      u.clk.core) then emit (.dram 2 chan.val 0 0) (setChan chan.val { (u.chan chan.val) with dqsAt := u.clk.core } u) else u)) ∧
    (∀ (chan : Fin 2), Does (.activationTableClear dt chan) s (if (u.chan chan.val).clearAt + msCk 32 ≤ u.clk.core then setChan
      chan.val { (u.chan chan.val) with tables := [], clearAt := u.clk.core } u else u)) ∧
    (∀ (chan : Fin 2) (bank row : Nat), Does (.hammerRefresh dt chan bank row) s (doHammer chan.val bank row u)) ∧
    (∀ (chan : Fin 2) (corrected : Option (Fin 20)), Does (.patrolScrub dt chan corrected) s (doPatrol chan.val corrected u)) ∧
    (∀ (readings : List (Option Int)), Does (.dieSensorSample dt readings) s (doDieSample readings u)) ∧
    (∀ (d : Fin 12), Does (.dieSensorSilent dt d) s (doDieSilent d.val u)) ∧
    (∀ (id : BitVec 16), Does (.sensorStale dt id) s (doSensorStale id.toNat u)) ∧
    Does (.calPhotoTimeout dt) s (doPhotoTimeout u) ∧
    Does (.pfailAssert dt) s (doPfailAssert u) ∧
    Does (.pfailRelease dt) s (if u.arc.pfail then raise 0x1104 0 [0, 0] { u with arc := { u.arc with pfail := false } } else u) ∧
    (∀ (straps : Fin 16), Does (.porst dt straps) s (coldReset straps.val u)) ∧
    Does (.resetPin dt) s (orStop 3 1 (warmReset 1) u) ∧
    Does (.resetTakeEffect dt) s (doResetTakes u) ∧
    Does (.watchdogExpiry dt) s (fatal 8 5 3 u) ∧
    Does (.lockstepMismatch dt) s (fatal 7 1 4 u) ∧
    Does (.fatalWarmReset dt) s (doFatalReset u) ∧
    (∀ (rail : Fin 10) (mv : Nat), Does (.supplyFault dt rail mv) s (doSupplyFault rail.val mv u)) ∧
    (∀ (which : ClockFault), Does (.clockFault dt which) s (doClockFault which u)) ∧
    (∀ (image : Bytes) (crc : BitVec 32), Does (.recoveryImageReceived dt image crc) s (doRecovery image crc.toNat u)) ∧
    (∀ (trained : List Bool), Does (.bootComplete dt trained) s (doBootComplete trained u)) ∧
    Does (.headPowerOff dt) s (doHeadPowerOff u) ∧
    Does (.selftestEnter dt) s (doTestEnter u) ∧
    (∀ (results : List DomainResult), Does (.selftestPhaseEnd dt results) s (doPhaseEnd results u)) ∧
    Does (.extest dt) s (draw (tapTake .extest .boundary u.capture u)) ∧
    Does (.idcode dt) s (setTap { u.tap with ir := .idcode, shiftOut := le 4 0x18512D37, pins := .engine } u) ∧
    (∀ (shiftIn : Bytes), Does (.samplePreload dt shiftIn) s
      (draw (setTap { ir := .sample, shiftOut := u.capture, boundary := shiftIn, pins := .engine } u))) ∧
    Does (.highz dt) s (tapTake .highz .highz [0] u) ∧
    Does (.clamp dt) s (tapTake .clamp .clamped [0] u) ∧
    Does (.extestPulse dt) s (draw (tapTake .extestPulse .pulsing u.capture u)) ∧
    Does (.extestTrain dt) s (draw (tapTake .extestTrain .training u.capture u)) ∧
    (∀ (opcode : Byte), Does (.bypass dt opcode) s (if opcode.toNat ≤ 6 then u else tapBypass u)) ∧
    (∀ (porstRise : Bool), Does (.tapReset dt porstRise) s (resetTap porstRise u)) ∧
    (∀ (bme : Option Bool) (power : Option PowerWrite) (other : Option ConfigWrite), Does (.configWrite dt bme power other) s
      (doConfigWrite bme power other u)) ∧
    (∀ (rail : Fin 10) (mv : Nat), Does (.supplyRestored dt rail mv) s (doSupplyRestored rail.val mv u)) ∧
    (∀ (which : ClockFault), Does (.clockRestored dt which) s (doClockRestored which u)) ∧
    (∀ (t1 : Nat) (delay : Option Nat) (epoch : Fin 16), Does (.pairLinkTimeSyncReceived dt t1 delay epoch) s (onPair
      (takeTimeSync t1 delay epoch.val) u)) ∧
    Does (.takeoverTickTimeout dt) s (doTickTimeout u) ∧
    Does (.ptpAnnounceSend dt) s (doAnnounceSend u) ∧
    Does (.announceReceiptTimeout dt) s (doAnnounceTimeout u) ∧
    Does (.hostHeartbeatTick dt) s (if u.host.ready && decide (u.host.heartbeatAt + msCk 1 ≤ u.clk.core) then { u with host := {
      u.host with heartbeat := wrapAdd 32 u.host.heartbeat 1, heartbeatAt := u.clk.core } } else u) ∧
    (∀ (src : NetSrc) (msg : Bytes), Does (.malformedMessage dt src msg) s (if wellFormed msg then u else onMessage 0 src msg
      (fun _ s => s) u))
end

