-- ==== Sys2Proof/Laws/Tab.lean ====
section
/-! SUPPORT. Tables: a read after a write of the same key gives the value written, and a write leaves every other key alone. -/

namespace Sys2Proof.Machine

variable {α : Type}

@[simp] theorem tget_nil (d : α) (i : Nat) : tget d [] i = d := rfl

@[simp] theorem tget_tset_self (d a : α) (t : Tab α) (i : Nat) : tget d (tset t i a) i = a := by
  induction t with
  | nil => simp [tset, tget]
  | cons p rest ih =>
    simp only [tset]
    split
    · simp [tget]
    · split
      · simp [tget]
      · simp only [tget]; rw [if_neg (by assumption)]; exact ih

theorem tget_tset_ne (d a : α) (t : Tab α) {i k : Nat} (h : k ≠ i) : tget d (tset t i a) k = tget d t k := by
  induction t with
  | nil => simp [tset, tget, h]
  | cons p rest ih =>
    simp only [tset]
    split
    · rename_i e; subst e; simp [tget, h]
    · split
      · simp [tget, h]
      · simp only [tget]; rw [ih]

@[simp] theorem thas_tset_self (a : α) (t : Tab α) (i : Nat) : thas (tset t i a) i = true := by
  induction t with
  | nil => simp [tset, thas]
  | cons p rest ih =>
    simp only [tset]
    split
    · simp [thas]
    · split
      · simp [thas]
      · simp only [thas, List.any_cons] at ih ⊢; rw [ih]; simp

@[simp] theorem tget_terase_self (d : α) (t : Tab α) (i : Nat) : tget d (terase t i) i = d := by
  induction t with
  | nil => rfl
  | cons p rest ih =>
    simp only [terase, List.filter_cons] at ih ⊢
    split
    · simp only [tget]
      rw [if_neg (by rename_i e; intro h; simp [h] at e)]; exact ih
    · exact ih

theorem tget_terase_ne (d : α) (t : Tab α) {i k : Nat} (h : k ≠ i) : tget d (terase t i) k = tget d t k := by
  induction t with
  | nil => rfl
  | cons p rest ih =>
    simp only [terase, List.filter_cons] at ih ⊢
    split
    · simp only [tget]; rw [ih]
    · rename_i e
      have : p.1 = i := by simpa using e
      simp only [tget]; rw [ih, if_neg (by rw [this]; exact h)]

end Sys2Proof.Machine
end

