-- ==== Sys2Proof/Laws/State.lean ====
section
/-! SUPPORT. What each elementary change of the state leaves as it was, one lemma for each field, and that a part reads as it
was last set. -/

namespace Sys2Proof.Machine

@[simp] theorem setAccRing_pending {r} {x} (s : State) : (setAccRing r x s).pending = s.pending := rfl
@[simp] theorem setAccRing_out {r} {x} (s : State) : (setAccRing r x s).out = s.out := rfl
@[simp] theorem setAccRing_free {r} {x} (s : State) : (setAccRing r x s).free = s.free := rfl
@[simp] theorem setAccRing_sys {r} {x} (s : State) : (setAccRing r x s).sys = s.sys := rfl
@[simp] theorem setAccRing_clk {r} {x} (s : State) : (setAccRing r x s).clk = s.clk := rfl
@[simp] theorem setAccRing_ptp {r} {x} (s : State) : (setAccRing r x s).ptp = s.ptp := rfl
@[simp] theorem setAccRing_prov {r} {x} (s : State) : (setAccRing r x s).prov = s.prov := rfl
@[simp] theorem setAccRing_cat {r} {x} (s : State) : (setAccRing r x s).cat = s.cat := rfl
@[simp] theorem setAccRing_host {r} {x} (s : State) : (setAccRing r x s).host = s.host := rfl
@[simp] theorem setAccRing_ic {r} {x} (s : State) : (setAccRing r x s).ic = s.ic := rfl
@[simp] theorem setAccRing_crc {r} {x} (s : State) : (setAccRing r x s).crc = s.crc := rfl
@[simp] theorem setAccRing_net {r} {x} (s : State) : (setAccRing r x s).net = s.net := rfl
@[simp] theorem setAccRing_pair {r} {x} (s : State) : (setAccRing r x s).pair = s.pair := rfl
@[simp] theorem setAccRing_dram {r} {x} (s : State) : (setAccRing r x s).dram = s.dram := rfl
@[simp] theorem setAccRing_therm {r} {x} (s : State) : (setAccRing r x s).therm = s.therm := rfl
@[simp] theorem setAccRing_cal {r} {x} (s : State) : (setAccRing r x s).cal = s.cal := rfl
@[simp] theorem setAccRing_arc {r} {x} (s : State) : (setAccRing r x s).arc = s.arc := rfl
@[simp] theorem setAccRing_encs {r} {x} (s : State) : (setAccRing r x s).encs = s.encs := rfl
@[simp] theorem setAccRing_lc {r} {x} (s : State) : (setAccRing r x s).lc = s.lc := rfl
@[simp] theorem setAccRing_probes {r} {x} (s : State) : (setAccRing r x s).probes = s.probes := rfl
@[simp] theorem setAccRing_cmps {r} {x} (s : State) : (setAccRing r x s).cmps = s.cmps := rfl
@[simp] theorem setAccRing_pulses {r} {x} (s : State) : (setAccRing r x s).pulses = s.pulses := rfl
@[simp] theorem setAccRing_emus {r} {x} (s : State) : (setAccRing r x s).emus = s.emus := rfl
@[simp] theorem setAccRing_gates {r} {x} (s : State) : (setAccRing r x s).gates = s.gates := rfl
@[simp] theorem setAccRing_pred {r} {x} (s : State) : (setAccRing r x s).pred = s.pred := rfl
@[simp] theorem setAccRing_regs {r} {x} (s : State) : (setAccRing r x s).regs = s.regs := rfl
@[simp] theorem setAccRing_lanes {r} {x} (s : State) : (setAccRing r x s).lanes = s.lanes := rfl
@[simp] theorem setAccRing_bays {r} {x} (s : State) : (setAccRing r x s).bays = s.bays := rfl
@[simp] theorem setAccRing_gals {r} {x} (s : State) : (setAccRing r x s).gals = s.gals := rfl
@[simp] theorem setAccRing_plans {r} {x} (s : State) : (setAccRing r x s).plans = s.plans := rfl
@[simp] theorem setAccRing_queues {r} {x} (s : State) : (setAccRing r x s).queues = s.queues := rfl
@[simp] theorem setAccRing_ctxs {r} {x} (s : State) : (setAccRing r x s).ctxs = s.ctxs := rfl
@[simp] theorem setAccRing_ports {r} {x} (s : State) : (setAccRing r x s).ports = s.ports := rfl
@[simp] theorem setAccRing_pipe {r} {x} (s : State) : (setAccRing r x s).pipe = s.pipe := rfl
@[simp] theorem setAccRing_loops {r} {x} (s : State) : (setAccRing r x s).loops = s.loops := rfl
@[simp] theorem setAccRing_reports {r} {x} (s : State) : (setAccRing r x s).reports = s.reports := rfl
@[simp] theorem setAccRing_lastContext {r} {x} (s : State) : (setAccRing r x s).lastContext = s.lastContext := rfl
@[simp] theorem setAccRing_sweeps {r} {x} (s : State) : (setAccRing r x s).sweeps = s.sweeps := rfl
@[simp] theorem setAccRing_sweep {r} {x} (s : State) : (setAccRing r x s).sweep = s.sweep := rfl
@[simp] theorem setAccRing_dgateAt {r} {x} (s : State) : (setAccRing r x s).dgateAt = s.dgateAt := rfl
@[simp] theorem setAccRing_lamps {r} {x} (s : State) : (setAccRing r x s).lamps = s.lamps := rfl
@[simp] theorem setAccRing_chains {r} {x} (s : State) : (setAccRing r x s).chains = s.chains := rfl
@[simp] theorem setAccRing_test {r} {x} (s : State) : (setAccRing r x s).test = s.test := rfl
@[simp] theorem setAccRing_tap {r} {x} (s : State) : (setAccRing r x s).tap = s.tap := rfl
@[simp] theorem setAccRing_porstLow {r} {x} (s : State) : (setAccRing r x s).porstLow = s.porstLow := rfl

@[simp] theorem setEgrRing_pending {e} {x} (s : State) : (setEgrRing e x s).pending = s.pending := rfl
@[simp] theorem setEgrRing_out {e} {x} (s : State) : (setEgrRing e x s).out = s.out := rfl
@[simp] theorem setEgrRing_free {e} {x} (s : State) : (setEgrRing e x s).free = s.free := rfl
@[simp] theorem setEgrRing_sys {e} {x} (s : State) : (setEgrRing e x s).sys = s.sys := rfl
@[simp] theorem setEgrRing_clk {e} {x} (s : State) : (setEgrRing e x s).clk = s.clk := rfl
@[simp] theorem setEgrRing_ptp {e} {x} (s : State) : (setEgrRing e x s).ptp = s.ptp := rfl
@[simp] theorem setEgrRing_prov {e} {x} (s : State) : (setEgrRing e x s).prov = s.prov := rfl
@[simp] theorem setEgrRing_cat {e} {x} (s : State) : (setEgrRing e x s).cat = s.cat := rfl
@[simp] theorem setEgrRing_host {e} {x} (s : State) : (setEgrRing e x s).host = s.host := rfl
@[simp] theorem setEgrRing_ic {e} {x} (s : State) : (setEgrRing e x s).ic = s.ic := rfl
@[simp] theorem setEgrRing_crc {e} {x} (s : State) : (setEgrRing e x s).crc = s.crc := rfl
@[simp] theorem setEgrRing_net {e} {x} (s : State) : (setEgrRing e x s).net = s.net := rfl
@[simp] theorem setEgrRing_pair {e} {x} (s : State) : (setEgrRing e x s).pair = s.pair := rfl
@[simp] theorem setEgrRing_dram {e} {x} (s : State) : (setEgrRing e x s).dram = s.dram := rfl
@[simp] theorem setEgrRing_therm {e} {x} (s : State) : (setEgrRing e x s).therm = s.therm := rfl
@[simp] theorem setEgrRing_cal {e} {x} (s : State) : (setEgrRing e x s).cal = s.cal := rfl
@[simp] theorem setEgrRing_arc {e} {x} (s : State) : (setEgrRing e x s).arc = s.arc := rfl
@[simp] theorem setEgrRing_encs {e} {x} (s : State) : (setEgrRing e x s).encs = s.encs := rfl
@[simp] theorem setEgrRing_lc {e} {x} (s : State) : (setEgrRing e x s).lc = s.lc := rfl
@[simp] theorem setEgrRing_probes {e} {x} (s : State) : (setEgrRing e x s).probes = s.probes := rfl
@[simp] theorem setEgrRing_cmps {e} {x} (s : State) : (setEgrRing e x s).cmps = s.cmps := rfl
@[simp] theorem setEgrRing_pulses {e} {x} (s : State) : (setEgrRing e x s).pulses = s.pulses := rfl
@[simp] theorem setEgrRing_emus {e} {x} (s : State) : (setEgrRing e x s).emus = s.emus := rfl
@[simp] theorem setEgrRing_gates {e} {x} (s : State) : (setEgrRing e x s).gates = s.gates := rfl
@[simp] theorem setEgrRing_pred {e} {x} (s : State) : (setEgrRing e x s).pred = s.pred := rfl
@[simp] theorem setEgrRing_regs {e} {x} (s : State) : (setEgrRing e x s).regs = s.regs := rfl
@[simp] theorem setEgrRing_lanes {e} {x} (s : State) : (setEgrRing e x s).lanes = s.lanes := rfl
@[simp] theorem setEgrRing_bays {e} {x} (s : State) : (setEgrRing e x s).bays = s.bays := rfl
@[simp] theorem setEgrRing_gals {e} {x} (s : State) : (setEgrRing e x s).gals = s.gals := rfl
@[simp] theorem setEgrRing_plans {e} {x} (s : State) : (setEgrRing e x s).plans = s.plans := rfl
@[simp] theorem setEgrRing_queues {e} {x} (s : State) : (setEgrRing e x s).queues = s.queues := rfl
@[simp] theorem setEgrRing_ctxs {e} {x} (s : State) : (setEgrRing e x s).ctxs = s.ctxs := rfl
@[simp] theorem setEgrRing_ports {e} {x} (s : State) : (setEgrRing e x s).ports = s.ports := rfl
@[simp] theorem setEgrRing_pipe {e} {x} (s : State) : (setEgrRing e x s).pipe = s.pipe := rfl
@[simp] theorem setEgrRing_loops {e} {x} (s : State) : (setEgrRing e x s).loops = s.loops := rfl
@[simp] theorem setEgrRing_reports {e} {x} (s : State) : (setEgrRing e x s).reports = s.reports := rfl
@[simp] theorem setEgrRing_lastContext {e} {x} (s : State) : (setEgrRing e x s).lastContext = s.lastContext := rfl
@[simp] theorem setEgrRing_sweeps {e} {x} (s : State) : (setEgrRing e x s).sweeps = s.sweeps := rfl
@[simp] theorem setEgrRing_sweep {e} {x} (s : State) : (setEgrRing e x s).sweep = s.sweep := rfl
@[simp] theorem setEgrRing_dgateAt {e} {x} (s : State) : (setEgrRing e x s).dgateAt = s.dgateAt := rfl
@[simp] theorem setEgrRing_lamps {e} {x} (s : State) : (setEgrRing e x s).lamps = s.lamps := rfl
@[simp] theorem setEgrRing_chains {e} {x} (s : State) : (setEgrRing e x s).chains = s.chains := rfl
@[simp] theorem setEgrRing_test {e} {x} (s : State) : (setEgrRing e x s).test = s.test := rfl
@[simp] theorem setEgrRing_tap {e} {x} (s : State) : (setEgrRing e x s).tap = s.tap := rfl
@[simp] theorem setEgrRing_porstLow {e} {x} (s : State) : (setEgrRing e x s).porstLow = s.porstLow := rfl

@[simp] theorem setArc_pending {type} {b} {x} (s : State) : (setArc type b x s).pending = s.pending := rfl
@[simp] theorem setArc_out {type} {b} {x} (s : State) : (setArc type b x s).out = s.out := rfl
@[simp] theorem setArc_free {type} {b} {x} (s : State) : (setArc type b x s).free = s.free := rfl
@[simp] theorem setArc_sys {type} {b} {x} (s : State) : (setArc type b x s).sys = s.sys := rfl
@[simp] theorem setArc_clk {type} {b} {x} (s : State) : (setArc type b x s).clk = s.clk := rfl
@[simp] theorem setArc_ptp {type} {b} {x} (s : State) : (setArc type b x s).ptp = s.ptp := rfl
@[simp] theorem setArc_prov {type} {b} {x} (s : State) : (setArc type b x s).prov = s.prov := rfl
@[simp] theorem setArc_cat {type} {b} {x} (s : State) : (setArc type b x s).cat = s.cat := rfl
@[simp] theorem setArc_host {type} {b} {x} (s : State) : (setArc type b x s).host = s.host := rfl
@[simp] theorem setArc_ic {type} {b} {x} (s : State) : (setArc type b x s).ic = s.ic := rfl
@[simp] theorem setArc_crc {type} {b} {x} (s : State) : (setArc type b x s).crc = s.crc := rfl
@[simp] theorem setArc_net {type} {b} {x} (s : State) : (setArc type b x s).net = s.net := rfl
@[simp] theorem setArc_pair {type} {b} {x} (s : State) : (setArc type b x s).pair = s.pair := rfl
@[simp] theorem setArc_res {type} {b} {x} (s : State) : (setArc type b x s).res = s.res := rfl
@[simp] theorem setArc_dram {type} {b} {x} (s : State) : (setArc type b x s).dram = s.dram := rfl
@[simp] theorem setArc_therm {type} {b} {x} (s : State) : (setArc type b x s).therm = s.therm := rfl
@[simp] theorem setArc_cal {type} {b} {x} (s : State) : (setArc type b x s).cal = s.cal := rfl
@[simp] theorem setArc_encs {type} {b} {x} (s : State) : (setArc type b x s).encs = s.encs := rfl
@[simp] theorem setArc_lc {type} {b} {x} (s : State) : (setArc type b x s).lc = s.lc := rfl
@[simp] theorem setArc_probes {type} {b} {x} (s : State) : (setArc type b x s).probes = s.probes := rfl
@[simp] theorem setArc_cmps {type} {b} {x} (s : State) : (setArc type b x s).cmps = s.cmps := rfl
@[simp] theorem setArc_pulses {type} {b} {x} (s : State) : (setArc type b x s).pulses = s.pulses := rfl
@[simp] theorem setArc_emus {type} {b} {x} (s : State) : (setArc type b x s).emus = s.emus := rfl
@[simp] theorem setArc_gates {type} {b} {x} (s : State) : (setArc type b x s).gates = s.gates := rfl
@[simp] theorem setArc_pred {type} {b} {x} (s : State) : (setArc type b x s).pred = s.pred := rfl
@[simp] theorem setArc_regs {type} {b} {x} (s : State) : (setArc type b x s).regs = s.regs := rfl
@[simp] theorem setArc_lanes {type} {b} {x} (s : State) : (setArc type b x s).lanes = s.lanes := rfl
@[simp] theorem setArc_bays {type} {b} {x} (s : State) : (setArc type b x s).bays = s.bays := rfl
@[simp] theorem setArc_gals {type} {b} {x} (s : State) : (setArc type b x s).gals = s.gals := rfl
@[simp] theorem setArc_plans {type} {b} {x} (s : State) : (setArc type b x s).plans = s.plans := rfl
@[simp] theorem setArc_queues {type} {b} {x} (s : State) : (setArc type b x s).queues = s.queues := rfl
@[simp] theorem setArc_ctxs {type} {b} {x} (s : State) : (setArc type b x s).ctxs = s.ctxs := rfl
@[simp] theorem setArc_ports {type} {b} {x} (s : State) : (setArc type b x s).ports = s.ports := rfl
@[simp] theorem setArc_pipe {type} {b} {x} (s : State) : (setArc type b x s).pipe = s.pipe := rfl
@[simp] theorem setArc_loops {type} {b} {x} (s : State) : (setArc type b x s).loops = s.loops := rfl
@[simp] theorem setArc_reports {type} {b} {x} (s : State) : (setArc type b x s).reports = s.reports := rfl
@[simp] theorem setArc_lastContext {type} {b} {x} (s : State) : (setArc type b x s).lastContext = s.lastContext := rfl
@[simp] theorem setArc_sweeps {type} {b} {x} (s : State) : (setArc type b x s).sweeps = s.sweeps := rfl
@[simp] theorem setArc_sweep {type} {b} {x} (s : State) : (setArc type b x s).sweep = s.sweep := rfl
@[simp] theorem setArc_dgateAt {type} {b} {x} (s : State) : (setArc type b x s).dgateAt = s.dgateAt := rfl
@[simp] theorem setArc_lamps {type} {b} {x} (s : State) : (setArc type b x s).lamps = s.lamps := rfl
@[simp] theorem setArc_chains {type} {b} {x} (s : State) : (setArc type b x s).chains = s.chains := rfl
@[simp] theorem setArc_test {type} {b} {x} (s : State) : (setArc type b x s).test = s.test := rfl
@[simp] theorem setArc_tap {type} {b} {x} (s : State) : (setArc type b x s).tap = s.tap := rfl
@[simp] theorem setArc_porstLow {type} {b} {x} (s : State) : (setArc type b x s).porstLow = s.porstLow := rfl

@[simp] theorem setImage_pending {n} {x} (s : State) : (setImage n x s).pending = s.pending := rfl
@[simp] theorem setImage_out {n} {x} (s : State) : (setImage n x s).out = s.out := rfl
@[simp] theorem setImage_free {n} {x} (s : State) : (setImage n x s).free = s.free := rfl
@[simp] theorem setImage_clk {n} {x} (s : State) : (setImage n x s).clk = s.clk := rfl
@[simp] theorem setImage_ptp {n} {x} (s : State) : (setImage n x s).ptp = s.ptp := rfl
@[simp] theorem setImage_prov {n} {x} (s : State) : (setImage n x s).prov = s.prov := rfl
@[simp] theorem setImage_cat {n} {x} (s : State) : (setImage n x s).cat = s.cat := rfl
@[simp] theorem setImage_host {n} {x} (s : State) : (setImage n x s).host = s.host := rfl
@[simp] theorem setImage_ic {n} {x} (s : State) : (setImage n x s).ic = s.ic := rfl
@[simp] theorem setImage_crc {n} {x} (s : State) : (setImage n x s).crc = s.crc := rfl
@[simp] theorem setImage_net {n} {x} (s : State) : (setImage n x s).net = s.net := rfl
@[simp] theorem setImage_pair {n} {x} (s : State) : (setImage n x s).pair = s.pair := rfl
@[simp] theorem setImage_res {n} {x} (s : State) : (setImage n x s).res = s.res := rfl
@[simp] theorem setImage_dram {n} {x} (s : State) : (setImage n x s).dram = s.dram := rfl
@[simp] theorem setImage_therm {n} {x} (s : State) : (setImage n x s).therm = s.therm := rfl
@[simp] theorem setImage_cal {n} {x} (s : State) : (setImage n x s).cal = s.cal := rfl
@[simp] theorem setImage_arc {n} {x} (s : State) : (setImage n x s).arc = s.arc := rfl
@[simp] theorem setImage_encs {n} {x} (s : State) : (setImage n x s).encs = s.encs := rfl
@[simp] theorem setImage_lc {n} {x} (s : State) : (setImage n x s).lc = s.lc := rfl
@[simp] theorem setImage_probes {n} {x} (s : State) : (setImage n x s).probes = s.probes := rfl
@[simp] theorem setImage_cmps {n} {x} (s : State) : (setImage n x s).cmps = s.cmps := rfl
@[simp] theorem setImage_pulses {n} {x} (s : State) : (setImage n x s).pulses = s.pulses := rfl
@[simp] theorem setImage_emus {n} {x} (s : State) : (setImage n x s).emus = s.emus := rfl
@[simp] theorem setImage_gates {n} {x} (s : State) : (setImage n x s).gates = s.gates := rfl
@[simp] theorem setImage_pred {n} {x} (s : State) : (setImage n x s).pred = s.pred := rfl
@[simp] theorem setImage_regs {n} {x} (s : State) : (setImage n x s).regs = s.regs := rfl
@[simp] theorem setImage_lanes {n} {x} (s : State) : (setImage n x s).lanes = s.lanes := rfl
@[simp] theorem setImage_bays {n} {x} (s : State) : (setImage n x s).bays = s.bays := rfl
@[simp] theorem setImage_gals {n} {x} (s : State) : (setImage n x s).gals = s.gals := rfl
@[simp] theorem setImage_plans {n} {x} (s : State) : (setImage n x s).plans = s.plans := rfl
@[simp] theorem setImage_queues {n} {x} (s : State) : (setImage n x s).queues = s.queues := rfl
@[simp] theorem setImage_ctxs {n} {x} (s : State) : (setImage n x s).ctxs = s.ctxs := rfl
@[simp] theorem setImage_ports {n} {x} (s : State) : (setImage n x s).ports = s.ports := rfl
@[simp] theorem setImage_pipe {n} {x} (s : State) : (setImage n x s).pipe = s.pipe := rfl
@[simp] theorem setImage_loops {n} {x} (s : State) : (setImage n x s).loops = s.loops := rfl
@[simp] theorem setImage_reports {n} {x} (s : State) : (setImage n x s).reports = s.reports := rfl
@[simp] theorem setImage_lastContext {n} {x} (s : State) : (setImage n x s).lastContext = s.lastContext := rfl
@[simp] theorem setImage_sweeps {n} {x} (s : State) : (setImage n x s).sweeps = s.sweeps := rfl
@[simp] theorem setImage_sweep {n} {x} (s : State) : (setImage n x s).sweep = s.sweep := rfl
@[simp] theorem setImage_dgateAt {n} {x} (s : State) : (setImage n x s).dgateAt = s.dgateAt := rfl
@[simp] theorem setImage_lamps {n} {x} (s : State) : (setImage n x s).lamps = s.lamps := rfl
@[simp] theorem setImage_chains {n} {x} (s : State) : (setImage n x s).chains = s.chains := rfl
@[simp] theorem setImage_test {n} {x} (s : State) : (setImage n x s).test = s.test := rfl
@[simp] theorem setImage_tap {n} {x} (s : State) : (setImage n x s).tap = s.tap := rfl
@[simp] theorem setImage_porstLow {n} {x} (s : State) : (setImage n x s).porstLow = s.porstLow := rfl

@[simp] theorem setCtx_pending {c} {x} (s : State) : (setCtx c x s).pending = s.pending := rfl
@[simp] theorem setCtx_out {c} {x} (s : State) : (setCtx c x s).out = s.out := rfl
@[simp] theorem setCtx_free {c} {x} (s : State) : (setCtx c x s).free = s.free := rfl
@[simp] theorem setCtx_sys {c} {x} (s : State) : (setCtx c x s).sys = s.sys := rfl
@[simp] theorem setCtx_clk {c} {x} (s : State) : (setCtx c x s).clk = s.clk := rfl
@[simp] theorem setCtx_ptp {c} {x} (s : State) : (setCtx c x s).ptp = s.ptp := rfl
@[simp] theorem setCtx_prov {c} {x} (s : State) : (setCtx c x s).prov = s.prov := rfl
@[simp] theorem setCtx_cat {c} {x} (s : State) : (setCtx c x s).cat = s.cat := rfl
@[simp] theorem setCtx_host {c} {x} (s : State) : (setCtx c x s).host = s.host := rfl
@[simp] theorem setCtx_ic {c} {x} (s : State) : (setCtx c x s).ic = s.ic := rfl
@[simp] theorem setCtx_crc {c} {x} (s : State) : (setCtx c x s).crc = s.crc := rfl
@[simp] theorem setCtx_net {c} {x} (s : State) : (setCtx c x s).net = s.net := rfl
@[simp] theorem setCtx_pair {c} {x} (s : State) : (setCtx c x s).pair = s.pair := rfl
@[simp] theorem setCtx_res {c} {x} (s : State) : (setCtx c x s).res = s.res := rfl
@[simp] theorem setCtx_dram {c} {x} (s : State) : (setCtx c x s).dram = s.dram := rfl
@[simp] theorem setCtx_therm {c} {x} (s : State) : (setCtx c x s).therm = s.therm := rfl
@[simp] theorem setCtx_cal {c} {x} (s : State) : (setCtx c x s).cal = s.cal := rfl
@[simp] theorem setCtx_arc {c} {x} (s : State) : (setCtx c x s).arc = s.arc := rfl
@[simp] theorem setCtx_encs {c} {x} (s : State) : (setCtx c x s).encs = s.encs := rfl
@[simp] theorem setCtx_lc {c} {x} (s : State) : (setCtx c x s).lc = s.lc := rfl
@[simp] theorem setCtx_probes {c} {x} (s : State) : (setCtx c x s).probes = s.probes := rfl
@[simp] theorem setCtx_cmps {c} {x} (s : State) : (setCtx c x s).cmps = s.cmps := rfl
@[simp] theorem setCtx_pulses {c} {x} (s : State) : (setCtx c x s).pulses = s.pulses := rfl
@[simp] theorem setCtx_emus {c} {x} (s : State) : (setCtx c x s).emus = s.emus := rfl
@[simp] theorem setCtx_gates {c} {x} (s : State) : (setCtx c x s).gates = s.gates := rfl
@[simp] theorem setCtx_pred {c} {x} (s : State) : (setCtx c x s).pred = s.pred := rfl
@[simp] theorem setCtx_regs {c} {x} (s : State) : (setCtx c x s).regs = s.regs := rfl
@[simp] theorem setCtx_lanes {c} {x} (s : State) : (setCtx c x s).lanes = s.lanes := rfl
@[simp] theorem setCtx_bays {c} {x} (s : State) : (setCtx c x s).bays = s.bays := rfl
@[simp] theorem setCtx_gals {c} {x} (s : State) : (setCtx c x s).gals = s.gals := rfl
@[simp] theorem setCtx_plans {c} {x} (s : State) : (setCtx c x s).plans = s.plans := rfl
@[simp] theorem setCtx_queues {c} {x} (s : State) : (setCtx c x s).queues = s.queues := rfl
@[simp] theorem setCtx_ports {c} {x} (s : State) : (setCtx c x s).ports = s.ports := rfl
@[simp] theorem setCtx_pipe {c} {x} (s : State) : (setCtx c x s).pipe = s.pipe := rfl
@[simp] theorem setCtx_loops {c} {x} (s : State) : (setCtx c x s).loops = s.loops := rfl
@[simp] theorem setCtx_reports {c} {x} (s : State) : (setCtx c x s).reports = s.reports := rfl
@[simp] theorem setCtx_lastContext {c} {x} (s : State) : (setCtx c x s).lastContext = s.lastContext := rfl
@[simp] theorem setCtx_sweeps {c} {x} (s : State) : (setCtx c x s).sweeps = s.sweeps := rfl
@[simp] theorem setCtx_sweep {c} {x} (s : State) : (setCtx c x s).sweep = s.sweep := rfl
@[simp] theorem setCtx_dgateAt {c} {x} (s : State) : (setCtx c x s).dgateAt = s.dgateAt := rfl
@[simp] theorem setCtx_lamps {c} {x} (s : State) : (setCtx c x s).lamps = s.lamps := rfl
@[simp] theorem setCtx_chains {c} {x} (s : State) : (setCtx c x s).chains = s.chains := rfl
@[simp] theorem setCtx_test {c} {x} (s : State) : (setCtx c x s).test = s.test := rfl
@[simp] theorem setCtx_tap {c} {x} (s : State) : (setCtx c x s).tap = s.tap := rfl
@[simp] theorem setCtx_porstLow {c} {x} (s : State) : (setCtx c x s).porstLow = s.porstLow := rfl
@[simp] theorem setCtx_ctx {c} {x} (s : State) : (setCtx c x s).ctx c = x := by simp [setCtx, State.ctx]
theorem setCtx_ctx_ne {c j} {x} (s : State) (h : j ≠ c) : (setCtx c x s).ctx j = s.ctx j := by
  simp [setCtx, State.ctx, tget_tset_ne _ _ _ h]

@[simp] theorem setPort_pending {p} {x} (s : State) : (setPort p x s).pending = s.pending := rfl
@[simp] theorem setPort_out {p} {x} (s : State) : (setPort p x s).out = s.out := rfl
@[simp] theorem setPort_free {p} {x} (s : State) : (setPort p x s).free = s.free := rfl
@[simp] theorem setPort_sys {p} {x} (s : State) : (setPort p x s).sys = s.sys := rfl
@[simp] theorem setPort_clk {p} {x} (s : State) : (setPort p x s).clk = s.clk := rfl
@[simp] theorem setPort_ptp {p} {x} (s : State) : (setPort p x s).ptp = s.ptp := rfl
@[simp] theorem setPort_prov {p} {x} (s : State) : (setPort p x s).prov = s.prov := rfl
@[simp] theorem setPort_cat {p} {x} (s : State) : (setPort p x s).cat = s.cat := rfl
@[simp] theorem setPort_host {p} {x} (s : State) : (setPort p x s).host = s.host := rfl
@[simp] theorem setPort_ic {p} {x} (s : State) : (setPort p x s).ic = s.ic := rfl
@[simp] theorem setPort_crc {p} {x} (s : State) : (setPort p x s).crc = s.crc := rfl
@[simp] theorem setPort_net {p} {x} (s : State) : (setPort p x s).net = s.net := rfl
@[simp] theorem setPort_pair {p} {x} (s : State) : (setPort p x s).pair = s.pair := rfl
@[simp] theorem setPort_res {p} {x} (s : State) : (setPort p x s).res = s.res := rfl
@[simp] theorem setPort_dram {p} {x} (s : State) : (setPort p x s).dram = s.dram := rfl
@[simp] theorem setPort_therm {p} {x} (s : State) : (setPort p x s).therm = s.therm := rfl
@[simp] theorem setPort_cal {p} {x} (s : State) : (setPort p x s).cal = s.cal := rfl
@[simp] theorem setPort_arc {p} {x} (s : State) : (setPort p x s).arc = s.arc := rfl
@[simp] theorem setPort_encs {p} {x} (s : State) : (setPort p x s).encs = s.encs := rfl
@[simp] theorem setPort_lc {p} {x} (s : State) : (setPort p x s).lc = s.lc := rfl
@[simp] theorem setPort_probes {p} {x} (s : State) : (setPort p x s).probes = s.probes := rfl
@[simp] theorem setPort_cmps {p} {x} (s : State) : (setPort p x s).cmps = s.cmps := rfl
@[simp] theorem setPort_pulses {p} {x} (s : State) : (setPort p x s).pulses = s.pulses := rfl
@[simp] theorem setPort_emus {p} {x} (s : State) : (setPort p x s).emus = s.emus := rfl
@[simp] theorem setPort_gates {p} {x} (s : State) : (setPort p x s).gates = s.gates := rfl
@[simp] theorem setPort_pred {p} {x} (s : State) : (setPort p x s).pred = s.pred := rfl
@[simp] theorem setPort_regs {p} {x} (s : State) : (setPort p x s).regs = s.regs := rfl
@[simp] theorem setPort_lanes {p} {x} (s : State) : (setPort p x s).lanes = s.lanes := rfl
@[simp] theorem setPort_bays {p} {x} (s : State) : (setPort p x s).bays = s.bays := rfl
@[simp] theorem setPort_gals {p} {x} (s : State) : (setPort p x s).gals = s.gals := rfl
@[simp] theorem setPort_plans {p} {x} (s : State) : (setPort p x s).plans = s.plans := rfl
@[simp] theorem setPort_queues {p} {x} (s : State) : (setPort p x s).queues = s.queues := rfl
@[simp] theorem setPort_ctxs {p} {x} (s : State) : (setPort p x s).ctxs = s.ctxs := rfl
@[simp] theorem setPort_pipe {p} {x} (s : State) : (setPort p x s).pipe = s.pipe := rfl
@[simp] theorem setPort_loops {p} {x} (s : State) : (setPort p x s).loops = s.loops := rfl
@[simp] theorem setPort_reports {p} {x} (s : State) : (setPort p x s).reports = s.reports := rfl
@[simp] theorem setPort_lastContext {p} {x} (s : State) : (setPort p x s).lastContext = s.lastContext := rfl
@[simp] theorem setPort_sweeps {p} {x} (s : State) : (setPort p x s).sweeps = s.sweeps := rfl
@[simp] theorem setPort_sweep {p} {x} (s : State) : (setPort p x s).sweep = s.sweep := rfl
@[simp] theorem setPort_dgateAt {p} {x} (s : State) : (setPort p x s).dgateAt = s.dgateAt := rfl
@[simp] theorem setPort_lamps {p} {x} (s : State) : (setPort p x s).lamps = s.lamps := rfl
@[simp] theorem setPort_chains {p} {x} (s : State) : (setPort p x s).chains = s.chains := rfl
@[simp] theorem setPort_test {p} {x} (s : State) : (setPort p x s).test = s.test := rfl
@[simp] theorem setPort_tap {p} {x} (s : State) : (setPort p x s).tap = s.tap := rfl
@[simp] theorem setPort_porstLow {p} {x} (s : State) : (setPort p x s).porstLow = s.porstLow := rfl
@[simp] theorem setPort_port {p} {x} (s : State) : (setPort p x s).port p = x := by simp [setPort, State.port]
theorem setPort_port_ne {p j} {x} (s : State) (h : j ≠ p) : (setPort p x s).port j = s.port j := by
  simp [setPort, State.port, tget_tset_ne _ _ _ h]

@[simp] theorem setQueue_pending {q} {c} (s : State) : (setQueue q c s).pending = s.pending := rfl
@[simp] theorem setQueue_out {q} {c} (s : State) : (setQueue q c s).out = s.out := rfl
@[simp] theorem setQueue_free {q} {c} (s : State) : (setQueue q c s).free = s.free := rfl
@[simp] theorem setQueue_sys {q} {c} (s : State) : (setQueue q c s).sys = s.sys := rfl
@[simp] theorem setQueue_clk {q} {c} (s : State) : (setQueue q c s).clk = s.clk := rfl
@[simp] theorem setQueue_ptp {q} {c} (s : State) : (setQueue q c s).ptp = s.ptp := rfl
@[simp] theorem setQueue_prov {q} {c} (s : State) : (setQueue q c s).prov = s.prov := rfl
@[simp] theorem setQueue_cat {q} {c} (s : State) : (setQueue q c s).cat = s.cat := rfl
@[simp] theorem setQueue_host {q} {c} (s : State) : (setQueue q c s).host = s.host := rfl
@[simp] theorem setQueue_ic {q} {c} (s : State) : (setQueue q c s).ic = s.ic := rfl
@[simp] theorem setQueue_crc {q} {c} (s : State) : (setQueue q c s).crc = s.crc := rfl
@[simp] theorem setQueue_net {q} {c} (s : State) : (setQueue q c s).net = s.net := rfl
@[simp] theorem setQueue_pair {q} {c} (s : State) : (setQueue q c s).pair = s.pair := rfl
@[simp] theorem setQueue_res {q} {c} (s : State) : (setQueue q c s).res = s.res := rfl
@[simp] theorem setQueue_dram {q} {c} (s : State) : (setQueue q c s).dram = s.dram := rfl
@[simp] theorem setQueue_therm {q} {c} (s : State) : (setQueue q c s).therm = s.therm := rfl
@[simp] theorem setQueue_cal {q} {c} (s : State) : (setQueue q c s).cal = s.cal := rfl
@[simp] theorem setQueue_arc {q} {c} (s : State) : (setQueue q c s).arc = s.arc := rfl
@[simp] theorem setQueue_encs {q} {c} (s : State) : (setQueue q c s).encs = s.encs := rfl
@[simp] theorem setQueue_lc {q} {c} (s : State) : (setQueue q c s).lc = s.lc := rfl
@[simp] theorem setQueue_probes {q} {c} (s : State) : (setQueue q c s).probes = s.probes := rfl
@[simp] theorem setQueue_cmps {q} {c} (s : State) : (setQueue q c s).cmps = s.cmps := rfl
@[simp] theorem setQueue_pulses {q} {c} (s : State) : (setQueue q c s).pulses = s.pulses := rfl
@[simp] theorem setQueue_emus {q} {c} (s : State) : (setQueue q c s).emus = s.emus := rfl
@[simp] theorem setQueue_gates {q} {c} (s : State) : (setQueue q c s).gates = s.gates := rfl
@[simp] theorem setQueue_pred {q} {c} (s : State) : (setQueue q c s).pred = s.pred := rfl
@[simp] theorem setQueue_regs {q} {c} (s : State) : (setQueue q c s).regs = s.regs := rfl
@[simp] theorem setQueue_lanes {q} {c} (s : State) : (setQueue q c s).lanes = s.lanes := rfl
@[simp] theorem setQueue_bays {q} {c} (s : State) : (setQueue q c s).bays = s.bays := rfl
@[simp] theorem setQueue_gals {q} {c} (s : State) : (setQueue q c s).gals = s.gals := rfl
@[simp] theorem setQueue_plans {q} {c} (s : State) : (setQueue q c s).plans = s.plans := rfl
@[simp] theorem setQueue_ctxs {q} {c} (s : State) : (setQueue q c s).ctxs = s.ctxs := rfl
@[simp] theorem setQueue_ports {q} {c} (s : State) : (setQueue q c s).ports = s.ports := rfl
@[simp] theorem setQueue_pipe {q} {c} (s : State) : (setQueue q c s).pipe = s.pipe := rfl
@[simp] theorem setQueue_loops {q} {c} (s : State) : (setQueue q c s).loops = s.loops := rfl
@[simp] theorem setQueue_reports {q} {c} (s : State) : (setQueue q c s).reports = s.reports := rfl
@[simp] theorem setQueue_lastContext {q} {c} (s : State) : (setQueue q c s).lastContext = s.lastContext := rfl
@[simp] theorem setQueue_sweeps {q} {c} (s : State) : (setQueue q c s).sweeps = s.sweeps := rfl
@[simp] theorem setQueue_sweep {q} {c} (s : State) : (setQueue q c s).sweep = s.sweep := rfl
@[simp] theorem setQueue_dgateAt {q} {c} (s : State) : (setQueue q c s).dgateAt = s.dgateAt := rfl
@[simp] theorem setQueue_lamps {q} {c} (s : State) : (setQueue q c s).lamps = s.lamps := rfl
@[simp] theorem setQueue_chains {q} {c} (s : State) : (setQueue q c s).chains = s.chains := rfl
@[simp] theorem setQueue_test {q} {c} (s : State) : (setQueue q c s).test = s.test := rfl
@[simp] theorem setQueue_tap {q} {c} (s : State) : (setQueue q c s).tap = s.tap := rfl
@[simp] theorem setQueue_porstLow {q} {c} (s : State) : (setQueue q c s).porstLow = s.porstLow := rfl
@[simp] theorem setQueue_queue {q} {c} (s : State) : (setQueue q c s).queue q = c := by simp [setQueue, State.queue]
theorem setQueue_queue_ne {q j} {c} (s : State) (h : j ≠ q) : (setQueue q c s).queue j = s.queue j := by
  simp [setQueue, State.queue, tget_tset_ne _ _ _ h]

@[simp] theorem setCrc_pending {n} {c} (s : State) : (setCrc n c s).pending = s.pending := rfl
@[simp] theorem setCrc_out {n} {c} (s : State) : (setCrc n c s).out = s.out := rfl
@[simp] theorem setCrc_free {n} {c} (s : State) : (setCrc n c s).free = s.free := rfl
@[simp] theorem setCrc_sys {n} {c} (s : State) : (setCrc n c s).sys = s.sys := rfl
@[simp] theorem setCrc_clk {n} {c} (s : State) : (setCrc n c s).clk = s.clk := rfl
@[simp] theorem setCrc_ptp {n} {c} (s : State) : (setCrc n c s).ptp = s.ptp := rfl
@[simp] theorem setCrc_prov {n} {c} (s : State) : (setCrc n c s).prov = s.prov := rfl
@[simp] theorem setCrc_cat {n} {c} (s : State) : (setCrc n c s).cat = s.cat := rfl
@[simp] theorem setCrc_host {n} {c} (s : State) : (setCrc n c s).host = s.host := rfl
@[simp] theorem setCrc_ic {n} {c} (s : State) : (setCrc n c s).ic = s.ic := rfl
@[simp] theorem setCrc_net {n} {c} (s : State) : (setCrc n c s).net = s.net := rfl
@[simp] theorem setCrc_pair {n} {c} (s : State) : (setCrc n c s).pair = s.pair := rfl
@[simp] theorem setCrc_res {n} {c} (s : State) : (setCrc n c s).res = s.res := rfl
@[simp] theorem setCrc_dram {n} {c} (s : State) : (setCrc n c s).dram = s.dram := rfl
@[simp] theorem setCrc_therm {n} {c} (s : State) : (setCrc n c s).therm = s.therm := rfl
@[simp] theorem setCrc_cal {n} {c} (s : State) : (setCrc n c s).cal = s.cal := rfl
@[simp] theorem setCrc_arc {n} {c} (s : State) : (setCrc n c s).arc = s.arc := rfl
@[simp] theorem setCrc_encs {n} {c} (s : State) : (setCrc n c s).encs = s.encs := rfl
@[simp] theorem setCrc_lc {n} {c} (s : State) : (setCrc n c s).lc = s.lc := rfl
@[simp] theorem setCrc_probes {n} {c} (s : State) : (setCrc n c s).probes = s.probes := rfl
@[simp] theorem setCrc_cmps {n} {c} (s : State) : (setCrc n c s).cmps = s.cmps := rfl
@[simp] theorem setCrc_pulses {n} {c} (s : State) : (setCrc n c s).pulses = s.pulses := rfl
@[simp] theorem setCrc_emus {n} {c} (s : State) : (setCrc n c s).emus = s.emus := rfl
@[simp] theorem setCrc_gates {n} {c} (s : State) : (setCrc n c s).gates = s.gates := rfl
@[simp] theorem setCrc_pred {n} {c} (s : State) : (setCrc n c s).pred = s.pred := rfl
@[simp] theorem setCrc_regs {n} {c} (s : State) : (setCrc n c s).regs = s.regs := rfl
@[simp] theorem setCrc_lanes {n} {c} (s : State) : (setCrc n c s).lanes = s.lanes := rfl
@[simp] theorem setCrc_bays {n} {c} (s : State) : (setCrc n c s).bays = s.bays := rfl
@[simp] theorem setCrc_gals {n} {c} (s : State) : (setCrc n c s).gals = s.gals := rfl
@[simp] theorem setCrc_plans {n} {c} (s : State) : (setCrc n c s).plans = s.plans := rfl
@[simp] theorem setCrc_queues {n} {c} (s : State) : (setCrc n c s).queues = s.queues := rfl
@[simp] theorem setCrc_ctxs {n} {c} (s : State) : (setCrc n c s).ctxs = s.ctxs := rfl
@[simp] theorem setCrc_ports {n} {c} (s : State) : (setCrc n c s).ports = s.ports := rfl
@[simp] theorem setCrc_pipe {n} {c} (s : State) : (setCrc n c s).pipe = s.pipe := rfl
@[simp] theorem setCrc_loops {n} {c} (s : State) : (setCrc n c s).loops = s.loops := rfl
@[simp] theorem setCrc_reports {n} {c} (s : State) : (setCrc n c s).reports = s.reports := rfl
@[simp] theorem setCrc_lastContext {n} {c} (s : State) : (setCrc n c s).lastContext = s.lastContext := rfl
@[simp] theorem setCrc_sweeps {n} {c} (s : State) : (setCrc n c s).sweeps = s.sweeps := rfl
@[simp] theorem setCrc_sweep {n} {c} (s : State) : (setCrc n c s).sweep = s.sweep := rfl
@[simp] theorem setCrc_dgateAt {n} {c} (s : State) : (setCrc n c s).dgateAt = s.dgateAt := rfl
@[simp] theorem setCrc_lamps {n} {c} (s : State) : (setCrc n c s).lamps = s.lamps := rfl
@[simp] theorem setCrc_chains {n} {c} (s : State) : (setCrc n c s).chains = s.chains := rfl
@[simp] theorem setCrc_test {n} {c} (s : State) : (setCrc n c s).test = s.test := rfl
@[simp] theorem setCrc_tap {n} {c} (s : State) : (setCrc n c s).tap = s.tap := rfl
@[simp] theorem setCrc_porstLow {n} {c} (s : State) : (setCrc n c s).porstLow = s.porstLow := rfl
@[simp] theorem setCrc_crcCh {n} {c} (s : State) : (setCrc n c s).crcCh n = c := by simp [setCrc, State.crcCh]
theorem setCrc_crcCh_ne {n j} {c} (s : State) (h : j ≠ n) : (setCrc n c s).crcCh j = s.crcCh j := by
  simp [setCrc, State.crcCh, tget_tset_ne _ _ _ h]

@[simp] theorem setRank_pending {c} {r} {x} (s : State) : (setRank c r x s).pending = s.pending := rfl
@[simp] theorem setRank_out {c} {r} {x} (s : State) : (setRank c r x s).out = s.out := rfl
@[simp] theorem setRank_free {c} {r} {x} (s : State) : (setRank c r x s).free = s.free := rfl
@[simp] theorem setRank_sys {c} {r} {x} (s : State) : (setRank c r x s).sys = s.sys := rfl
@[simp] theorem setRank_clk {c} {r} {x} (s : State) : (setRank c r x s).clk = s.clk := rfl
@[simp] theorem setRank_ptp {c} {r} {x} (s : State) : (setRank c r x s).ptp = s.ptp := rfl
@[simp] theorem setRank_prov {c} {r} {x} (s : State) : (setRank c r x s).prov = s.prov := rfl
@[simp] theorem setRank_cat {c} {r} {x} (s : State) : (setRank c r x s).cat = s.cat := rfl
@[simp] theorem setRank_host {c} {r} {x} (s : State) : (setRank c r x s).host = s.host := rfl
@[simp] theorem setRank_ic {c} {r} {x} (s : State) : (setRank c r x s).ic = s.ic := rfl
@[simp] theorem setRank_crc {c} {r} {x} (s : State) : (setRank c r x s).crc = s.crc := rfl
@[simp] theorem setRank_net {c} {r} {x} (s : State) : (setRank c r x s).net = s.net := rfl
@[simp] theorem setRank_pair {c} {r} {x} (s : State) : (setRank c r x s).pair = s.pair := rfl
@[simp] theorem setRank_res {c} {r} {x} (s : State) : (setRank c r x s).res = s.res := rfl
@[simp] theorem setRank_therm {c} {r} {x} (s : State) : (setRank c r x s).therm = s.therm := rfl
@[simp] theorem setRank_cal {c} {r} {x} (s : State) : (setRank c r x s).cal = s.cal := rfl
@[simp] theorem setRank_arc {c} {r} {x} (s : State) : (setRank c r x s).arc = s.arc := rfl
@[simp] theorem setRank_encs {c} {r} {x} (s : State) : (setRank c r x s).encs = s.encs := rfl
@[simp] theorem setRank_lc {c} {r} {x} (s : State) : (setRank c r x s).lc = s.lc := rfl
@[simp] theorem setRank_probes {c} {r} {x} (s : State) : (setRank c r x s).probes = s.probes := rfl
@[simp] theorem setRank_cmps {c} {r} {x} (s : State) : (setRank c r x s).cmps = s.cmps := rfl
@[simp] theorem setRank_pulses {c} {r} {x} (s : State) : (setRank c r x s).pulses = s.pulses := rfl
@[simp] theorem setRank_emus {c} {r} {x} (s : State) : (setRank c r x s).emus = s.emus := rfl
@[simp] theorem setRank_gates {c} {r} {x} (s : State) : (setRank c r x s).gates = s.gates := rfl
@[simp] theorem setRank_pred {c} {r} {x} (s : State) : (setRank c r x s).pred = s.pred := rfl
@[simp] theorem setRank_regs {c} {r} {x} (s : State) : (setRank c r x s).regs = s.regs := rfl
@[simp] theorem setRank_lanes {c} {r} {x} (s : State) : (setRank c r x s).lanes = s.lanes := rfl
@[simp] theorem setRank_bays {c} {r} {x} (s : State) : (setRank c r x s).bays = s.bays := rfl
@[simp] theorem setRank_gals {c} {r} {x} (s : State) : (setRank c r x s).gals = s.gals := rfl
@[simp] theorem setRank_plans {c} {r} {x} (s : State) : (setRank c r x s).plans = s.plans := rfl
@[simp] theorem setRank_queues {c} {r} {x} (s : State) : (setRank c r x s).queues = s.queues := rfl
@[simp] theorem setRank_ctxs {c} {r} {x} (s : State) : (setRank c r x s).ctxs = s.ctxs := rfl
@[simp] theorem setRank_ports {c} {r} {x} (s : State) : (setRank c r x s).ports = s.ports := rfl
@[simp] theorem setRank_pipe {c} {r} {x} (s : State) : (setRank c r x s).pipe = s.pipe := rfl
@[simp] theorem setRank_loops {c} {r} {x} (s : State) : (setRank c r x s).loops = s.loops := rfl
@[simp] theorem setRank_reports {c} {r} {x} (s : State) : (setRank c r x s).reports = s.reports := rfl
@[simp] theorem setRank_lastContext {c} {r} {x} (s : State) : (setRank c r x s).lastContext = s.lastContext := rfl
@[simp] theorem setRank_sweeps {c} {r} {x} (s : State) : (setRank c r x s).sweeps = s.sweeps := rfl
@[simp] theorem setRank_sweep {c} {r} {x} (s : State) : (setRank c r x s).sweep = s.sweep := rfl
@[simp] theorem setRank_dgateAt {c} {r} {x} (s : State) : (setRank c r x s).dgateAt = s.dgateAt := rfl
@[simp] theorem setRank_lamps {c} {r} {x} (s : State) : (setRank c r x s).lamps = s.lamps := rfl
@[simp] theorem setRank_chains {c} {r} {x} (s : State) : (setRank c r x s).chains = s.chains := rfl
@[simp] theorem setRank_test {c} {r} {x} (s : State) : (setRank c r x s).test = s.test := rfl
@[simp] theorem setRank_tap {c} {r} {x} (s : State) : (setRank c r x s).tap = s.tap := rfl
@[simp] theorem setRank_porstLow {c} {r} {x} (s : State) : (setRank c r x s).porstLow = s.porstLow := rfl

@[simp] theorem setChan_pending {c} {x} (s : State) : (setChan c x s).pending = s.pending := rfl
@[simp] theorem setChan_out {c} {x} (s : State) : (setChan c x s).out = s.out := rfl
@[simp] theorem setChan_free {c} {x} (s : State) : (setChan c x s).free = s.free := rfl
@[simp] theorem setChan_sys {c} {x} (s : State) : (setChan c x s).sys = s.sys := rfl
@[simp] theorem setChan_clk {c} {x} (s : State) : (setChan c x s).clk = s.clk := rfl
@[simp] theorem setChan_ptp {c} {x} (s : State) : (setChan c x s).ptp = s.ptp := rfl
@[simp] theorem setChan_prov {c} {x} (s : State) : (setChan c x s).prov = s.prov := rfl
@[simp] theorem setChan_cat {c} {x} (s : State) : (setChan c x s).cat = s.cat := rfl
@[simp] theorem setChan_host {c} {x} (s : State) : (setChan c x s).host = s.host := rfl
@[simp] theorem setChan_ic {c} {x} (s : State) : (setChan c x s).ic = s.ic := rfl
@[simp] theorem setChan_crc {c} {x} (s : State) : (setChan c x s).crc = s.crc := rfl
@[simp] theorem setChan_net {c} {x} (s : State) : (setChan c x s).net = s.net := rfl
@[simp] theorem setChan_pair {c} {x} (s : State) : (setChan c x s).pair = s.pair := rfl
@[simp] theorem setChan_res {c} {x} (s : State) : (setChan c x s).res = s.res := rfl
@[simp] theorem setChan_therm {c} {x} (s : State) : (setChan c x s).therm = s.therm := rfl
@[simp] theorem setChan_cal {c} {x} (s : State) : (setChan c x s).cal = s.cal := rfl
@[simp] theorem setChan_arc {c} {x} (s : State) : (setChan c x s).arc = s.arc := rfl
@[simp] theorem setChan_encs {c} {x} (s : State) : (setChan c x s).encs = s.encs := rfl
@[simp] theorem setChan_lc {c} {x} (s : State) : (setChan c x s).lc = s.lc := rfl
@[simp] theorem setChan_probes {c} {x} (s : State) : (setChan c x s).probes = s.probes := rfl
@[simp] theorem setChan_cmps {c} {x} (s : State) : (setChan c x s).cmps = s.cmps := rfl
@[simp] theorem setChan_pulses {c} {x} (s : State) : (setChan c x s).pulses = s.pulses := rfl
@[simp] theorem setChan_emus {c} {x} (s : State) : (setChan c x s).emus = s.emus := rfl
@[simp] theorem setChan_gates {c} {x} (s : State) : (setChan c x s).gates = s.gates := rfl
@[simp] theorem setChan_pred {c} {x} (s : State) : (setChan c x s).pred = s.pred := rfl
@[simp] theorem setChan_regs {c} {x} (s : State) : (setChan c x s).regs = s.regs := rfl
@[simp] theorem setChan_lanes {c} {x} (s : State) : (setChan c x s).lanes = s.lanes := rfl
@[simp] theorem setChan_bays {c} {x} (s : State) : (setChan c x s).bays = s.bays := rfl
@[simp] theorem setChan_gals {c} {x} (s : State) : (setChan c x s).gals = s.gals := rfl
@[simp] theorem setChan_plans {c} {x} (s : State) : (setChan c x s).plans = s.plans := rfl
@[simp] theorem setChan_queues {c} {x} (s : State) : (setChan c x s).queues = s.queues := rfl
@[simp] theorem setChan_ctxs {c} {x} (s : State) : (setChan c x s).ctxs = s.ctxs := rfl
@[simp] theorem setChan_ports {c} {x} (s : State) : (setChan c x s).ports = s.ports := rfl
@[simp] theorem setChan_pipe {c} {x} (s : State) : (setChan c x s).pipe = s.pipe := rfl
@[simp] theorem setChan_loops {c} {x} (s : State) : (setChan c x s).loops = s.loops := rfl
@[simp] theorem setChan_reports {c} {x} (s : State) : (setChan c x s).reports = s.reports := rfl
@[simp] theorem setChan_lastContext {c} {x} (s : State) : (setChan c x s).lastContext = s.lastContext := rfl
@[simp] theorem setChan_sweeps {c} {x} (s : State) : (setChan c x s).sweeps = s.sweeps := rfl
@[simp] theorem setChan_sweep {c} {x} (s : State) : (setChan c x s).sweep = s.sweep := rfl
@[simp] theorem setChan_dgateAt {c} {x} (s : State) : (setChan c x s).dgateAt = s.dgateAt := rfl
@[simp] theorem setChan_lamps {c} {x} (s : State) : (setChan c x s).lamps = s.lamps := rfl
@[simp] theorem setChan_chains {c} {x} (s : State) : (setChan c x s).chains = s.chains := rfl
@[simp] theorem setChan_test {c} {x} (s : State) : (setChan c x s).test = s.test := rfl
@[simp] theorem setChan_tap {c} {x} (s : State) : (setChan c x s).tap = s.tap := rfl
@[simp] theorem setChan_porstLow {c} {x} (s : State) : (setChan c x s).porstLow = s.porstLow := rfl
@[simp] theorem setChan_chan {c} {x} (s : State) : (setChan c x s).chan c = x := by simp [setChan, State.chan]
theorem setChan_chan_ne {c j} {x} (s : State) (h : j ≠ c) : (setChan c x s).chan j = s.chan j := by
  simp [setChan, State.chan, tget_tset_ne _ _ _ h]

@[simp] theorem setEgr_pending {e} {x} (s : State) : (setEgr e x s).pending = s.pending := rfl
@[simp] theorem setEgr_out {e} {x} (s : State) : (setEgr e x s).out = s.out := rfl
@[simp] theorem setEgr_free {e} {x} (s : State) : (setEgr e x s).free = s.free := rfl
@[simp] theorem setEgr_sys {e} {x} (s : State) : (setEgr e x s).sys = s.sys := rfl
@[simp] theorem setEgr_clk {e} {x} (s : State) : (setEgr e x s).clk = s.clk := rfl
@[simp] theorem setEgr_ptp {e} {x} (s : State) : (setEgr e x s).ptp = s.ptp := rfl
@[simp] theorem setEgr_prov {e} {x} (s : State) : (setEgr e x s).prov = s.prov := rfl
@[simp] theorem setEgr_cat {e} {x} (s : State) : (setEgr e x s).cat = s.cat := rfl
@[simp] theorem setEgr_host {e} {x} (s : State) : (setEgr e x s).host = s.host := rfl
@[simp] theorem setEgr_ic {e} {x} (s : State) : (setEgr e x s).ic = s.ic := rfl
@[simp] theorem setEgr_crc {e} {x} (s : State) : (setEgr e x s).crc = s.crc := rfl
@[simp] theorem setEgr_net {e} {x} (s : State) : (setEgr e x s).net = s.net := rfl
@[simp] theorem setEgr_pair {e} {x} (s : State) : (setEgr e x s).pair = s.pair := rfl
@[simp] theorem setEgr_dram {e} {x} (s : State) : (setEgr e x s).dram = s.dram := rfl
@[simp] theorem setEgr_therm {e} {x} (s : State) : (setEgr e x s).therm = s.therm := rfl
@[simp] theorem setEgr_cal {e} {x} (s : State) : (setEgr e x s).cal = s.cal := rfl
@[simp] theorem setEgr_arc {e} {x} (s : State) : (setEgr e x s).arc = s.arc := rfl
@[simp] theorem setEgr_encs {e} {x} (s : State) : (setEgr e x s).encs = s.encs := rfl
@[simp] theorem setEgr_lc {e} {x} (s : State) : (setEgr e x s).lc = s.lc := rfl
@[simp] theorem setEgr_probes {e} {x} (s : State) : (setEgr e x s).probes = s.probes := rfl
@[simp] theorem setEgr_cmps {e} {x} (s : State) : (setEgr e x s).cmps = s.cmps := rfl
@[simp] theorem setEgr_pulses {e} {x} (s : State) : (setEgr e x s).pulses = s.pulses := rfl
@[simp] theorem setEgr_emus {e} {x} (s : State) : (setEgr e x s).emus = s.emus := rfl
@[simp] theorem setEgr_gates {e} {x} (s : State) : (setEgr e x s).gates = s.gates := rfl
@[simp] theorem setEgr_pred {e} {x} (s : State) : (setEgr e x s).pred = s.pred := rfl
@[simp] theorem setEgr_regs {e} {x} (s : State) : (setEgr e x s).regs = s.regs := rfl
@[simp] theorem setEgr_lanes {e} {x} (s : State) : (setEgr e x s).lanes = s.lanes := rfl
@[simp] theorem setEgr_bays {e} {x} (s : State) : (setEgr e x s).bays = s.bays := rfl
@[simp] theorem setEgr_gals {e} {x} (s : State) : (setEgr e x s).gals = s.gals := rfl
@[simp] theorem setEgr_plans {e} {x} (s : State) : (setEgr e x s).plans = s.plans := rfl
@[simp] theorem setEgr_queues {e} {x} (s : State) : (setEgr e x s).queues = s.queues := rfl
@[simp] theorem setEgr_ctxs {e} {x} (s : State) : (setEgr e x s).ctxs = s.ctxs := rfl
@[simp] theorem setEgr_ports {e} {x} (s : State) : (setEgr e x s).ports = s.ports := rfl
@[simp] theorem setEgr_pipe {e} {x} (s : State) : (setEgr e x s).pipe = s.pipe := rfl
@[simp] theorem setEgr_loops {e} {x} (s : State) : (setEgr e x s).loops = s.loops := rfl
@[simp] theorem setEgr_reports {e} {x} (s : State) : (setEgr e x s).reports = s.reports := rfl
@[simp] theorem setEgr_lastContext {e} {x} (s : State) : (setEgr e x s).lastContext = s.lastContext := rfl
@[simp] theorem setEgr_sweeps {e} {x} (s : State) : (setEgr e x s).sweeps = s.sweeps := rfl
@[simp] theorem setEgr_sweep {e} {x} (s : State) : (setEgr e x s).sweep = s.sweep := rfl
@[simp] theorem setEgr_dgateAt {e} {x} (s : State) : (setEgr e x s).dgateAt = s.dgateAt := rfl
@[simp] theorem setEgr_lamps {e} {x} (s : State) : (setEgr e x s).lamps = s.lamps := rfl
@[simp] theorem setEgr_chains {e} {x} (s : State) : (setEgr e x s).chains = s.chains := rfl
@[simp] theorem setEgr_test {e} {x} (s : State) : (setEgr e x s).test = s.test := rfl
@[simp] theorem setEgr_tap {e} {x} (s : State) : (setEgr e x s).tap = s.tap := rfl
@[simp] theorem setEgr_porstLow {e} {x} (s : State) : (setEgr e x s).porstLow = s.porstLow := rfl

@[simp] theorem setLoop_pending {g} {x} (s : State) : (setLoop g x s).pending = s.pending := rfl
@[simp] theorem setLoop_out {g} {x} (s : State) : (setLoop g x s).out = s.out := rfl
@[simp] theorem setLoop_free {g} {x} (s : State) : (setLoop g x s).free = s.free := rfl
@[simp] theorem setLoop_sys {g} {x} (s : State) : (setLoop g x s).sys = s.sys := rfl
@[simp] theorem setLoop_clk {g} {x} (s : State) : (setLoop g x s).clk = s.clk := rfl
@[simp] theorem setLoop_ptp {g} {x} (s : State) : (setLoop g x s).ptp = s.ptp := rfl
@[simp] theorem setLoop_prov {g} {x} (s : State) : (setLoop g x s).prov = s.prov := rfl
@[simp] theorem setLoop_cat {g} {x} (s : State) : (setLoop g x s).cat = s.cat := rfl
@[simp] theorem setLoop_host {g} {x} (s : State) : (setLoop g x s).host = s.host := rfl
@[simp] theorem setLoop_ic {g} {x} (s : State) : (setLoop g x s).ic = s.ic := rfl
@[simp] theorem setLoop_crc {g} {x} (s : State) : (setLoop g x s).crc = s.crc := rfl
@[simp] theorem setLoop_net {g} {x} (s : State) : (setLoop g x s).net = s.net := rfl
@[simp] theorem setLoop_pair {g} {x} (s : State) : (setLoop g x s).pair = s.pair := rfl
@[simp] theorem setLoop_res {g} {x} (s : State) : (setLoop g x s).res = s.res := rfl
@[simp] theorem setLoop_dram {g} {x} (s : State) : (setLoop g x s).dram = s.dram := rfl
@[simp] theorem setLoop_therm {g} {x} (s : State) : (setLoop g x s).therm = s.therm := rfl
@[simp] theorem setLoop_cal {g} {x} (s : State) : (setLoop g x s).cal = s.cal := rfl
@[simp] theorem setLoop_arc {g} {x} (s : State) : (setLoop g x s).arc = s.arc := rfl
@[simp] theorem setLoop_encs {g} {x} (s : State) : (setLoop g x s).encs = s.encs := rfl
@[simp] theorem setLoop_lc {g} {x} (s : State) : (setLoop g x s).lc = s.lc := rfl
@[simp] theorem setLoop_probes {g} {x} (s : State) : (setLoop g x s).probes = s.probes := rfl
@[simp] theorem setLoop_cmps {g} {x} (s : State) : (setLoop g x s).cmps = s.cmps := rfl
@[simp] theorem setLoop_pulses {g} {x} (s : State) : (setLoop g x s).pulses = s.pulses := rfl
@[simp] theorem setLoop_emus {g} {x} (s : State) : (setLoop g x s).emus = s.emus := rfl
@[simp] theorem setLoop_gates {g} {x} (s : State) : (setLoop g x s).gates = s.gates := rfl
@[simp] theorem setLoop_pred {g} {x} (s : State) : (setLoop g x s).pred = s.pred := rfl
@[simp] theorem setLoop_regs {g} {x} (s : State) : (setLoop g x s).regs = s.regs := rfl
@[simp] theorem setLoop_lanes {g} {x} (s : State) : (setLoop g x s).lanes = s.lanes := rfl
@[simp] theorem setLoop_bays {g} {x} (s : State) : (setLoop g x s).bays = s.bays := rfl
@[simp] theorem setLoop_gals {g} {x} (s : State) : (setLoop g x s).gals = s.gals := rfl
@[simp] theorem setLoop_plans {g} {x} (s : State) : (setLoop g x s).plans = s.plans := rfl
@[simp] theorem setLoop_queues {g} {x} (s : State) : (setLoop g x s).queues = s.queues := rfl
@[simp] theorem setLoop_ctxs {g} {x} (s : State) : (setLoop g x s).ctxs = s.ctxs := rfl
@[simp] theorem setLoop_ports {g} {x} (s : State) : (setLoop g x s).ports = s.ports := rfl
@[simp] theorem setLoop_pipe {g} {x} (s : State) : (setLoop g x s).pipe = s.pipe := rfl
@[simp] theorem setLoop_reports {g} {x} (s : State) : (setLoop g x s).reports = s.reports := rfl
@[simp] theorem setLoop_lastContext {g} {x} (s : State) : (setLoop g x s).lastContext = s.lastContext := rfl
@[simp] theorem setLoop_sweeps {g} {x} (s : State) : (setLoop g x s).sweeps = s.sweeps := rfl
@[simp] theorem setLoop_sweep {g} {x} (s : State) : (setLoop g x s).sweep = s.sweep := rfl
@[simp] theorem setLoop_dgateAt {g} {x} (s : State) : (setLoop g x s).dgateAt = s.dgateAt := rfl
@[simp] theorem setLoop_lamps {g} {x} (s : State) : (setLoop g x s).lamps = s.lamps := rfl
@[simp] theorem setLoop_chains {g} {x} (s : State) : (setLoop g x s).chains = s.chains := rfl
@[simp] theorem setLoop_test {g} {x} (s : State) : (setLoop g x s).test = s.test := rfl
@[simp] theorem setLoop_tap {g} {x} (s : State) : (setLoop g x s).tap = s.tap := rfl
@[simp] theorem setLoop_porstLow {g} {x} (s : State) : (setLoop g x s).porstLow = s.porstLow := rfl
@[simp] theorem setLoop_loop {g} {x} (s : State) : (setLoop g x s).loop g = x := by simp [setLoop, State.loop]
theorem setLoop_loop_ne {g j} {x} (s : State) (h : j ≠ g) : (setLoop g x s).loop j = s.loop j := by
  simp [setLoop, State.loop, tget_tset_ne _ _ _ h]

@[simp] theorem setGate_pending {n} {g} (s : State) : (setGate n g s).pending = s.pending := rfl
@[simp] theorem setGate_out {n} {g} (s : State) : (setGate n g s).out = s.out := rfl
@[simp] theorem setGate_free {n} {g} (s : State) : (setGate n g s).free = s.free := rfl
@[simp] theorem setGate_sys {n} {g} (s : State) : (setGate n g s).sys = s.sys := rfl
@[simp] theorem setGate_clk {n} {g} (s : State) : (setGate n g s).clk = s.clk := rfl
@[simp] theorem setGate_ptp {n} {g} (s : State) : (setGate n g s).ptp = s.ptp := rfl
@[simp] theorem setGate_prov {n} {g} (s : State) : (setGate n g s).prov = s.prov := rfl
@[simp] theorem setGate_cat {n} {g} (s : State) : (setGate n g s).cat = s.cat := rfl
@[simp] theorem setGate_host {n} {g} (s : State) : (setGate n g s).host = s.host := rfl
@[simp] theorem setGate_ic {n} {g} (s : State) : (setGate n g s).ic = s.ic := rfl
@[simp] theorem setGate_crc {n} {g} (s : State) : (setGate n g s).crc = s.crc := rfl
@[simp] theorem setGate_net {n} {g} (s : State) : (setGate n g s).net = s.net := rfl
@[simp] theorem setGate_pair {n} {g} (s : State) : (setGate n g s).pair = s.pair := rfl
@[simp] theorem setGate_res {n} {g} (s : State) : (setGate n g s).res = s.res := rfl
@[simp] theorem setGate_dram {n} {g} (s : State) : (setGate n g s).dram = s.dram := rfl
@[simp] theorem setGate_therm {n} {g} (s : State) : (setGate n g s).therm = s.therm := rfl
@[simp] theorem setGate_cal {n} {g} (s : State) : (setGate n g s).cal = s.cal := rfl
@[simp] theorem setGate_arc {n} {g} (s : State) : (setGate n g s).arc = s.arc := rfl
@[simp] theorem setGate_encs {n} {g} (s : State) : (setGate n g s).encs = s.encs := rfl
@[simp] theorem setGate_lc {n} {g} (s : State) : (setGate n g s).lc = s.lc := rfl
@[simp] theorem setGate_probes {n} {g} (s : State) : (setGate n g s).probes = s.probes := rfl
@[simp] theorem setGate_cmps {n} {g} (s : State) : (setGate n g s).cmps = s.cmps := rfl
@[simp] theorem setGate_pulses {n} {g} (s : State) : (setGate n g s).pulses = s.pulses := rfl
@[simp] theorem setGate_emus {n} {g} (s : State) : (setGate n g s).emus = s.emus := rfl
@[simp] theorem setGate_pred {n} {g} (s : State) : (setGate n g s).pred = s.pred := rfl
@[simp] theorem setGate_regs {n} {g} (s : State) : (setGate n g s).regs = s.regs := rfl
@[simp] theorem setGate_lanes {n} {g} (s : State) : (setGate n g s).lanes = s.lanes := rfl
@[simp] theorem setGate_bays {n} {g} (s : State) : (setGate n g s).bays = s.bays := rfl
@[simp] theorem setGate_gals {n} {g} (s : State) : (setGate n g s).gals = s.gals := rfl
@[simp] theorem setGate_plans {n} {g} (s : State) : (setGate n g s).plans = s.plans := rfl
@[simp] theorem setGate_queues {n} {g} (s : State) : (setGate n g s).queues = s.queues := rfl
@[simp] theorem setGate_ctxs {n} {g} (s : State) : (setGate n g s).ctxs = s.ctxs := rfl
@[simp] theorem setGate_ports {n} {g} (s : State) : (setGate n g s).ports = s.ports := rfl
@[simp] theorem setGate_pipe {n} {g} (s : State) : (setGate n g s).pipe = s.pipe := rfl
@[simp] theorem setGate_loops {n} {g} (s : State) : (setGate n g s).loops = s.loops := rfl
@[simp] theorem setGate_reports {n} {g} (s : State) : (setGate n g s).reports = s.reports := rfl
@[simp] theorem setGate_lastContext {n} {g} (s : State) : (setGate n g s).lastContext = s.lastContext := rfl
@[simp] theorem setGate_sweeps {n} {g} (s : State) : (setGate n g s).sweeps = s.sweeps := rfl
@[simp] theorem setGate_sweep {n} {g} (s : State) : (setGate n g s).sweep = s.sweep := rfl
@[simp] theorem setGate_dgateAt {n} {g} (s : State) : (setGate n g s).dgateAt = s.dgateAt := rfl
@[simp] theorem setGate_lamps {n} {g} (s : State) : (setGate n g s).lamps = s.lamps := rfl
@[simp] theorem setGate_chains {n} {g} (s : State) : (setGate n g s).chains = s.chains := rfl
@[simp] theorem setGate_test {n} {g} (s : State) : (setGate n g s).test = s.test := rfl
@[simp] theorem setGate_tap {n} {g} (s : State) : (setGate n g s).tap = s.tap := rfl
@[simp] theorem setGate_porstLow {n} {g} (s : State) : (setGate n g s).porstLow = s.porstLow := rfl
@[simp] theorem setGate_gate {n} {g} (s : State) : (setGate n g s).gate n = g := by simp [setGate, State.gate]
theorem setGate_gate_ne {n j} {g} (s : State) (h : j ≠ n) : (setGate n g s).gate j = s.gate j := by
  simp [setGate, State.gate, tget_tset_ne _ _ _ h]

@[simp] theorem setLane_pending {l} {x} (s : State) : (setLane l x s).pending = s.pending := rfl
@[simp] theorem setLane_out {l} {x} (s : State) : (setLane l x s).out = s.out := rfl
@[simp] theorem setLane_free {l} {x} (s : State) : (setLane l x s).free = s.free := rfl
@[simp] theorem setLane_sys {l} {x} (s : State) : (setLane l x s).sys = s.sys := rfl
@[simp] theorem setLane_clk {l} {x} (s : State) : (setLane l x s).clk = s.clk := rfl
@[simp] theorem setLane_ptp {l} {x} (s : State) : (setLane l x s).ptp = s.ptp := rfl
@[simp] theorem setLane_prov {l} {x} (s : State) : (setLane l x s).prov = s.prov := rfl
@[simp] theorem setLane_cat {l} {x} (s : State) : (setLane l x s).cat = s.cat := rfl
@[simp] theorem setLane_host {l} {x} (s : State) : (setLane l x s).host = s.host := rfl
@[simp] theorem setLane_ic {l} {x} (s : State) : (setLane l x s).ic = s.ic := rfl
@[simp] theorem setLane_crc {l} {x} (s : State) : (setLane l x s).crc = s.crc := rfl
@[simp] theorem setLane_net {l} {x} (s : State) : (setLane l x s).net = s.net := rfl
@[simp] theorem setLane_pair {l} {x} (s : State) : (setLane l x s).pair = s.pair := rfl
@[simp] theorem setLane_res {l} {x} (s : State) : (setLane l x s).res = s.res := rfl
@[simp] theorem setLane_dram {l} {x} (s : State) : (setLane l x s).dram = s.dram := rfl
@[simp] theorem setLane_therm {l} {x} (s : State) : (setLane l x s).therm = s.therm := rfl
@[simp] theorem setLane_cal {l} {x} (s : State) : (setLane l x s).cal = s.cal := rfl
@[simp] theorem setLane_arc {l} {x} (s : State) : (setLane l x s).arc = s.arc := rfl
@[simp] theorem setLane_encs {l} {x} (s : State) : (setLane l x s).encs = s.encs := rfl
@[simp] theorem setLane_lc {l} {x} (s : State) : (setLane l x s).lc = s.lc := rfl
@[simp] theorem setLane_probes {l} {x} (s : State) : (setLane l x s).probes = s.probes := rfl
@[simp] theorem setLane_cmps {l} {x} (s : State) : (setLane l x s).cmps = s.cmps := rfl
@[simp] theorem setLane_pulses {l} {x} (s : State) : (setLane l x s).pulses = s.pulses := rfl
@[simp] theorem setLane_emus {l} {x} (s : State) : (setLane l x s).emus = s.emus := rfl
@[simp] theorem setLane_gates {l} {x} (s : State) : (setLane l x s).gates = s.gates := rfl
@[simp] theorem setLane_pred {l} {x} (s : State) : (setLane l x s).pred = s.pred := rfl
@[simp] theorem setLane_regs {l} {x} (s : State) : (setLane l x s).regs = s.regs := rfl
@[simp] theorem setLane_bays {l} {x} (s : State) : (setLane l x s).bays = s.bays := rfl
@[simp] theorem setLane_gals {l} {x} (s : State) : (setLane l x s).gals = s.gals := rfl
@[simp] theorem setLane_plans {l} {x} (s : State) : (setLane l x s).plans = s.plans := rfl
@[simp] theorem setLane_queues {l} {x} (s : State) : (setLane l x s).queues = s.queues := rfl
@[simp] theorem setLane_ctxs {l} {x} (s : State) : (setLane l x s).ctxs = s.ctxs := rfl
@[simp] theorem setLane_ports {l} {x} (s : State) : (setLane l x s).ports = s.ports := rfl
@[simp] theorem setLane_pipe {l} {x} (s : State) : (setLane l x s).pipe = s.pipe := rfl
@[simp] theorem setLane_loops {l} {x} (s : State) : (setLane l x s).loops = s.loops := rfl
@[simp] theorem setLane_reports {l} {x} (s : State) : (setLane l x s).reports = s.reports := rfl
@[simp] theorem setLane_lastContext {l} {x} (s : State) : (setLane l x s).lastContext = s.lastContext := rfl
@[simp] theorem setLane_sweeps {l} {x} (s : State) : (setLane l x s).sweeps = s.sweeps := rfl
@[simp] theorem setLane_sweep {l} {x} (s : State) : (setLane l x s).sweep = s.sweep := rfl
@[simp] theorem setLane_dgateAt {l} {x} (s : State) : (setLane l x s).dgateAt = s.dgateAt := rfl
@[simp] theorem setLane_lamps {l} {x} (s : State) : (setLane l x s).lamps = s.lamps := rfl
@[simp] theorem setLane_chains {l} {x} (s : State) : (setLane l x s).chains = s.chains := rfl
@[simp] theorem setLane_test {l} {x} (s : State) : (setLane l x s).test = s.test := rfl
@[simp] theorem setLane_tap {l} {x} (s : State) : (setLane l x s).tap = s.tap := rfl
@[simp] theorem setLane_porstLow {l} {x} (s : State) : (setLane l x s).porstLow = s.porstLow := rfl
@[simp] theorem setLane_lane {l} {x} (s : State) : (setLane l x s).lane l = x := by simp [setLane, State.lane]
theorem setLane_lane_ne {l j} {x} (s : State) (h : j ≠ l) : (setLane l x s).lane j = s.lane j := by
  simp [setLane, State.lane, tget_tset_ne _ _ _ h]

@[simp] theorem setBay_pending {b} {x} (s : State) : (setBay b x s).pending = s.pending := rfl
@[simp] theorem setBay_out {b} {x} (s : State) : (setBay b x s).out = s.out := rfl
@[simp] theorem setBay_free {b} {x} (s : State) : (setBay b x s).free = s.free := rfl
@[simp] theorem setBay_sys {b} {x} (s : State) : (setBay b x s).sys = s.sys := rfl
@[simp] theorem setBay_clk {b} {x} (s : State) : (setBay b x s).clk = s.clk := rfl
@[simp] theorem setBay_ptp {b} {x} (s : State) : (setBay b x s).ptp = s.ptp := rfl
@[simp] theorem setBay_prov {b} {x} (s : State) : (setBay b x s).prov = s.prov := rfl
@[simp] theorem setBay_cat {b} {x} (s : State) : (setBay b x s).cat = s.cat := rfl
@[simp] theorem setBay_host {b} {x} (s : State) : (setBay b x s).host = s.host := rfl
@[simp] theorem setBay_ic {b} {x} (s : State) : (setBay b x s).ic = s.ic := rfl
@[simp] theorem setBay_crc {b} {x} (s : State) : (setBay b x s).crc = s.crc := rfl
@[simp] theorem setBay_net {b} {x} (s : State) : (setBay b x s).net = s.net := rfl
@[simp] theorem setBay_pair {b} {x} (s : State) : (setBay b x s).pair = s.pair := rfl
@[simp] theorem setBay_res {b} {x} (s : State) : (setBay b x s).res = s.res := rfl
@[simp] theorem setBay_dram {b} {x} (s : State) : (setBay b x s).dram = s.dram := rfl
@[simp] theorem setBay_therm {b} {x} (s : State) : (setBay b x s).therm = s.therm := rfl
@[simp] theorem setBay_cal {b} {x} (s : State) : (setBay b x s).cal = s.cal := rfl
@[simp] theorem setBay_arc {b} {x} (s : State) : (setBay b x s).arc = s.arc := rfl
@[simp] theorem setBay_encs {b} {x} (s : State) : (setBay b x s).encs = s.encs := rfl
@[simp] theorem setBay_lc {b} {x} (s : State) : (setBay b x s).lc = s.lc := rfl
@[simp] theorem setBay_probes {b} {x} (s : State) : (setBay b x s).probes = s.probes := rfl
@[simp] theorem setBay_cmps {b} {x} (s : State) : (setBay b x s).cmps = s.cmps := rfl
@[simp] theorem setBay_pulses {b} {x} (s : State) : (setBay b x s).pulses = s.pulses := rfl
@[simp] theorem setBay_emus {b} {x} (s : State) : (setBay b x s).emus = s.emus := rfl
@[simp] theorem setBay_gates {b} {x} (s : State) : (setBay b x s).gates = s.gates := rfl
@[simp] theorem setBay_pred {b} {x} (s : State) : (setBay b x s).pred = s.pred := rfl
@[simp] theorem setBay_regs {b} {x} (s : State) : (setBay b x s).regs = s.regs := rfl
@[simp] theorem setBay_lanes {b} {x} (s : State) : (setBay b x s).lanes = s.lanes := rfl
@[simp] theorem setBay_gals {b} {x} (s : State) : (setBay b x s).gals = s.gals := rfl
@[simp] theorem setBay_plans {b} {x} (s : State) : (setBay b x s).plans = s.plans := rfl
@[simp] theorem setBay_queues {b} {x} (s : State) : (setBay b x s).queues = s.queues := rfl
@[simp] theorem setBay_ctxs {b} {x} (s : State) : (setBay b x s).ctxs = s.ctxs := rfl
@[simp] theorem setBay_ports {b} {x} (s : State) : (setBay b x s).ports = s.ports := rfl
@[simp] theorem setBay_pipe {b} {x} (s : State) : (setBay b x s).pipe = s.pipe := rfl
@[simp] theorem setBay_loops {b} {x} (s : State) : (setBay b x s).loops = s.loops := rfl
@[simp] theorem setBay_reports {b} {x} (s : State) : (setBay b x s).reports = s.reports := rfl
@[simp] theorem setBay_lastContext {b} {x} (s : State) : (setBay b x s).lastContext = s.lastContext := rfl
@[simp] theorem setBay_sweeps {b} {x} (s : State) : (setBay b x s).sweeps = s.sweeps := rfl
@[simp] theorem setBay_sweep {b} {x} (s : State) : (setBay b x s).sweep = s.sweep := rfl
@[simp] theorem setBay_dgateAt {b} {x} (s : State) : (setBay b x s).dgateAt = s.dgateAt := rfl
@[simp] theorem setBay_lamps {b} {x} (s : State) : (setBay b x s).lamps = s.lamps := rfl
@[simp] theorem setBay_chains {b} {x} (s : State) : (setBay b x s).chains = s.chains := rfl
@[simp] theorem setBay_test {b} {x} (s : State) : (setBay b x s).test = s.test := rfl
@[simp] theorem setBay_tap {b} {x} (s : State) : (setBay b x s).tap = s.tap := rfl
@[simp] theorem setBay_porstLow {b} {x} (s : State) : (setBay b x s).porstLow = s.porstLow := rfl
@[simp] theorem setBay_bay {b} {x} (s : State) : (setBay b x s).bay b = x := by simp [setBay, State.bay]
theorem setBay_bay_ne {b j} {x} (s : State) (h : j ≠ b) : (setBay b x s).bay j = s.bay j := by
  simp [setBay, State.bay, tget_tset_ne _ _ _ h]

@[simp] theorem setGal_pending {g} {x} (s : State) : (setGal g x s).pending = s.pending := rfl
@[simp] theorem setGal_out {g} {x} (s : State) : (setGal g x s).out = s.out := rfl
@[simp] theorem setGal_free {g} {x} (s : State) : (setGal g x s).free = s.free := rfl
@[simp] theorem setGal_sys {g} {x} (s : State) : (setGal g x s).sys = s.sys := rfl
@[simp] theorem setGal_clk {g} {x} (s : State) : (setGal g x s).clk = s.clk := rfl
@[simp] theorem setGal_ptp {g} {x} (s : State) : (setGal g x s).ptp = s.ptp := rfl
@[simp] theorem setGal_prov {g} {x} (s : State) : (setGal g x s).prov = s.prov := rfl
@[simp] theorem setGal_cat {g} {x} (s : State) : (setGal g x s).cat = s.cat := rfl
@[simp] theorem setGal_host {g} {x} (s : State) : (setGal g x s).host = s.host := rfl
@[simp] theorem setGal_ic {g} {x} (s : State) : (setGal g x s).ic = s.ic := rfl
@[simp] theorem setGal_crc {g} {x} (s : State) : (setGal g x s).crc = s.crc := rfl
@[simp] theorem setGal_net {g} {x} (s : State) : (setGal g x s).net = s.net := rfl
@[simp] theorem setGal_pair {g} {x} (s : State) : (setGal g x s).pair = s.pair := rfl
@[simp] theorem setGal_res {g} {x} (s : State) : (setGal g x s).res = s.res := rfl
@[simp] theorem setGal_dram {g} {x} (s : State) : (setGal g x s).dram = s.dram := rfl
@[simp] theorem setGal_therm {g} {x} (s : State) : (setGal g x s).therm = s.therm := rfl
@[simp] theorem setGal_cal {g} {x} (s : State) : (setGal g x s).cal = s.cal := rfl
@[simp] theorem setGal_arc {g} {x} (s : State) : (setGal g x s).arc = s.arc := rfl
@[simp] theorem setGal_encs {g} {x} (s : State) : (setGal g x s).encs = s.encs := rfl
@[simp] theorem setGal_lc {g} {x} (s : State) : (setGal g x s).lc = s.lc := rfl
@[simp] theorem setGal_probes {g} {x} (s : State) : (setGal g x s).probes = s.probes := rfl
@[simp] theorem setGal_cmps {g} {x} (s : State) : (setGal g x s).cmps = s.cmps := rfl
@[simp] theorem setGal_pulses {g} {x} (s : State) : (setGal g x s).pulses = s.pulses := rfl
@[simp] theorem setGal_emus {g} {x} (s : State) : (setGal g x s).emus = s.emus := rfl
@[simp] theorem setGal_gates {g} {x} (s : State) : (setGal g x s).gates = s.gates := rfl
@[simp] theorem setGal_pred {g} {x} (s : State) : (setGal g x s).pred = s.pred := rfl
@[simp] theorem setGal_regs {g} {x} (s : State) : (setGal g x s).regs = s.regs := rfl
@[simp] theorem setGal_lanes {g} {x} (s : State) : (setGal g x s).lanes = s.lanes := rfl
@[simp] theorem setGal_bays {g} {x} (s : State) : (setGal g x s).bays = s.bays := rfl
@[simp] theorem setGal_plans {g} {x} (s : State) : (setGal g x s).plans = s.plans := rfl
@[simp] theorem setGal_queues {g} {x} (s : State) : (setGal g x s).queues = s.queues := rfl
@[simp] theorem setGal_ctxs {g} {x} (s : State) : (setGal g x s).ctxs = s.ctxs := rfl
@[simp] theorem setGal_ports {g} {x} (s : State) : (setGal g x s).ports = s.ports := rfl
@[simp] theorem setGal_pipe {g} {x} (s : State) : (setGal g x s).pipe = s.pipe := rfl
@[simp] theorem setGal_loops {g} {x} (s : State) : (setGal g x s).loops = s.loops := rfl
@[simp] theorem setGal_reports {g} {x} (s : State) : (setGal g x s).reports = s.reports := rfl
@[simp] theorem setGal_lastContext {g} {x} (s : State) : (setGal g x s).lastContext = s.lastContext := rfl
@[simp] theorem setGal_sweeps {g} {x} (s : State) : (setGal g x s).sweeps = s.sweeps := rfl
@[simp] theorem setGal_sweep {g} {x} (s : State) : (setGal g x s).sweep = s.sweep := rfl
@[simp] theorem setGal_dgateAt {g} {x} (s : State) : (setGal g x s).dgateAt = s.dgateAt := rfl
@[simp] theorem setGal_lamps {g} {x} (s : State) : (setGal g x s).lamps = s.lamps := rfl
@[simp] theorem setGal_chains {g} {x} (s : State) : (setGal g x s).chains = s.chains := rfl
@[simp] theorem setGal_test {g} {x} (s : State) : (setGal g x s).test = s.test := rfl
@[simp] theorem setGal_tap {g} {x} (s : State) : (setGal g x s).tap = s.tap := rfl
@[simp] theorem setGal_porstLow {g} {x} (s : State) : (setGal g x s).porstLow = s.porstLow := rfl
@[simp] theorem setGal_gal {g} {x} (s : State) : (setGal g x s).gal g = x := by simp [setGal, State.gal]
theorem setGal_gal_ne {g j} {x} (s : State) (h : j ≠ g) : (setGal g x s).gal j = s.gal j := by
  simp [setGal, State.gal, tget_tset_ne _ _ _ h]

@[simp] theorem setLamp_pending {n} {x} (s : State) : (setLamp n x s).pending = s.pending := rfl
@[simp] theorem setLamp_out {n} {x} (s : State) : (setLamp n x s).out = s.out := rfl
@[simp] theorem setLamp_free {n} {x} (s : State) : (setLamp n x s).free = s.free := rfl
@[simp] theorem setLamp_sys {n} {x} (s : State) : (setLamp n x s).sys = s.sys := rfl
@[simp] theorem setLamp_clk {n} {x} (s : State) : (setLamp n x s).clk = s.clk := rfl
@[simp] theorem setLamp_ptp {n} {x} (s : State) : (setLamp n x s).ptp = s.ptp := rfl
@[simp] theorem setLamp_prov {n} {x} (s : State) : (setLamp n x s).prov = s.prov := rfl
@[simp] theorem setLamp_cat {n} {x} (s : State) : (setLamp n x s).cat = s.cat := rfl
@[simp] theorem setLamp_host {n} {x} (s : State) : (setLamp n x s).host = s.host := rfl
@[simp] theorem setLamp_ic {n} {x} (s : State) : (setLamp n x s).ic = s.ic := rfl
@[simp] theorem setLamp_crc {n} {x} (s : State) : (setLamp n x s).crc = s.crc := rfl
@[simp] theorem setLamp_net {n} {x} (s : State) : (setLamp n x s).net = s.net := rfl
@[simp] theorem setLamp_pair {n} {x} (s : State) : (setLamp n x s).pair = s.pair := rfl
@[simp] theorem setLamp_res {n} {x} (s : State) : (setLamp n x s).res = s.res := rfl
@[simp] theorem setLamp_dram {n} {x} (s : State) : (setLamp n x s).dram = s.dram := rfl
@[simp] theorem setLamp_therm {n} {x} (s : State) : (setLamp n x s).therm = s.therm := rfl
@[simp] theorem setLamp_cal {n} {x} (s : State) : (setLamp n x s).cal = s.cal := rfl
@[simp] theorem setLamp_arc {n} {x} (s : State) : (setLamp n x s).arc = s.arc := rfl
@[simp] theorem setLamp_encs {n} {x} (s : State) : (setLamp n x s).encs = s.encs := rfl
@[simp] theorem setLamp_lc {n} {x} (s : State) : (setLamp n x s).lc = s.lc := rfl
@[simp] theorem setLamp_probes {n} {x} (s : State) : (setLamp n x s).probes = s.probes := rfl
@[simp] theorem setLamp_cmps {n} {x} (s : State) : (setLamp n x s).cmps = s.cmps := rfl
@[simp] theorem setLamp_pulses {n} {x} (s : State) : (setLamp n x s).pulses = s.pulses := rfl
@[simp] theorem setLamp_emus {n} {x} (s : State) : (setLamp n x s).emus = s.emus := rfl
@[simp] theorem setLamp_gates {n} {x} (s : State) : (setLamp n x s).gates = s.gates := rfl
@[simp] theorem setLamp_pred {n} {x} (s : State) : (setLamp n x s).pred = s.pred := rfl
@[simp] theorem setLamp_regs {n} {x} (s : State) : (setLamp n x s).regs = s.regs := rfl
@[simp] theorem setLamp_lanes {n} {x} (s : State) : (setLamp n x s).lanes = s.lanes := rfl
@[simp] theorem setLamp_bays {n} {x} (s : State) : (setLamp n x s).bays = s.bays := rfl
@[simp] theorem setLamp_gals {n} {x} (s : State) : (setLamp n x s).gals = s.gals := rfl
@[simp] theorem setLamp_plans {n} {x} (s : State) : (setLamp n x s).plans = s.plans := rfl
@[simp] theorem setLamp_queues {n} {x} (s : State) : (setLamp n x s).queues = s.queues := rfl
@[simp] theorem setLamp_ctxs {n} {x} (s : State) : (setLamp n x s).ctxs = s.ctxs := rfl
@[simp] theorem setLamp_ports {n} {x} (s : State) : (setLamp n x s).ports = s.ports := rfl
@[simp] theorem setLamp_pipe {n} {x} (s : State) : (setLamp n x s).pipe = s.pipe := rfl
@[simp] theorem setLamp_loops {n} {x} (s : State) : (setLamp n x s).loops = s.loops := rfl
@[simp] theorem setLamp_reports {n} {x} (s : State) : (setLamp n x s).reports = s.reports := rfl
@[simp] theorem setLamp_lastContext {n} {x} (s : State) : (setLamp n x s).lastContext = s.lastContext := rfl
@[simp] theorem setLamp_sweeps {n} {x} (s : State) : (setLamp n x s).sweeps = s.sweeps := rfl
@[simp] theorem setLamp_sweep {n} {x} (s : State) : (setLamp n x s).sweep = s.sweep := rfl
@[simp] theorem setLamp_dgateAt {n} {x} (s : State) : (setLamp n x s).dgateAt = s.dgateAt := rfl
@[simp] theorem setLamp_chains {n} {x} (s : State) : (setLamp n x s).chains = s.chains := rfl
@[simp] theorem setLamp_test {n} {x} (s : State) : (setLamp n x s).test = s.test := rfl
@[simp] theorem setLamp_tap {n} {x} (s : State) : (setLamp n x s).tap = s.tap := rfl
@[simp] theorem setLamp_porstLow {n} {x} (s : State) : (setLamp n x s).porstLow = s.porstLow := rfl
@[simp] theorem setLamp_lamp {n} {x} (s : State) : (setLamp n x s).lamp n = x := by simp [setLamp, State.lamp]
theorem setLamp_lamp_ne {n j} {x} (s : State) (h : j ≠ n) : (setLamp n x s).lamp j = s.lamp j := by
  simp [setLamp, State.lamp, tget_tset_ne _ _ _ h]

@[simp] theorem setChain_pending {ch} {x} (s : State) : (setChain ch x s).pending = s.pending := rfl
@[simp] theorem setChain_out {ch} {x} (s : State) : (setChain ch x s).out = s.out := rfl
@[simp] theorem setChain_free {ch} {x} (s : State) : (setChain ch x s).free = s.free := rfl
@[simp] theorem setChain_sys {ch} {x} (s : State) : (setChain ch x s).sys = s.sys := rfl
@[simp] theorem setChain_clk {ch} {x} (s : State) : (setChain ch x s).clk = s.clk := rfl
@[simp] theorem setChain_ptp {ch} {x} (s : State) : (setChain ch x s).ptp = s.ptp := rfl
@[simp] theorem setChain_prov {ch} {x} (s : State) : (setChain ch x s).prov = s.prov := rfl
@[simp] theorem setChain_cat {ch} {x} (s : State) : (setChain ch x s).cat = s.cat := rfl
@[simp] theorem setChain_host {ch} {x} (s : State) : (setChain ch x s).host = s.host := rfl
@[simp] theorem setChain_ic {ch} {x} (s : State) : (setChain ch x s).ic = s.ic := rfl
@[simp] theorem setChain_crc {ch} {x} (s : State) : (setChain ch x s).crc = s.crc := rfl
@[simp] theorem setChain_net {ch} {x} (s : State) : (setChain ch x s).net = s.net := rfl
@[simp] theorem setChain_pair {ch} {x} (s : State) : (setChain ch x s).pair = s.pair := rfl
@[simp] theorem setChain_res {ch} {x} (s : State) : (setChain ch x s).res = s.res := rfl
@[simp] theorem setChain_dram {ch} {x} (s : State) : (setChain ch x s).dram = s.dram := rfl
@[simp] theorem setChain_therm {ch} {x} (s : State) : (setChain ch x s).therm = s.therm := rfl
@[simp] theorem setChain_cal {ch} {x} (s : State) : (setChain ch x s).cal = s.cal := rfl
@[simp] theorem setChain_arc {ch} {x} (s : State) : (setChain ch x s).arc = s.arc := rfl
@[simp] theorem setChain_encs {ch} {x} (s : State) : (setChain ch x s).encs = s.encs := rfl
@[simp] theorem setChain_lc {ch} {x} (s : State) : (setChain ch x s).lc = s.lc := rfl
@[simp] theorem setChain_probes {ch} {x} (s : State) : (setChain ch x s).probes = s.probes := rfl
@[simp] theorem setChain_cmps {ch} {x} (s : State) : (setChain ch x s).cmps = s.cmps := rfl
@[simp] theorem setChain_pulses {ch} {x} (s : State) : (setChain ch x s).pulses = s.pulses := rfl
@[simp] theorem setChain_emus {ch} {x} (s : State) : (setChain ch x s).emus = s.emus := rfl
@[simp] theorem setChain_gates {ch} {x} (s : State) : (setChain ch x s).gates = s.gates := rfl
@[simp] theorem setChain_pred {ch} {x} (s : State) : (setChain ch x s).pred = s.pred := rfl
@[simp] theorem setChain_regs {ch} {x} (s : State) : (setChain ch x s).regs = s.regs := rfl
@[simp] theorem setChain_lanes {ch} {x} (s : State) : (setChain ch x s).lanes = s.lanes := rfl
@[simp] theorem setChain_bays {ch} {x} (s : State) : (setChain ch x s).bays = s.bays := rfl
@[simp] theorem setChain_gals {ch} {x} (s : State) : (setChain ch x s).gals = s.gals := rfl
@[simp] theorem setChain_plans {ch} {x} (s : State) : (setChain ch x s).plans = s.plans := rfl
@[simp] theorem setChain_queues {ch} {x} (s : State) : (setChain ch x s).queues = s.queues := rfl
@[simp] theorem setChain_ctxs {ch} {x} (s : State) : (setChain ch x s).ctxs = s.ctxs := rfl
@[simp] theorem setChain_ports {ch} {x} (s : State) : (setChain ch x s).ports = s.ports := rfl
@[simp] theorem setChain_pipe {ch} {x} (s : State) : (setChain ch x s).pipe = s.pipe := rfl
@[simp] theorem setChain_loops {ch} {x} (s : State) : (setChain ch x s).loops = s.loops := rfl
@[simp] theorem setChain_reports {ch} {x} (s : State) : (setChain ch x s).reports = s.reports := rfl
@[simp] theorem setChain_lastContext {ch} {x} (s : State) : (setChain ch x s).lastContext = s.lastContext := rfl
@[simp] theorem setChain_sweeps {ch} {x} (s : State) : (setChain ch x s).sweeps = s.sweeps := rfl
@[simp] theorem setChain_sweep {ch} {x} (s : State) : (setChain ch x s).sweep = s.sweep := rfl
@[simp] theorem setChain_dgateAt {ch} {x} (s : State) : (setChain ch x s).dgateAt = s.dgateAt := rfl
@[simp] theorem setChain_lamps {ch} {x} (s : State) : (setChain ch x s).lamps = s.lamps := rfl
@[simp] theorem setChain_test {ch} {x} (s : State) : (setChain ch x s).test = s.test := rfl
@[simp] theorem setChain_tap {ch} {x} (s : State) : (setChain ch x s).tap = s.tap := rfl
@[simp] theorem setChain_porstLow {ch} {x} (s : State) : (setChain ch x s).porstLow = s.porstLow := rfl
@[simp] theorem setChain_chain {ch} {x} (s : State) : (setChain ch x s).chain ch = x := by simp [setChain, State.chain]
theorem setChain_chain_ne {ch j} {x} (s : State) (h : j ≠ ch) : (setChain ch x s).chain j = s.chain j := by
  simp [setChain, State.chain, tget_tset_ne _ _ _ h]

@[simp] theorem setSlot_pending {k} {x} (s : State) : (setSlot k x s).pending = s.pending := rfl
@[simp] theorem setSlot_out {k} {x} (s : State) : (setSlot k x s).out = s.out := rfl
@[simp] theorem setSlot_free {k} {x} (s : State) : (setSlot k x s).free = s.free := rfl
@[simp] theorem setSlot_sys {k} {x} (s : State) : (setSlot k x s).sys = s.sys := rfl
@[simp] theorem setSlot_clk {k} {x} (s : State) : (setSlot k x s).clk = s.clk := rfl
@[simp] theorem setSlot_ptp {k} {x} (s : State) : (setSlot k x s).ptp = s.ptp := rfl
@[simp] theorem setSlot_prov {k} {x} (s : State) : (setSlot k x s).prov = s.prov := rfl
@[simp] theorem setSlot_host {k} {x} (s : State) : (setSlot k x s).host = s.host := rfl
@[simp] theorem setSlot_ic {k} {x} (s : State) : (setSlot k x s).ic = s.ic := rfl
@[simp] theorem setSlot_crc {k} {x} (s : State) : (setSlot k x s).crc = s.crc := rfl
@[simp] theorem setSlot_net {k} {x} (s : State) : (setSlot k x s).net = s.net := rfl
@[simp] theorem setSlot_pair {k} {x} (s : State) : (setSlot k x s).pair = s.pair := rfl
@[simp] theorem setSlot_res {k} {x} (s : State) : (setSlot k x s).res = s.res := rfl
@[simp] theorem setSlot_dram {k} {x} (s : State) : (setSlot k x s).dram = s.dram := rfl
@[simp] theorem setSlot_therm {k} {x} (s : State) : (setSlot k x s).therm = s.therm := rfl
@[simp] theorem setSlot_cal {k} {x} (s : State) : (setSlot k x s).cal = s.cal := rfl
@[simp] theorem setSlot_arc {k} {x} (s : State) : (setSlot k x s).arc = s.arc := rfl
@[simp] theorem setSlot_encs {k} {x} (s : State) : (setSlot k x s).encs = s.encs := rfl
@[simp] theorem setSlot_lc {k} {x} (s : State) : (setSlot k x s).lc = s.lc := rfl
@[simp] theorem setSlot_probes {k} {x} (s : State) : (setSlot k x s).probes = s.probes := rfl
@[simp] theorem setSlot_cmps {k} {x} (s : State) : (setSlot k x s).cmps = s.cmps := rfl
@[simp] theorem setSlot_pulses {k} {x} (s : State) : (setSlot k x s).pulses = s.pulses := rfl
@[simp] theorem setSlot_emus {k} {x} (s : State) : (setSlot k x s).emus = s.emus := rfl
@[simp] theorem setSlot_gates {k} {x} (s : State) : (setSlot k x s).gates = s.gates := rfl
@[simp] theorem setSlot_pred {k} {x} (s : State) : (setSlot k x s).pred = s.pred := rfl
@[simp] theorem setSlot_regs {k} {x} (s : State) : (setSlot k x s).regs = s.regs := rfl
@[simp] theorem setSlot_lanes {k} {x} (s : State) : (setSlot k x s).lanes = s.lanes := rfl
@[simp] theorem setSlot_bays {k} {x} (s : State) : (setSlot k x s).bays = s.bays := rfl
@[simp] theorem setSlot_gals {k} {x} (s : State) : (setSlot k x s).gals = s.gals := rfl
@[simp] theorem setSlot_plans {k} {x} (s : State) : (setSlot k x s).plans = s.plans := rfl
@[simp] theorem setSlot_queues {k} {x} (s : State) : (setSlot k x s).queues = s.queues := rfl
@[simp] theorem setSlot_ctxs {k} {x} (s : State) : (setSlot k x s).ctxs = s.ctxs := rfl
@[simp] theorem setSlot_ports {k} {x} (s : State) : (setSlot k x s).ports = s.ports := rfl
@[simp] theorem setSlot_pipe {k} {x} (s : State) : (setSlot k x s).pipe = s.pipe := rfl
@[simp] theorem setSlot_loops {k} {x} (s : State) : (setSlot k x s).loops = s.loops := rfl
@[simp] theorem setSlot_reports {k} {x} (s : State) : (setSlot k x s).reports = s.reports := rfl
@[simp] theorem setSlot_lastContext {k} {x} (s : State) : (setSlot k x s).lastContext = s.lastContext := rfl
@[simp] theorem setSlot_sweeps {k} {x} (s : State) : (setSlot k x s).sweeps = s.sweeps := rfl
@[simp] theorem setSlot_sweep {k} {x} (s : State) : (setSlot k x s).sweep = s.sweep := rfl
@[simp] theorem setSlot_dgateAt {k} {x} (s : State) : (setSlot k x s).dgateAt = s.dgateAt := rfl
@[simp] theorem setSlot_lamps {k} {x} (s : State) : (setSlot k x s).lamps = s.lamps := rfl
@[simp] theorem setSlot_chains {k} {x} (s : State) : (setSlot k x s).chains = s.chains := rfl
@[simp] theorem setSlot_test {k} {x} (s : State) : (setSlot k x s).test = s.test := rfl
@[simp] theorem setSlot_tap {k} {x} (s : State) : (setSlot k x s).tap = s.tap := rfl
@[simp] theorem setSlot_porstLow {k} {x} (s : State) : (setSlot k x s).porstLow = s.porstLow := rfl
@[simp] theorem setSlot_slot {k} {x} (s : State) : (setSlot k x s).slot k = x := by simp [setSlot, State.slot]
theorem setSlot_slot_ne {k j} {x} (s : State) (h : j ≠ k) : (setSlot k x s).slot j = s.slot j := by
  simp [setSlot, State.slot, tget_tset_ne _ _ _ h]

@[simp] theorem setEnc_pending {c} {x} (s : State) : (setEnc c x s).pending = s.pending := rfl
@[simp] theorem setEnc_out {c} {x} (s : State) : (setEnc c x s).out = s.out := rfl
@[simp] theorem setEnc_free {c} {x} (s : State) : (setEnc c x s).free = s.free := rfl
@[simp] theorem setEnc_sys {c} {x} (s : State) : (setEnc c x s).sys = s.sys := rfl
@[simp] theorem setEnc_clk {c} {x} (s : State) : (setEnc c x s).clk = s.clk := rfl
@[simp] theorem setEnc_ptp {c} {x} (s : State) : (setEnc c x s).ptp = s.ptp := rfl
@[simp] theorem setEnc_prov {c} {x} (s : State) : (setEnc c x s).prov = s.prov := rfl
@[simp] theorem setEnc_cat {c} {x} (s : State) : (setEnc c x s).cat = s.cat := rfl
@[simp] theorem setEnc_host {c} {x} (s : State) : (setEnc c x s).host = s.host := rfl
@[simp] theorem setEnc_ic {c} {x} (s : State) : (setEnc c x s).ic = s.ic := rfl
@[simp] theorem setEnc_crc {c} {x} (s : State) : (setEnc c x s).crc = s.crc := rfl
@[simp] theorem setEnc_net {c} {x} (s : State) : (setEnc c x s).net = s.net := rfl
@[simp] theorem setEnc_pair {c} {x} (s : State) : (setEnc c x s).pair = s.pair := rfl
@[simp] theorem setEnc_res {c} {x} (s : State) : (setEnc c x s).res = s.res := rfl
@[simp] theorem setEnc_dram {c} {x} (s : State) : (setEnc c x s).dram = s.dram := rfl
@[simp] theorem setEnc_therm {c} {x} (s : State) : (setEnc c x s).therm = s.therm := rfl
@[simp] theorem setEnc_cal {c} {x} (s : State) : (setEnc c x s).cal = s.cal := rfl
@[simp] theorem setEnc_arc {c} {x} (s : State) : (setEnc c x s).arc = s.arc := rfl
@[simp] theorem setEnc_lc {c} {x} (s : State) : (setEnc c x s).lc = s.lc := rfl
@[simp] theorem setEnc_probes {c} {x} (s : State) : (setEnc c x s).probes = s.probes := rfl
@[simp] theorem setEnc_cmps {c} {x} (s : State) : (setEnc c x s).cmps = s.cmps := rfl
@[simp] theorem setEnc_pulses {c} {x} (s : State) : (setEnc c x s).pulses = s.pulses := rfl
@[simp] theorem setEnc_emus {c} {x} (s : State) : (setEnc c x s).emus = s.emus := rfl
@[simp] theorem setEnc_gates {c} {x} (s : State) : (setEnc c x s).gates = s.gates := rfl
@[simp] theorem setEnc_pred {c} {x} (s : State) : (setEnc c x s).pred = s.pred := rfl
@[simp] theorem setEnc_regs {c} {x} (s : State) : (setEnc c x s).regs = s.regs := rfl
@[simp] theorem setEnc_lanes {c} {x} (s : State) : (setEnc c x s).lanes = s.lanes := rfl
@[simp] theorem setEnc_bays {c} {x} (s : State) : (setEnc c x s).bays = s.bays := rfl
@[simp] theorem setEnc_gals {c} {x} (s : State) : (setEnc c x s).gals = s.gals := rfl
@[simp] theorem setEnc_plans {c} {x} (s : State) : (setEnc c x s).plans = s.plans := rfl
@[simp] theorem setEnc_queues {c} {x} (s : State) : (setEnc c x s).queues = s.queues := rfl
@[simp] theorem setEnc_ctxs {c} {x} (s : State) : (setEnc c x s).ctxs = s.ctxs := rfl
@[simp] theorem setEnc_ports {c} {x} (s : State) : (setEnc c x s).ports = s.ports := rfl
@[simp] theorem setEnc_pipe {c} {x} (s : State) : (setEnc c x s).pipe = s.pipe := rfl
@[simp] theorem setEnc_loops {c} {x} (s : State) : (setEnc c x s).loops = s.loops := rfl
@[simp] theorem setEnc_reports {c} {x} (s : State) : (setEnc c x s).reports = s.reports := rfl
@[simp] theorem setEnc_lastContext {c} {x} (s : State) : (setEnc c x s).lastContext = s.lastContext := rfl
@[simp] theorem setEnc_sweeps {c} {x} (s : State) : (setEnc c x s).sweeps = s.sweeps := rfl
@[simp] theorem setEnc_sweep {c} {x} (s : State) : (setEnc c x s).sweep = s.sweep := rfl
@[simp] theorem setEnc_dgateAt {c} {x} (s : State) : (setEnc c x s).dgateAt = s.dgateAt := rfl
@[simp] theorem setEnc_lamps {c} {x} (s : State) : (setEnc c x s).lamps = s.lamps := rfl
@[simp] theorem setEnc_chains {c} {x} (s : State) : (setEnc c x s).chains = s.chains := rfl
@[simp] theorem setEnc_test {c} {x} (s : State) : (setEnc c x s).test = s.test := rfl
@[simp] theorem setEnc_tap {c} {x} (s : State) : (setEnc c x s).tap = s.tap := rfl
@[simp] theorem setEnc_porstLow {c} {x} (s : State) : (setEnc c x s).porstLow = s.porstLow := rfl
@[simp] theorem setEnc_enc {c} {x} (s : State) : (setEnc c x s).enc c = x := by simp [setEnc, State.enc]
theorem setEnc_enc_ne {c j} {x} (s : State) (h : j ≠ c) : (setEnc c x s).enc j = s.enc j := by
  simp [setEnc, State.enc, tget_tset_ne _ _ _ h]

@[simp] theorem setCmp_pending {u} {x} (s : State) : (setCmp u x s).pending = s.pending := rfl
@[simp] theorem setCmp_out {u} {x} (s : State) : (setCmp u x s).out = s.out := rfl
@[simp] theorem setCmp_free {u} {x} (s : State) : (setCmp u x s).free = s.free := rfl
@[simp] theorem setCmp_sys {u} {x} (s : State) : (setCmp u x s).sys = s.sys := rfl
@[simp] theorem setCmp_clk {u} {x} (s : State) : (setCmp u x s).clk = s.clk := rfl
@[simp] theorem setCmp_ptp {u} {x} (s : State) : (setCmp u x s).ptp = s.ptp := rfl
@[simp] theorem setCmp_prov {u} {x} (s : State) : (setCmp u x s).prov = s.prov := rfl
@[simp] theorem setCmp_cat {u} {x} (s : State) : (setCmp u x s).cat = s.cat := rfl
@[simp] theorem setCmp_host {u} {x} (s : State) : (setCmp u x s).host = s.host := rfl
@[simp] theorem setCmp_ic {u} {x} (s : State) : (setCmp u x s).ic = s.ic := rfl
@[simp] theorem setCmp_crc {u} {x} (s : State) : (setCmp u x s).crc = s.crc := rfl
@[simp] theorem setCmp_net {u} {x} (s : State) : (setCmp u x s).net = s.net := rfl
@[simp] theorem setCmp_pair {u} {x} (s : State) : (setCmp u x s).pair = s.pair := rfl
@[simp] theorem setCmp_res {u} {x} (s : State) : (setCmp u x s).res = s.res := rfl
@[simp] theorem setCmp_dram {u} {x} (s : State) : (setCmp u x s).dram = s.dram := rfl
@[simp] theorem setCmp_therm {u} {x} (s : State) : (setCmp u x s).therm = s.therm := rfl
@[simp] theorem setCmp_cal {u} {x} (s : State) : (setCmp u x s).cal = s.cal := rfl
@[simp] theorem setCmp_arc {u} {x} (s : State) : (setCmp u x s).arc = s.arc := rfl
@[simp] theorem setCmp_encs {u} {x} (s : State) : (setCmp u x s).encs = s.encs := rfl
@[simp] theorem setCmp_lc {u} {x} (s : State) : (setCmp u x s).lc = s.lc := rfl
@[simp] theorem setCmp_probes {u} {x} (s : State) : (setCmp u x s).probes = s.probes := rfl
@[simp] theorem setCmp_pulses {u} {x} (s : State) : (setCmp u x s).pulses = s.pulses := rfl
@[simp] theorem setCmp_emus {u} {x} (s : State) : (setCmp u x s).emus = s.emus := rfl
@[simp] theorem setCmp_gates {u} {x} (s : State) : (setCmp u x s).gates = s.gates := rfl
@[simp] theorem setCmp_pred {u} {x} (s : State) : (setCmp u x s).pred = s.pred := rfl
@[simp] theorem setCmp_regs {u} {x} (s : State) : (setCmp u x s).regs = s.regs := rfl
@[simp] theorem setCmp_lanes {u} {x} (s : State) : (setCmp u x s).lanes = s.lanes := rfl
@[simp] theorem setCmp_bays {u} {x} (s : State) : (setCmp u x s).bays = s.bays := rfl
@[simp] theorem setCmp_gals {u} {x} (s : State) : (setCmp u x s).gals = s.gals := rfl
@[simp] theorem setCmp_plans {u} {x} (s : State) : (setCmp u x s).plans = s.plans := rfl
@[simp] theorem setCmp_queues {u} {x} (s : State) : (setCmp u x s).queues = s.queues := rfl
@[simp] theorem setCmp_ctxs {u} {x} (s : State) : (setCmp u x s).ctxs = s.ctxs := rfl
@[simp] theorem setCmp_ports {u} {x} (s : State) : (setCmp u x s).ports = s.ports := rfl
@[simp] theorem setCmp_pipe {u} {x} (s : State) : (setCmp u x s).pipe = s.pipe := rfl
@[simp] theorem setCmp_loops {u} {x} (s : State) : (setCmp u x s).loops = s.loops := rfl
@[simp] theorem setCmp_reports {u} {x} (s : State) : (setCmp u x s).reports = s.reports := rfl
@[simp] theorem setCmp_lastContext {u} {x} (s : State) : (setCmp u x s).lastContext = s.lastContext := rfl
@[simp] theorem setCmp_sweeps {u} {x} (s : State) : (setCmp u x s).sweeps = s.sweeps := rfl
@[simp] theorem setCmp_sweep {u} {x} (s : State) : (setCmp u x s).sweep = s.sweep := rfl
@[simp] theorem setCmp_dgateAt {u} {x} (s : State) : (setCmp u x s).dgateAt = s.dgateAt := rfl
@[simp] theorem setCmp_lamps {u} {x} (s : State) : (setCmp u x s).lamps = s.lamps := rfl
@[simp] theorem setCmp_chains {u} {x} (s : State) : (setCmp u x s).chains = s.chains := rfl
@[simp] theorem setCmp_test {u} {x} (s : State) : (setCmp u x s).test = s.test := rfl
@[simp] theorem setCmp_tap {u} {x} (s : State) : (setCmp u x s).tap = s.tap := rfl
@[simp] theorem setCmp_porstLow {u} {x} (s : State) : (setCmp u x s).porstLow = s.porstLow := rfl
@[simp] theorem setCmp_cmp {u} {x} (s : State) : (setCmp u x s).cmp u = x := by simp [setCmp, State.cmp]
theorem setCmp_cmp_ne {u j} {x} (s : State) (h : j ≠ u) : (setCmp u x s).cmp j = s.cmp j := by
  simp [setCmp, State.cmp, tget_tset_ne _ _ _ h]

@[simp] theorem setProbe_pending {p} {x} (s : State) : (setProbe p x s).pending = s.pending := rfl
@[simp] theorem setProbe_out {p} {x} (s : State) : (setProbe p x s).out = s.out := rfl
@[simp] theorem setProbe_free {p} {x} (s : State) : (setProbe p x s).free = s.free := rfl
@[simp] theorem setProbe_sys {p} {x} (s : State) : (setProbe p x s).sys = s.sys := rfl
@[simp] theorem setProbe_clk {p} {x} (s : State) : (setProbe p x s).clk = s.clk := rfl
@[simp] theorem setProbe_ptp {p} {x} (s : State) : (setProbe p x s).ptp = s.ptp := rfl
@[simp] theorem setProbe_prov {p} {x} (s : State) : (setProbe p x s).prov = s.prov := rfl
@[simp] theorem setProbe_cat {p} {x} (s : State) : (setProbe p x s).cat = s.cat := rfl
@[simp] theorem setProbe_host {p} {x} (s : State) : (setProbe p x s).host = s.host := rfl
@[simp] theorem setProbe_ic {p} {x} (s : State) : (setProbe p x s).ic = s.ic := rfl
@[simp] theorem setProbe_crc {p} {x} (s : State) : (setProbe p x s).crc = s.crc := rfl
@[simp] theorem setProbe_net {p} {x} (s : State) : (setProbe p x s).net = s.net := rfl
@[simp] theorem setProbe_pair {p} {x} (s : State) : (setProbe p x s).pair = s.pair := rfl
@[simp] theorem setProbe_res {p} {x} (s : State) : (setProbe p x s).res = s.res := rfl
@[simp] theorem setProbe_dram {p} {x} (s : State) : (setProbe p x s).dram = s.dram := rfl
@[simp] theorem setProbe_therm {p} {x} (s : State) : (setProbe p x s).therm = s.therm := rfl
@[simp] theorem setProbe_cal {p} {x} (s : State) : (setProbe p x s).cal = s.cal := rfl
@[simp] theorem setProbe_arc {p} {x} (s : State) : (setProbe p x s).arc = s.arc := rfl
@[simp] theorem setProbe_encs {p} {x} (s : State) : (setProbe p x s).encs = s.encs := rfl
@[simp] theorem setProbe_lc {p} {x} (s : State) : (setProbe p x s).lc = s.lc := rfl
@[simp] theorem setProbe_cmps {p} {x} (s : State) : (setProbe p x s).cmps = s.cmps := rfl
@[simp] theorem setProbe_pulses {p} {x} (s : State) : (setProbe p x s).pulses = s.pulses := rfl
@[simp] theorem setProbe_emus {p} {x} (s : State) : (setProbe p x s).emus = s.emus := rfl
@[simp] theorem setProbe_gates {p} {x} (s : State) : (setProbe p x s).gates = s.gates := rfl
@[simp] theorem setProbe_pred {p} {x} (s : State) : (setProbe p x s).pred = s.pred := rfl
@[simp] theorem setProbe_regs {p} {x} (s : State) : (setProbe p x s).regs = s.regs := rfl
@[simp] theorem setProbe_lanes {p} {x} (s : State) : (setProbe p x s).lanes = s.lanes := rfl
@[simp] theorem setProbe_bays {p} {x} (s : State) : (setProbe p x s).bays = s.bays := rfl
@[simp] theorem setProbe_gals {p} {x} (s : State) : (setProbe p x s).gals = s.gals := rfl
@[simp] theorem setProbe_plans {p} {x} (s : State) : (setProbe p x s).plans = s.plans := rfl
@[simp] theorem setProbe_queues {p} {x} (s : State) : (setProbe p x s).queues = s.queues := rfl
@[simp] theorem setProbe_ctxs {p} {x} (s : State) : (setProbe p x s).ctxs = s.ctxs := rfl
@[simp] theorem setProbe_ports {p} {x} (s : State) : (setProbe p x s).ports = s.ports := rfl
@[simp] theorem setProbe_pipe {p} {x} (s : State) : (setProbe p x s).pipe = s.pipe := rfl
@[simp] theorem setProbe_loops {p} {x} (s : State) : (setProbe p x s).loops = s.loops := rfl
@[simp] theorem setProbe_reports {p} {x} (s : State) : (setProbe p x s).reports = s.reports := rfl
@[simp] theorem setProbe_lastContext {p} {x} (s : State) : (setProbe p x s).lastContext = s.lastContext := rfl
@[simp] theorem setProbe_sweeps {p} {x} (s : State) : (setProbe p x s).sweeps = s.sweeps := rfl
@[simp] theorem setProbe_sweep {p} {x} (s : State) : (setProbe p x s).sweep = s.sweep := rfl
@[simp] theorem setProbe_dgateAt {p} {x} (s : State) : (setProbe p x s).dgateAt = s.dgateAt := rfl
@[simp] theorem setProbe_lamps {p} {x} (s : State) : (setProbe p x s).lamps = s.lamps := rfl
@[simp] theorem setProbe_chains {p} {x} (s : State) : (setProbe p x s).chains = s.chains := rfl
@[simp] theorem setProbe_test {p} {x} (s : State) : (setProbe p x s).test = s.test := rfl
@[simp] theorem setProbe_tap {p} {x} (s : State) : (setProbe p x s).tap = s.tap := rfl
@[simp] theorem setProbe_porstLow {p} {x} (s : State) : (setProbe p x s).porstLow = s.porstLow := rfl
@[simp] theorem setProbe_probe {p} {x} (s : State) : (setProbe p x s).probe p = x := by simp [setProbe, State.probe]
theorem setProbe_probe_ne {p j} {x} (s : State) (h : j ≠ p) : (setProbe p x s).probe j = s.probe j := by
  simp [setProbe, State.probe, tget_tset_ne _ _ _ h]

@[simp] theorem setTxq_pending {p} {q} {fs} (s : State) : (setTxq p q fs s).pending = s.pending := rfl
@[simp] theorem setTxq_out {p} {q} {fs} (s : State) : (setTxq p q fs s).out = s.out := rfl
@[simp] theorem setTxq_free {p} {q} {fs} (s : State) : (setTxq p q fs s).free = s.free := rfl
@[simp] theorem setTxq_sys {p} {q} {fs} (s : State) : (setTxq p q fs s).sys = s.sys := rfl
@[simp] theorem setTxq_clk {p} {q} {fs} (s : State) : (setTxq p q fs s).clk = s.clk := rfl
@[simp] theorem setTxq_ptp {p} {q} {fs} (s : State) : (setTxq p q fs s).ptp = s.ptp := rfl
@[simp] theorem setTxq_prov {p} {q} {fs} (s : State) : (setTxq p q fs s).prov = s.prov := rfl
@[simp] theorem setTxq_cat {p} {q} {fs} (s : State) : (setTxq p q fs s).cat = s.cat := rfl
@[simp] theorem setTxq_host {p} {q} {fs} (s : State) : (setTxq p q fs s).host = s.host := rfl
@[simp] theorem setTxq_ic {p} {q} {fs} (s : State) : (setTxq p q fs s).ic = s.ic := rfl
@[simp] theorem setTxq_crc {p} {q} {fs} (s : State) : (setTxq p q fs s).crc = s.crc := rfl
@[simp] theorem setTxq_pair {p} {q} {fs} (s : State) : (setTxq p q fs s).pair = s.pair := rfl
@[simp] theorem setTxq_res {p} {q} {fs} (s : State) : (setTxq p q fs s).res = s.res := rfl
@[simp] theorem setTxq_dram {p} {q} {fs} (s : State) : (setTxq p q fs s).dram = s.dram := rfl
@[simp] theorem setTxq_therm {p} {q} {fs} (s : State) : (setTxq p q fs s).therm = s.therm := rfl
@[simp] theorem setTxq_cal {p} {q} {fs} (s : State) : (setTxq p q fs s).cal = s.cal := rfl
@[simp] theorem setTxq_arc {p} {q} {fs} (s : State) : (setTxq p q fs s).arc = s.arc := rfl
@[simp] theorem setTxq_encs {p} {q} {fs} (s : State) : (setTxq p q fs s).encs = s.encs := rfl
@[simp] theorem setTxq_lc {p} {q} {fs} (s : State) : (setTxq p q fs s).lc = s.lc := rfl
@[simp] theorem setTxq_probes {p} {q} {fs} (s : State) : (setTxq p q fs s).probes = s.probes := rfl
@[simp] theorem setTxq_cmps {p} {q} {fs} (s : State) : (setTxq p q fs s).cmps = s.cmps := rfl
@[simp] theorem setTxq_pulses {p} {q} {fs} (s : State) : (setTxq p q fs s).pulses = s.pulses := rfl
@[simp] theorem setTxq_emus {p} {q} {fs} (s : State) : (setTxq p q fs s).emus = s.emus := rfl
@[simp] theorem setTxq_gates {p} {q} {fs} (s : State) : (setTxq p q fs s).gates = s.gates := rfl
@[simp] theorem setTxq_pred {p} {q} {fs} (s : State) : (setTxq p q fs s).pred = s.pred := rfl
@[simp] theorem setTxq_regs {p} {q} {fs} (s : State) : (setTxq p q fs s).regs = s.regs := rfl
@[simp] theorem setTxq_lanes {p} {q} {fs} (s : State) : (setTxq p q fs s).lanes = s.lanes := rfl
@[simp] theorem setTxq_bays {p} {q} {fs} (s : State) : (setTxq p q fs s).bays = s.bays := rfl
@[simp] theorem setTxq_gals {p} {q} {fs} (s : State) : (setTxq p q fs s).gals = s.gals := rfl
@[simp] theorem setTxq_plans {p} {q} {fs} (s : State) : (setTxq p q fs s).plans = s.plans := rfl
@[simp] theorem setTxq_queues {p} {q} {fs} (s : State) : (setTxq p q fs s).queues = s.queues := rfl
@[simp] theorem setTxq_ctxs {p} {q} {fs} (s : State) : (setTxq p q fs s).ctxs = s.ctxs := rfl
@[simp] theorem setTxq_ports {p} {q} {fs} (s : State) : (setTxq p q fs s).ports = s.ports := rfl
@[simp] theorem setTxq_pipe {p} {q} {fs} (s : State) : (setTxq p q fs s).pipe = s.pipe := rfl
@[simp] theorem setTxq_loops {p} {q} {fs} (s : State) : (setTxq p q fs s).loops = s.loops := rfl
@[simp] theorem setTxq_reports {p} {q} {fs} (s : State) : (setTxq p q fs s).reports = s.reports := rfl
@[simp] theorem setTxq_lastContext {p} {q} {fs} (s : State) : (setTxq p q fs s).lastContext = s.lastContext := rfl
@[simp] theorem setTxq_sweeps {p} {q} {fs} (s : State) : (setTxq p q fs s).sweeps = s.sweeps := rfl
@[simp] theorem setTxq_sweep {p} {q} {fs} (s : State) : (setTxq p q fs s).sweep = s.sweep := rfl
@[simp] theorem setTxq_dgateAt {p} {q} {fs} (s : State) : (setTxq p q fs s).dgateAt = s.dgateAt := rfl
@[simp] theorem setTxq_lamps {p} {q} {fs} (s : State) : (setTxq p q fs s).lamps = s.lamps := rfl
@[simp] theorem setTxq_chains {p} {q} {fs} (s : State) : (setTxq p q fs s).chains = s.chains := rfl
@[simp] theorem setTxq_test {p} {q} {fs} (s : State) : (setTxq p q fs s).test = s.test := rfl
@[simp] theorem setTxq_tap {p} {q} {fs} (s : State) : (setTxq p q fs s).tap = s.tap := rfl
@[simp] theorem setTxq_porstLow {p} {q} {fs} (s : State) : (setTxq p q fs s).porstLow = s.porstLow := rfl

@[simp] theorem setSession_pending {k} {x} (s : State) : (setSession k x s).pending = s.pending := rfl
@[simp] theorem setSession_out {k} {x} (s : State) : (setSession k x s).out = s.out := rfl
@[simp] theorem setSession_free {k} {x} (s : State) : (setSession k x s).free = s.free := rfl
@[simp] theorem setSession_sys {k} {x} (s : State) : (setSession k x s).sys = s.sys := rfl
@[simp] theorem setSession_clk {k} {x} (s : State) : (setSession k x s).clk = s.clk := rfl
@[simp] theorem setSession_ptp {k} {x} (s : State) : (setSession k x s).ptp = s.ptp := rfl
@[simp] theorem setSession_prov {k} {x} (s : State) : (setSession k x s).prov = s.prov := rfl
@[simp] theorem setSession_cat {k} {x} (s : State) : (setSession k x s).cat = s.cat := rfl
@[simp] theorem setSession_host {k} {x} (s : State) : (setSession k x s).host = s.host := rfl
@[simp] theorem setSession_ic {k} {x} (s : State) : (setSession k x s).ic = s.ic := rfl
@[simp] theorem setSession_crc {k} {x} (s : State) : (setSession k x s).crc = s.crc := rfl
@[simp] theorem setSession_pair {k} {x} (s : State) : (setSession k x s).pair = s.pair := rfl
@[simp] theorem setSession_res {k} {x} (s : State) : (setSession k x s).res = s.res := rfl
@[simp] theorem setSession_dram {k} {x} (s : State) : (setSession k x s).dram = s.dram := rfl
@[simp] theorem setSession_therm {k} {x} (s : State) : (setSession k x s).therm = s.therm := rfl
@[simp] theorem setSession_cal {k} {x} (s : State) : (setSession k x s).cal = s.cal := rfl
@[simp] theorem setSession_arc {k} {x} (s : State) : (setSession k x s).arc = s.arc := rfl
@[simp] theorem setSession_encs {k} {x} (s : State) : (setSession k x s).encs = s.encs := rfl
@[simp] theorem setSession_lc {k} {x} (s : State) : (setSession k x s).lc = s.lc := rfl
@[simp] theorem setSession_probes {k} {x} (s : State) : (setSession k x s).probes = s.probes := rfl
@[simp] theorem setSession_cmps {k} {x} (s : State) : (setSession k x s).cmps = s.cmps := rfl
@[simp] theorem setSession_pulses {k} {x} (s : State) : (setSession k x s).pulses = s.pulses := rfl
@[simp] theorem setSession_emus {k} {x} (s : State) : (setSession k x s).emus = s.emus := rfl
@[simp] theorem setSession_gates {k} {x} (s : State) : (setSession k x s).gates = s.gates := rfl
@[simp] theorem setSession_pred {k} {x} (s : State) : (setSession k x s).pred = s.pred := rfl
@[simp] theorem setSession_regs {k} {x} (s : State) : (setSession k x s).regs = s.regs := rfl
@[simp] theorem setSession_lanes {k} {x} (s : State) : (setSession k x s).lanes = s.lanes := rfl
@[simp] theorem setSession_bays {k} {x} (s : State) : (setSession k x s).bays = s.bays := rfl
@[simp] theorem setSession_gals {k} {x} (s : State) : (setSession k x s).gals = s.gals := rfl
@[simp] theorem setSession_plans {k} {x} (s : State) : (setSession k x s).plans = s.plans := rfl
@[simp] theorem setSession_queues {k} {x} (s : State) : (setSession k x s).queues = s.queues := rfl
@[simp] theorem setSession_ctxs {k} {x} (s : State) : (setSession k x s).ctxs = s.ctxs := rfl
@[simp] theorem setSession_ports {k} {x} (s : State) : (setSession k x s).ports = s.ports := rfl
@[simp] theorem setSession_pipe {k} {x} (s : State) : (setSession k x s).pipe = s.pipe := rfl
@[simp] theorem setSession_loops {k} {x} (s : State) : (setSession k x s).loops = s.loops := rfl
@[simp] theorem setSession_reports {k} {x} (s : State) : (setSession k x s).reports = s.reports := rfl
@[simp] theorem setSession_lastContext {k} {x} (s : State) : (setSession k x s).lastContext = s.lastContext := rfl
@[simp] theorem setSession_sweeps {k} {x} (s : State) : (setSession k x s).sweeps = s.sweeps := rfl
@[simp] theorem setSession_sweep {k} {x} (s : State) : (setSession k x s).sweep = s.sweep := rfl
@[simp] theorem setSession_dgateAt {k} {x} (s : State) : (setSession k x s).dgateAt = s.dgateAt := rfl
@[simp] theorem setSession_lamps {k} {x} (s : State) : (setSession k x s).lamps = s.lamps := rfl
@[simp] theorem setSession_chains {k} {x} (s : State) : (setSession k x s).chains = s.chains := rfl
@[simp] theorem setSession_test {k} {x} (s : State) : (setSession k x s).test = s.test := rfl
@[simp] theorem setSession_tap {k} {x} (s : State) : (setSession k x s).tap = s.tap := rfl
@[simp] theorem setSession_porstLow {k} {x} (s : State) : (setSession k x s).porstLow = s.porstLow := rfl

@[simp] theorem advance_pending {dt} (s : State) : (advance dt s).pending = s.pending := rfl
@[simp] theorem advance_out {dt} (s : State) : (advance dt s).out = s.out := rfl
@[simp] theorem advance_free {dt} (s : State) : (advance dt s).free = s.free := rfl
@[simp] theorem advance_sys {dt} (s : State) : (advance dt s).sys = s.sys := rfl
@[simp] theorem advance_ptp {dt} (s : State) : (advance dt s).ptp = s.ptp := rfl
@[simp] theorem advance_prov {dt} (s : State) : (advance dt s).prov = s.prov := rfl
@[simp] theorem advance_cat {dt} (s : State) : (advance dt s).cat = s.cat := rfl
@[simp] theorem advance_host {dt} (s : State) : (advance dt s).host = s.host := rfl
@[simp] theorem advance_ic {dt} (s : State) : (advance dt s).ic = s.ic := rfl
@[simp] theorem advance_crc {dt} (s : State) : (advance dt s).crc = s.crc := rfl
@[simp] theorem advance_net {dt} (s : State) : (advance dt s).net = s.net := rfl
@[simp] theorem advance_pair {dt} (s : State) : (advance dt s).pair = s.pair := rfl
@[simp] theorem advance_res {dt} (s : State) : (advance dt s).res = s.res := rfl
@[simp] theorem advance_dram {dt} (s : State) : (advance dt s).dram = s.dram := rfl
@[simp] theorem advance_therm {dt} (s : State) : (advance dt s).therm = s.therm := rfl
@[simp] theorem advance_cal {dt} (s : State) : (advance dt s).cal = s.cal := rfl
@[simp] theorem advance_arc {dt} (s : State) : (advance dt s).arc = s.arc := rfl
@[simp] theorem advance_encs {dt} (s : State) : (advance dt s).encs = s.encs := rfl
@[simp] theorem advance_lc {dt} (s : State) : (advance dt s).lc = s.lc := rfl
@[simp] theorem advance_probes {dt} (s : State) : (advance dt s).probes = s.probes := rfl
@[simp] theorem advance_cmps {dt} (s : State) : (advance dt s).cmps = s.cmps := rfl
@[simp] theorem advance_pulses {dt} (s : State) : (advance dt s).pulses = s.pulses := rfl
@[simp] theorem advance_emus {dt} (s : State) : (advance dt s).emus = s.emus := rfl
@[simp] theorem advance_gates {dt} (s : State) : (advance dt s).gates = s.gates := rfl
@[simp] theorem advance_pred {dt} (s : State) : (advance dt s).pred = s.pred := rfl
@[simp] theorem advance_regs {dt} (s : State) : (advance dt s).regs = s.regs := rfl
@[simp] theorem advance_lanes {dt} (s : State) : (advance dt s).lanes = s.lanes := rfl
@[simp] theorem advance_bays {dt} (s : State) : (advance dt s).bays = s.bays := rfl
@[simp] theorem advance_gals {dt} (s : State) : (advance dt s).gals = s.gals := rfl
@[simp] theorem advance_plans {dt} (s : State) : (advance dt s).plans = s.plans := rfl
@[simp] theorem advance_queues {dt} (s : State) : (advance dt s).queues = s.queues := rfl
@[simp] theorem advance_ctxs {dt} (s : State) : (advance dt s).ctxs = s.ctxs := rfl
@[simp] theorem advance_ports {dt} (s : State) : (advance dt s).ports = s.ports := rfl
@[simp] theorem advance_pipe {dt} (s : State) : (advance dt s).pipe = s.pipe := rfl
@[simp] theorem advance_loops {dt} (s : State) : (advance dt s).loops = s.loops := rfl
@[simp] theorem advance_reports {dt} (s : State) : (advance dt s).reports = s.reports := rfl
@[simp] theorem advance_lastContext {dt} (s : State) : (advance dt s).lastContext = s.lastContext := rfl
@[simp] theorem advance_sweeps {dt} (s : State) : (advance dt s).sweeps = s.sweeps := rfl
@[simp] theorem advance_sweep {dt} (s : State) : (advance dt s).sweep = s.sweep := rfl
@[simp] theorem advance_dgateAt {dt} (s : State) : (advance dt s).dgateAt = s.dgateAt := rfl
@[simp] theorem advance_lamps {dt} (s : State) : (advance dt s).lamps = s.lamps := rfl
@[simp] theorem advance_chains {dt} (s : State) : (advance dt s).chains = s.chains := rfl
@[simp] theorem advance_test {dt} (s : State) : (advance dt s).test = s.test := rfl
@[simp] theorem advance_tap {dt} (s : State) : (advance dt s).tap = s.tap := rfl
@[simp] theorem advance_porstLow {dt} (s : State) : (advance dt s).porstLow = s.porstLow := rfl

@[simp] theorem emit_pending {o} (s : State) : (emit o s).pending = s.pending := rfl
@[simp] theorem emit_free {o} (s : State) : (emit o s).free = s.free := rfl
@[simp] theorem emit_sys {o} (s : State) : (emit o s).sys = s.sys := rfl
@[simp] theorem emit_clk {o} (s : State) : (emit o s).clk = s.clk := rfl
@[simp] theorem emit_ptp {o} (s : State) : (emit o s).ptp = s.ptp := rfl
@[simp] theorem emit_prov {o} (s : State) : (emit o s).prov = s.prov := rfl
@[simp] theorem emit_cat {o} (s : State) : (emit o s).cat = s.cat := rfl
@[simp] theorem emit_host {o} (s : State) : (emit o s).host = s.host := rfl
@[simp] theorem emit_ic {o} (s : State) : (emit o s).ic = s.ic := rfl
@[simp] theorem emit_crc {o} (s : State) : (emit o s).crc = s.crc := rfl
@[simp] theorem emit_net {o} (s : State) : (emit o s).net = s.net := rfl
@[simp] theorem emit_pair {o} (s : State) : (emit o s).pair = s.pair := rfl
@[simp] theorem emit_res {o} (s : State) : (emit o s).res = s.res := rfl
@[simp] theorem emit_dram {o} (s : State) : (emit o s).dram = s.dram := rfl
@[simp] theorem emit_therm {o} (s : State) : (emit o s).therm = s.therm := rfl
@[simp] theorem emit_cal {o} (s : State) : (emit o s).cal = s.cal := rfl
@[simp] theorem emit_arc {o} (s : State) : (emit o s).arc = s.arc := rfl
@[simp] theorem emit_encs {o} (s : State) : (emit o s).encs = s.encs := rfl
@[simp] theorem emit_lc {o} (s : State) : (emit o s).lc = s.lc := rfl
@[simp] theorem emit_probes {o} (s : State) : (emit o s).probes = s.probes := rfl
@[simp] theorem emit_cmps {o} (s : State) : (emit o s).cmps = s.cmps := rfl
@[simp] theorem emit_pulses {o} (s : State) : (emit o s).pulses = s.pulses := rfl
@[simp] theorem emit_emus {o} (s : State) : (emit o s).emus = s.emus := rfl
@[simp] theorem emit_gates {o} (s : State) : (emit o s).gates = s.gates := rfl
@[simp] theorem emit_pred {o} (s : State) : (emit o s).pred = s.pred := rfl
@[simp] theorem emit_regs {o} (s : State) : (emit o s).regs = s.regs := rfl
@[simp] theorem emit_lanes {o} (s : State) : (emit o s).lanes = s.lanes := rfl
@[simp] theorem emit_bays {o} (s : State) : (emit o s).bays = s.bays := rfl
@[simp] theorem emit_gals {o} (s : State) : (emit o s).gals = s.gals := rfl
@[simp] theorem emit_plans {o} (s : State) : (emit o s).plans = s.plans := rfl
@[simp] theorem emit_queues {o} (s : State) : (emit o s).queues = s.queues := rfl
@[simp] theorem emit_ctxs {o} (s : State) : (emit o s).ctxs = s.ctxs := rfl
@[simp] theorem emit_ports {o} (s : State) : (emit o s).ports = s.ports := rfl
@[simp] theorem emit_pipe {o} (s : State) : (emit o s).pipe = s.pipe := rfl
@[simp] theorem emit_loops {o} (s : State) : (emit o s).loops = s.loops := rfl
@[simp] theorem emit_reports {o} (s : State) : (emit o s).reports = s.reports := rfl
@[simp] theorem emit_lastContext {o} (s : State) : (emit o s).lastContext = s.lastContext := rfl
@[simp] theorem emit_sweeps {o} (s : State) : (emit o s).sweeps = s.sweeps := rfl
@[simp] theorem emit_sweep {o} (s : State) : (emit o s).sweep = s.sweep := rfl
@[simp] theorem emit_dgateAt {o} (s : State) : (emit o s).dgateAt = s.dgateAt := rfl
@[simp] theorem emit_lamps {o} (s : State) : (emit o s).lamps = s.lamps := rfl
@[simp] theorem emit_chains {o} (s : State) : (emit o s).chains = s.chains := rfl
@[simp] theorem emit_test {o} (s : State) : (emit o s).test = s.test := rfl
@[simp] theorem emit_tap {o} (s : State) : (emit o s).tap = s.tap := rfl
@[simp] theorem emit_porstLow {o} (s : State) : (emit o s).porstLow = s.porstLow := rfl

@[simp] theorem draw_pending (s : State) : (draw s).pending = s.pending := rfl
@[simp] theorem draw_out (s : State) : (draw s).out = s.out := rfl
@[simp] theorem draw_sys (s : State) : (draw s).sys = s.sys := rfl
@[simp] theorem draw_clk (s : State) : (draw s).clk = s.clk := rfl
@[simp] theorem draw_ptp (s : State) : (draw s).ptp = s.ptp := rfl
@[simp] theorem draw_prov (s : State) : (draw s).prov = s.prov := rfl
@[simp] theorem draw_cat (s : State) : (draw s).cat = s.cat := rfl
@[simp] theorem draw_host (s : State) : (draw s).host = s.host := rfl
@[simp] theorem draw_ic (s : State) : (draw s).ic = s.ic := rfl
@[simp] theorem draw_crc (s : State) : (draw s).crc = s.crc := rfl
@[simp] theorem draw_net (s : State) : (draw s).net = s.net := rfl
@[simp] theorem draw_pair (s : State) : (draw s).pair = s.pair := rfl
@[simp] theorem draw_res (s : State) : (draw s).res = s.res := rfl
@[simp] theorem draw_dram (s : State) : (draw s).dram = s.dram := rfl
@[simp] theorem draw_therm (s : State) : (draw s).therm = s.therm := rfl
@[simp] theorem draw_cal (s : State) : (draw s).cal = s.cal := rfl
@[simp] theorem draw_arc (s : State) : (draw s).arc = s.arc := rfl
@[simp] theorem draw_encs (s : State) : (draw s).encs = s.encs := rfl
@[simp] theorem draw_lc (s : State) : (draw s).lc = s.lc := rfl
@[simp] theorem draw_probes (s : State) : (draw s).probes = s.probes := rfl
@[simp] theorem draw_cmps (s : State) : (draw s).cmps = s.cmps := rfl
@[simp] theorem draw_pulses (s : State) : (draw s).pulses = s.pulses := rfl
@[simp] theorem draw_emus (s : State) : (draw s).emus = s.emus := rfl
@[simp] theorem draw_gates (s : State) : (draw s).gates = s.gates := rfl
@[simp] theorem draw_pred (s : State) : (draw s).pred = s.pred := rfl
@[simp] theorem draw_regs (s : State) : (draw s).regs = s.regs := rfl
@[simp] theorem draw_lanes (s : State) : (draw s).lanes = s.lanes := rfl
@[simp] theorem draw_bays (s : State) : (draw s).bays = s.bays := rfl
@[simp] theorem draw_gals (s : State) : (draw s).gals = s.gals := rfl
@[simp] theorem draw_plans (s : State) : (draw s).plans = s.plans := rfl
@[simp] theorem draw_queues (s : State) : (draw s).queues = s.queues := rfl
@[simp] theorem draw_ctxs (s : State) : (draw s).ctxs = s.ctxs := rfl
@[simp] theorem draw_ports (s : State) : (draw s).ports = s.ports := rfl
@[simp] theorem draw_pipe (s : State) : (draw s).pipe = s.pipe := rfl
@[simp] theorem draw_loops (s : State) : (draw s).loops = s.loops := rfl
@[simp] theorem draw_reports (s : State) : (draw s).reports = s.reports := rfl
@[simp] theorem draw_lastContext (s : State) : (draw s).lastContext = s.lastContext := rfl
@[simp] theorem draw_sweeps (s : State) : (draw s).sweeps = s.sweeps := rfl
@[simp] theorem draw_sweep (s : State) : (draw s).sweep = s.sweep := rfl
@[simp] theorem draw_dgateAt (s : State) : (draw s).dgateAt = s.dgateAt := rfl
@[simp] theorem draw_lamps (s : State) : (draw s).lamps = s.lamps := rfl
@[simp] theorem draw_chains (s : State) : (draw s).chains = s.chains := rfl
@[simp] theorem draw_test (s : State) : (draw s).test = s.test := rfl
@[simp] theorem draw_tap (s : State) : (draw s).tap = s.tap := rfl
@[simp] theorem draw_porstLow (s : State) : (draw s).porstLow = s.porstLow := rfl

@[simp] theorem setVal_pending {idx} {sub} {v} (s : State) : (setVal idx sub v s).pending = s.pending := rfl
@[simp] theorem setVal_out {idx} {sub} {v} (s : State) : (setVal idx sub v s).out = s.out := rfl
@[simp] theorem setVal_free {idx} {sub} {v} (s : State) : (setVal idx sub v s).free = s.free := rfl
@[simp] theorem setVal_sys {idx} {sub} {v} (s : State) : (setVal idx sub v s).sys = s.sys := rfl
@[simp] theorem setVal_clk {idx} {sub} {v} (s : State) : (setVal idx sub v s).clk = s.clk := rfl
@[simp] theorem setVal_ptp {idx} {sub} {v} (s : State) : (setVal idx sub v s).ptp = s.ptp := rfl
@[simp] theorem setVal_prov {idx} {sub} {v} (s : State) : (setVal idx sub v s).prov = s.prov := rfl
@[simp] theorem setVal_host {idx} {sub} {v} (s : State) : (setVal idx sub v s).host = s.host := rfl
@[simp] theorem setVal_ic {idx} {sub} {v} (s : State) : (setVal idx sub v s).ic = s.ic := rfl
@[simp] theorem setVal_crc {idx} {sub} {v} (s : State) : (setVal idx sub v s).crc = s.crc := rfl
@[simp] theorem setVal_net {idx} {sub} {v} (s : State) : (setVal idx sub v s).net = s.net := rfl
@[simp] theorem setVal_pair {idx} {sub} {v} (s : State) : (setVal idx sub v s).pair = s.pair := rfl
@[simp] theorem setVal_res {idx} {sub} {v} (s : State) : (setVal idx sub v s).res = s.res := rfl
@[simp] theorem setVal_dram {idx} {sub} {v} (s : State) : (setVal idx sub v s).dram = s.dram := rfl
@[simp] theorem setVal_therm {idx} {sub} {v} (s : State) : (setVal idx sub v s).therm = s.therm := rfl
@[simp] theorem setVal_cal {idx} {sub} {v} (s : State) : (setVal idx sub v s).cal = s.cal := rfl
@[simp] theorem setVal_arc {idx} {sub} {v} (s : State) : (setVal idx sub v s).arc = s.arc := rfl
@[simp] theorem setVal_encs {idx} {sub} {v} (s : State) : (setVal idx sub v s).encs = s.encs := rfl
@[simp] theorem setVal_lc {idx} {sub} {v} (s : State) : (setVal idx sub v s).lc = s.lc := rfl
@[simp] theorem setVal_probes {idx} {sub} {v} (s : State) : (setVal idx sub v s).probes = s.probes := rfl
@[simp] theorem setVal_cmps {idx} {sub} {v} (s : State) : (setVal idx sub v s).cmps = s.cmps := rfl
@[simp] theorem setVal_pulses {idx} {sub} {v} (s : State) : (setVal idx sub v s).pulses = s.pulses := rfl
@[simp] theorem setVal_emus {idx} {sub} {v} (s : State) : (setVal idx sub v s).emus = s.emus := rfl
@[simp] theorem setVal_gates {idx} {sub} {v} (s : State) : (setVal idx sub v s).gates = s.gates := rfl
@[simp] theorem setVal_pred {idx} {sub} {v} (s : State) : (setVal idx sub v s).pred = s.pred := rfl
@[simp] theorem setVal_regs {idx} {sub} {v} (s : State) : (setVal idx sub v s).regs = s.regs := rfl
@[simp] theorem setVal_lanes {idx} {sub} {v} (s : State) : (setVal idx sub v s).lanes = s.lanes := rfl
@[simp] theorem setVal_bays {idx} {sub} {v} (s : State) : (setVal idx sub v s).bays = s.bays := rfl
@[simp] theorem setVal_gals {idx} {sub} {v} (s : State) : (setVal idx sub v s).gals = s.gals := rfl
@[simp] theorem setVal_plans {idx} {sub} {v} (s : State) : (setVal idx sub v s).plans = s.plans := rfl
@[simp] theorem setVal_queues {idx} {sub} {v} (s : State) : (setVal idx sub v s).queues = s.queues := rfl
@[simp] theorem setVal_ctxs {idx} {sub} {v} (s : State) : (setVal idx sub v s).ctxs = s.ctxs := rfl
@[simp] theorem setVal_ports {idx} {sub} {v} (s : State) : (setVal idx sub v s).ports = s.ports := rfl
@[simp] theorem setVal_pipe {idx} {sub} {v} (s : State) : (setVal idx sub v s).pipe = s.pipe := rfl
@[simp] theorem setVal_loops {idx} {sub} {v} (s : State) : (setVal idx sub v s).loops = s.loops := rfl
@[simp] theorem setVal_reports {idx} {sub} {v} (s : State) : (setVal idx sub v s).reports = s.reports := rfl
@[simp] theorem setVal_lastContext {idx} {sub} {v} (s : State) : (setVal idx sub v s).lastContext = s.lastContext := rfl
@[simp] theorem setVal_sweeps {idx} {sub} {v} (s : State) : (setVal idx sub v s).sweeps = s.sweeps := rfl
@[simp] theorem setVal_sweep {idx} {sub} {v} (s : State) : (setVal idx sub v s).sweep = s.sweep := rfl
@[simp] theorem setVal_dgateAt {idx} {sub} {v} (s : State) : (setVal idx sub v s).dgateAt = s.dgateAt := rfl
@[simp] theorem setVal_lamps {idx} {sub} {v} (s : State) : (setVal idx sub v s).lamps = s.lamps := rfl
@[simp] theorem setVal_chains {idx} {sub} {v} (s : State) : (setVal idx sub v s).chains = s.chains := rfl
@[simp] theorem setVal_test {idx} {sub} {v} (s : State) : (setVal idx sub v s).test = s.test := rfl
@[simp] theorem setVal_tap {idx} {sub} {v} (s : State) : (setVal idx sub v s).tap = s.tap := rfl
@[simp] theorem setVal_porstLow {idx} {sub} {v} (s : State) : (setVal idx sub v s).porstLow = s.porstLow := rfl

@[simp] theorem setDom_pending {idx} {sub} {bs} (s : State) : (setDom idx sub bs s).pending = s.pending := rfl
@[simp] theorem setDom_out {idx} {sub} {bs} (s : State) : (setDom idx sub bs s).out = s.out := rfl
@[simp] theorem setDom_free {idx} {sub} {bs} (s : State) : (setDom idx sub bs s).free = s.free := rfl
@[simp] theorem setDom_sys {idx} {sub} {bs} (s : State) : (setDom idx sub bs s).sys = s.sys := rfl
@[simp] theorem setDom_clk {idx} {sub} {bs} (s : State) : (setDom idx sub bs s).clk = s.clk := rfl
@[simp] theorem setDom_ptp {idx} {sub} {bs} (s : State) : (setDom idx sub bs s).ptp = s.ptp := rfl
@[simp] theorem setDom_prov {idx} {sub} {bs} (s : State) : (setDom idx sub bs s).prov = s.prov := rfl
@[simp] theorem setDom_host {idx} {sub} {bs} (s : State) : (setDom idx sub bs s).host = s.host := rfl
@[simp] theorem setDom_ic {idx} {sub} {bs} (s : State) : (setDom idx sub bs s).ic = s.ic := rfl
@[simp] theorem setDom_crc {idx} {sub} {bs} (s : State) : (setDom idx sub bs s).crc = s.crc := rfl
@[simp] theorem setDom_net {idx} {sub} {bs} (s : State) : (setDom idx sub bs s).net = s.net := rfl
@[simp] theorem setDom_pair {idx} {sub} {bs} (s : State) : (setDom idx sub bs s).pair = s.pair := rfl
@[simp] theorem setDom_res {idx} {sub} {bs} (s : State) : (setDom idx sub bs s).res = s.res := rfl
@[simp] theorem setDom_dram {idx} {sub} {bs} (s : State) : (setDom idx sub bs s).dram = s.dram := rfl
@[simp] theorem setDom_therm {idx} {sub} {bs} (s : State) : (setDom idx sub bs s).therm = s.therm := rfl
@[simp] theorem setDom_cal {idx} {sub} {bs} (s : State) : (setDom idx sub bs s).cal = s.cal := rfl
@[simp] theorem setDom_arc {idx} {sub} {bs} (s : State) : (setDom idx sub bs s).arc = s.arc := rfl
@[simp] theorem setDom_encs {idx} {sub} {bs} (s : State) : (setDom idx sub bs s).encs = s.encs := rfl
@[simp] theorem setDom_lc {idx} {sub} {bs} (s : State) : (setDom idx sub bs s).lc = s.lc := rfl
@[simp] theorem setDom_probes {idx} {sub} {bs} (s : State) : (setDom idx sub bs s).probes = s.probes := rfl
@[simp] theorem setDom_cmps {idx} {sub} {bs} (s : State) : (setDom idx sub bs s).cmps = s.cmps := rfl
@[simp] theorem setDom_pulses {idx} {sub} {bs} (s : State) : (setDom idx sub bs s).pulses = s.pulses := rfl
@[simp] theorem setDom_emus {idx} {sub} {bs} (s : State) : (setDom idx sub bs s).emus = s.emus := rfl
@[simp] theorem setDom_gates {idx} {sub} {bs} (s : State) : (setDom idx sub bs s).gates = s.gates := rfl
@[simp] theorem setDom_pred {idx} {sub} {bs} (s : State) : (setDom idx sub bs s).pred = s.pred := rfl
@[simp] theorem setDom_regs {idx} {sub} {bs} (s : State) : (setDom idx sub bs s).regs = s.regs := rfl
@[simp] theorem setDom_lanes {idx} {sub} {bs} (s : State) : (setDom idx sub bs s).lanes = s.lanes := rfl
@[simp] theorem setDom_bays {idx} {sub} {bs} (s : State) : (setDom idx sub bs s).bays = s.bays := rfl
@[simp] theorem setDom_gals {idx} {sub} {bs} (s : State) : (setDom idx sub bs s).gals = s.gals := rfl
@[simp] theorem setDom_plans {idx} {sub} {bs} (s : State) : (setDom idx sub bs s).plans = s.plans := rfl
@[simp] theorem setDom_queues {idx} {sub} {bs} (s : State) : (setDom idx sub bs s).queues = s.queues := rfl
@[simp] theorem setDom_ctxs {idx} {sub} {bs} (s : State) : (setDom idx sub bs s).ctxs = s.ctxs := rfl
@[simp] theorem setDom_ports {idx} {sub} {bs} (s : State) : (setDom idx sub bs s).ports = s.ports := rfl
@[simp] theorem setDom_pipe {idx} {sub} {bs} (s : State) : (setDom idx sub bs s).pipe = s.pipe := rfl
@[simp] theorem setDom_loops {idx} {sub} {bs} (s : State) : (setDom idx sub bs s).loops = s.loops := rfl
@[simp] theorem setDom_reports {idx} {sub} {bs} (s : State) : (setDom idx sub bs s).reports = s.reports := rfl
@[simp] theorem setDom_lastContext {idx} {sub} {bs} (s : State) : (setDom idx sub bs s).lastContext = s.lastContext := rfl
@[simp] theorem setDom_sweeps {idx} {sub} {bs} (s : State) : (setDom idx sub bs s).sweeps = s.sweeps := rfl
@[simp] theorem setDom_sweep {idx} {sub} {bs} (s : State) : (setDom idx sub bs s).sweep = s.sweep := rfl
@[simp] theorem setDom_dgateAt {idx} {sub} {bs} (s : State) : (setDom idx sub bs s).dgateAt = s.dgateAt := rfl
@[simp] theorem setDom_lamps {idx} {sub} {bs} (s : State) : (setDom idx sub bs s).lamps = s.lamps := rfl
@[simp] theorem setDom_chains {idx} {sub} {bs} (s : State) : (setDom idx sub bs s).chains = s.chains := rfl
@[simp] theorem setDom_test {idx} {sub} {bs} (s : State) : (setDom idx sub bs s).test = s.test := rfl
@[simp] theorem setDom_tap {idx} {sub} {bs} (s : State) : (setDom idx sub bs s).tap = s.tap := rfl
@[simp] theorem setDom_porstLow {idx} {sub} {bs} (s : State) : (setDom idx sub bs s).porstLow = s.porstLow := rfl

@[simp] theorem pendIrq_pending {src} (s : State) : (pendIrq src s).pending = s.pending := rfl
@[simp] theorem pendIrq_out {src} (s : State) : (pendIrq src s).out = s.out := rfl
@[simp] theorem pendIrq_free {src} (s : State) : (pendIrq src s).free = s.free := rfl
@[simp] theorem pendIrq_sys {src} (s : State) : (pendIrq src s).sys = s.sys := rfl
@[simp] theorem pendIrq_clk {src} (s : State) : (pendIrq src s).clk = s.clk := rfl
@[simp] theorem pendIrq_ptp {src} (s : State) : (pendIrq src s).ptp = s.ptp := rfl
@[simp] theorem pendIrq_prov {src} (s : State) : (pendIrq src s).prov = s.prov := rfl
@[simp] theorem pendIrq_cat {src} (s : State) : (pendIrq src s).cat = s.cat := rfl
@[simp] theorem pendIrq_host {src} (s : State) : (pendIrq src s).host = s.host := rfl
@[simp] theorem pendIrq_crc {src} (s : State) : (pendIrq src s).crc = s.crc := rfl
@[simp] theorem pendIrq_net {src} (s : State) : (pendIrq src s).net = s.net := rfl
@[simp] theorem pendIrq_pair {src} (s : State) : (pendIrq src s).pair = s.pair := rfl
@[simp] theorem pendIrq_res {src} (s : State) : (pendIrq src s).res = s.res := rfl
@[simp] theorem pendIrq_dram {src} (s : State) : (pendIrq src s).dram = s.dram := rfl
@[simp] theorem pendIrq_therm {src} (s : State) : (pendIrq src s).therm = s.therm := rfl
@[simp] theorem pendIrq_cal {src} (s : State) : (pendIrq src s).cal = s.cal := rfl
@[simp] theorem pendIrq_arc {src} (s : State) : (pendIrq src s).arc = s.arc := rfl
@[simp] theorem pendIrq_encs {src} (s : State) : (pendIrq src s).encs = s.encs := rfl
@[simp] theorem pendIrq_lc {src} (s : State) : (pendIrq src s).lc = s.lc := rfl
@[simp] theorem pendIrq_probes {src} (s : State) : (pendIrq src s).probes = s.probes := rfl
@[simp] theorem pendIrq_cmps {src} (s : State) : (pendIrq src s).cmps = s.cmps := rfl
@[simp] theorem pendIrq_pulses {src} (s : State) : (pendIrq src s).pulses = s.pulses := rfl
@[simp] theorem pendIrq_emus {src} (s : State) : (pendIrq src s).emus = s.emus := rfl
@[simp] theorem pendIrq_gates {src} (s : State) : (pendIrq src s).gates = s.gates := rfl
@[simp] theorem pendIrq_pred {src} (s : State) : (pendIrq src s).pred = s.pred := rfl
@[simp] theorem pendIrq_regs {src} (s : State) : (pendIrq src s).regs = s.regs := rfl
@[simp] theorem pendIrq_lanes {src} (s : State) : (pendIrq src s).lanes = s.lanes := rfl
@[simp] theorem pendIrq_bays {src} (s : State) : (pendIrq src s).bays = s.bays := rfl
@[simp] theorem pendIrq_gals {src} (s : State) : (pendIrq src s).gals = s.gals := rfl
@[simp] theorem pendIrq_plans {src} (s : State) : (pendIrq src s).plans = s.plans := rfl
@[simp] theorem pendIrq_queues {src} (s : State) : (pendIrq src s).queues = s.queues := rfl
@[simp] theorem pendIrq_ctxs {src} (s : State) : (pendIrq src s).ctxs = s.ctxs := rfl
@[simp] theorem pendIrq_ports {src} (s : State) : (pendIrq src s).ports = s.ports := rfl
@[simp] theorem pendIrq_pipe {src} (s : State) : (pendIrq src s).pipe = s.pipe := rfl
@[simp] theorem pendIrq_loops {src} (s : State) : (pendIrq src s).loops = s.loops := rfl
@[simp] theorem pendIrq_reports {src} (s : State) : (pendIrq src s).reports = s.reports := rfl
@[simp] theorem pendIrq_lastContext {src} (s : State) : (pendIrq src s).lastContext = s.lastContext := rfl
@[simp] theorem pendIrq_sweeps {src} (s : State) : (pendIrq src s).sweeps = s.sweeps := rfl
@[simp] theorem pendIrq_sweep {src} (s : State) : (pendIrq src s).sweep = s.sweep := rfl
@[simp] theorem pendIrq_dgateAt {src} (s : State) : (pendIrq src s).dgateAt = s.dgateAt := rfl
@[simp] theorem pendIrq_lamps {src} (s : State) : (pendIrq src s).lamps = s.lamps := rfl
@[simp] theorem pendIrq_chains {src} (s : State) : (pendIrq src s).chains = s.chains := rfl
@[simp] theorem pendIrq_test {src} (s : State) : (pendIrq src s).test = s.test := rfl
@[simp] theorem pendIrq_tap {src} (s : State) : (pendIrq src s).tap = s.tap := rfl
@[simp] theorem pendIrq_porstLow {src} (s : State) : (pendIrq src s).porstLow = s.porstLow := rfl

@[simp] theorem setProvRing_pending {r} {p} (s : State) : (setProvRing r p s).pending = s.pending := rfl
@[simp] theorem setProvRing_out {r} {p} (s : State) : (setProvRing r p s).out = s.out := rfl
@[simp] theorem setProvRing_free {r} {p} (s : State) : (setProvRing r p s).free = s.free := rfl
@[simp] theorem setProvRing_sys {r} {p} (s : State) : (setProvRing r p s).sys = s.sys := rfl
@[simp] theorem setProvRing_clk {r} {p} (s : State) : (setProvRing r p s).clk = s.clk := rfl
@[simp] theorem setProvRing_ptp {r} {p} (s : State) : (setProvRing r p s).ptp = s.ptp := rfl
@[simp] theorem setProvRing_cat {r} {p} (s : State) : (setProvRing r p s).cat = s.cat := rfl
@[simp] theorem setProvRing_host {r} {p} (s : State) : (setProvRing r p s).host = s.host := rfl
@[simp] theorem setProvRing_ic {r} {p} (s : State) : (setProvRing r p s).ic = s.ic := rfl
@[simp] theorem setProvRing_crc {r} {p} (s : State) : (setProvRing r p s).crc = s.crc := rfl
@[simp] theorem setProvRing_net {r} {p} (s : State) : (setProvRing r p s).net = s.net := rfl
@[simp] theorem setProvRing_pair {r} {p} (s : State) : (setProvRing r p s).pair = s.pair := rfl
@[simp] theorem setProvRing_res {r} {p} (s : State) : (setProvRing r p s).res = s.res := rfl
@[simp] theorem setProvRing_dram {r} {p} (s : State) : (setProvRing r p s).dram = s.dram := rfl
@[simp] theorem setProvRing_therm {r} {p} (s : State) : (setProvRing r p s).therm = s.therm := rfl
@[simp] theorem setProvRing_cal {r} {p} (s : State) : (setProvRing r p s).cal = s.cal := rfl
@[simp] theorem setProvRing_arc {r} {p} (s : State) : (setProvRing r p s).arc = s.arc := rfl
@[simp] theorem setProvRing_encs {r} {p} (s : State) : (setProvRing r p s).encs = s.encs := rfl
@[simp] theorem setProvRing_lc {r} {p} (s : State) : (setProvRing r p s).lc = s.lc := rfl
@[simp] theorem setProvRing_probes {r} {p} (s : State) : (setProvRing r p s).probes = s.probes := rfl
@[simp] theorem setProvRing_cmps {r} {p} (s : State) : (setProvRing r p s).cmps = s.cmps := rfl
@[simp] theorem setProvRing_pulses {r} {p} (s : State) : (setProvRing r p s).pulses = s.pulses := rfl
@[simp] theorem setProvRing_emus {r} {p} (s : State) : (setProvRing r p s).emus = s.emus := rfl
@[simp] theorem setProvRing_gates {r} {p} (s : State) : (setProvRing r p s).gates = s.gates := rfl
@[simp] theorem setProvRing_pred {r} {p} (s : State) : (setProvRing r p s).pred = s.pred := rfl
@[simp] theorem setProvRing_regs {r} {p} (s : State) : (setProvRing r p s).regs = s.regs := rfl
@[simp] theorem setProvRing_lanes {r} {p} (s : State) : (setProvRing r p s).lanes = s.lanes := rfl
@[simp] theorem setProvRing_bays {r} {p} (s : State) : (setProvRing r p s).bays = s.bays := rfl
@[simp] theorem setProvRing_gals {r} {p} (s : State) : (setProvRing r p s).gals = s.gals := rfl
@[simp] theorem setProvRing_plans {r} {p} (s : State) : (setProvRing r p s).plans = s.plans := rfl
@[simp] theorem setProvRing_queues {r} {p} (s : State) : (setProvRing r p s).queues = s.queues := rfl
@[simp] theorem setProvRing_ctxs {r} {p} (s : State) : (setProvRing r p s).ctxs = s.ctxs := rfl
@[simp] theorem setProvRing_ports {r} {p} (s : State) : (setProvRing r p s).ports = s.ports := rfl
@[simp] theorem setProvRing_pipe {r} {p} (s : State) : (setProvRing r p s).pipe = s.pipe := rfl
@[simp] theorem setProvRing_loops {r} {p} (s : State) : (setProvRing r p s).loops = s.loops := rfl
@[simp] theorem setProvRing_reports {r} {p} (s : State) : (setProvRing r p s).reports = s.reports := rfl
@[simp] theorem setProvRing_lastContext {r} {p} (s : State) : (setProvRing r p s).lastContext = s.lastContext := rfl
@[simp] theorem setProvRing_sweeps {r} {p} (s : State) : (setProvRing r p s).sweeps = s.sweeps := rfl
@[simp] theorem setProvRing_sweep {r} {p} (s : State) : (setProvRing r p s).sweep = s.sweep := rfl
@[simp] theorem setProvRing_dgateAt {r} {p} (s : State) : (setProvRing r p s).dgateAt = s.dgateAt := rfl
@[simp] theorem setProvRing_lamps {r} {p} (s : State) : (setProvRing r p s).lamps = s.lamps := rfl
@[simp] theorem setProvRing_chains {r} {p} (s : State) : (setProvRing r p s).chains = s.chains := rfl
@[simp] theorem setProvRing_test {r} {p} (s : State) : (setProvRing r p s).test = s.test := rfl
@[simp] theorem setProvRing_tap {r} {p} (s : State) : (setProvRing r p s).tap = s.tap := rfl
@[simp] theorem setProvRing_porstLow {r} {p} (s : State) : (setProvRing r p s).porstLow = s.porstLow := rfl
@[simp] theorem setProvRing_provRing {r} {p} (s : State) : (setProvRing r p s).provRing r = p := by simp [setProvRing, State.provRing]
theorem setProvRing_provRing_ne {r j} {p} (s : State) (h : j ≠ r) : (setProvRing r p s).provRing j = s.provRing j := by
  simp [setProvRing, State.provRing, tget_tset_ne _ _ _ h]

@[simp] theorem setTap_pending {x} (s : State) : (setTap x s).pending = s.pending := rfl
@[simp] theorem setTap_out {x} (s : State) : (setTap x s).out = s.out := rfl
@[simp] theorem setTap_free {x} (s : State) : (setTap x s).free = s.free := rfl
@[simp] theorem setTap_sys {x} (s : State) : (setTap x s).sys = s.sys := rfl
@[simp] theorem setTap_clk {x} (s : State) : (setTap x s).clk = s.clk := rfl
@[simp] theorem setTap_ptp {x} (s : State) : (setTap x s).ptp = s.ptp := rfl
@[simp] theorem setTap_prov {x} (s : State) : (setTap x s).prov = s.prov := rfl
@[simp] theorem setTap_cat {x} (s : State) : (setTap x s).cat = s.cat := rfl
@[simp] theorem setTap_host {x} (s : State) : (setTap x s).host = s.host := rfl
@[simp] theorem setTap_ic {x} (s : State) : (setTap x s).ic = s.ic := rfl
@[simp] theorem setTap_crc {x} (s : State) : (setTap x s).crc = s.crc := rfl
@[simp] theorem setTap_net {x} (s : State) : (setTap x s).net = s.net := rfl
@[simp] theorem setTap_pair {x} (s : State) : (setTap x s).pair = s.pair := rfl
@[simp] theorem setTap_res {x} (s : State) : (setTap x s).res = s.res := rfl
@[simp] theorem setTap_dram {x} (s : State) : (setTap x s).dram = s.dram := rfl
@[simp] theorem setTap_therm {x} (s : State) : (setTap x s).therm = s.therm := rfl
@[simp] theorem setTap_cal {x} (s : State) : (setTap x s).cal = s.cal := rfl
@[simp] theorem setTap_arc {x} (s : State) : (setTap x s).arc = s.arc := rfl
@[simp] theorem setTap_encs {x} (s : State) : (setTap x s).encs = s.encs := rfl
@[simp] theorem setTap_lc {x} (s : State) : (setTap x s).lc = s.lc := rfl
@[simp] theorem setTap_probes {x} (s : State) : (setTap x s).probes = s.probes := rfl
@[simp] theorem setTap_cmps {x} (s : State) : (setTap x s).cmps = s.cmps := rfl
@[simp] theorem setTap_pulses {x} (s : State) : (setTap x s).pulses = s.pulses := rfl
@[simp] theorem setTap_emus {x} (s : State) : (setTap x s).emus = s.emus := rfl
@[simp] theorem setTap_gates {x} (s : State) : (setTap x s).gates = s.gates := rfl
@[simp] theorem setTap_pred {x} (s : State) : (setTap x s).pred = s.pred := rfl
@[simp] theorem setTap_regs {x} (s : State) : (setTap x s).regs = s.regs := rfl
@[simp] theorem setTap_lanes {x} (s : State) : (setTap x s).lanes = s.lanes := rfl
@[simp] theorem setTap_bays {x} (s : State) : (setTap x s).bays = s.bays := rfl
@[simp] theorem setTap_gals {x} (s : State) : (setTap x s).gals = s.gals := rfl
@[simp] theorem setTap_plans {x} (s : State) : (setTap x s).plans = s.plans := rfl
@[simp] theorem setTap_queues {x} (s : State) : (setTap x s).queues = s.queues := rfl
@[simp] theorem setTap_ctxs {x} (s : State) : (setTap x s).ctxs = s.ctxs := rfl
@[simp] theorem setTap_ports {x} (s : State) : (setTap x s).ports = s.ports := rfl
@[simp] theorem setTap_pipe {x} (s : State) : (setTap x s).pipe = s.pipe := rfl
@[simp] theorem setTap_loops {x} (s : State) : (setTap x s).loops = s.loops := rfl
@[simp] theorem setTap_reports {x} (s : State) : (setTap x s).reports = s.reports := rfl
@[simp] theorem setTap_lastContext {x} (s : State) : (setTap x s).lastContext = s.lastContext := rfl
@[simp] theorem setTap_sweeps {x} (s : State) : (setTap x s).sweeps = s.sweeps := rfl
@[simp] theorem setTap_sweep {x} (s : State) : (setTap x s).sweep = s.sweep := rfl
@[simp] theorem setTap_dgateAt {x} (s : State) : (setTap x s).dgateAt = s.dgateAt := rfl
@[simp] theorem setTap_lamps {x} (s : State) : (setTap x s).lamps = s.lamps := rfl
@[simp] theorem setTap_chains {x} (s : State) : (setTap x s).chains = s.chains := rfl
@[simp] theorem setTap_test {x} (s : State) : (setTap x s).test = s.test := rfl
@[simp] theorem setTap_porstLow {x} (s : State) : (setTap x s).porstLow = s.porstLow := rfl

@[simp] theorem setSweepGal_pending {g} {x} (s : State) : (setSweepGal g x s).pending = s.pending := rfl
@[simp] theorem setSweepGal_out {g} {x} (s : State) : (setSweepGal g x s).out = s.out := rfl
@[simp] theorem setSweepGal_free {g} {x} (s : State) : (setSweepGal g x s).free = s.free := rfl
@[simp] theorem setSweepGal_sys {g} {x} (s : State) : (setSweepGal g x s).sys = s.sys := rfl
@[simp] theorem setSweepGal_clk {g} {x} (s : State) : (setSweepGal g x s).clk = s.clk := rfl
@[simp] theorem setSweepGal_ptp {g} {x} (s : State) : (setSweepGal g x s).ptp = s.ptp := rfl
@[simp] theorem setSweepGal_prov {g} {x} (s : State) : (setSweepGal g x s).prov = s.prov := rfl
@[simp] theorem setSweepGal_cat {g} {x} (s : State) : (setSweepGal g x s).cat = s.cat := rfl
@[simp] theorem setSweepGal_host {g} {x} (s : State) : (setSweepGal g x s).host = s.host := rfl
@[simp] theorem setSweepGal_ic {g} {x} (s : State) : (setSweepGal g x s).ic = s.ic := rfl
@[simp] theorem setSweepGal_crc {g} {x} (s : State) : (setSweepGal g x s).crc = s.crc := rfl
@[simp] theorem setSweepGal_net {g} {x} (s : State) : (setSweepGal g x s).net = s.net := rfl
@[simp] theorem setSweepGal_pair {g} {x} (s : State) : (setSweepGal g x s).pair = s.pair := rfl
@[simp] theorem setSweepGal_res {g} {x} (s : State) : (setSweepGal g x s).res = s.res := rfl
@[simp] theorem setSweepGal_dram {g} {x} (s : State) : (setSweepGal g x s).dram = s.dram := rfl
@[simp] theorem setSweepGal_therm {g} {x} (s : State) : (setSweepGal g x s).therm = s.therm := rfl
@[simp] theorem setSweepGal_cal {g} {x} (s : State) : (setSweepGal g x s).cal = s.cal := rfl
@[simp] theorem setSweepGal_arc {g} {x} (s : State) : (setSweepGal g x s).arc = s.arc := rfl
@[simp] theorem setSweepGal_encs {g} {x} (s : State) : (setSweepGal g x s).encs = s.encs := rfl
@[simp] theorem setSweepGal_lc {g} {x} (s : State) : (setSweepGal g x s).lc = s.lc := rfl
@[simp] theorem setSweepGal_probes {g} {x} (s : State) : (setSweepGal g x s).probes = s.probes := rfl
@[simp] theorem setSweepGal_cmps {g} {x} (s : State) : (setSweepGal g x s).cmps = s.cmps := rfl
@[simp] theorem setSweepGal_pulses {g} {x} (s : State) : (setSweepGal g x s).pulses = s.pulses := rfl
@[simp] theorem setSweepGal_emus {g} {x} (s : State) : (setSweepGal g x s).emus = s.emus := rfl
@[simp] theorem setSweepGal_gates {g} {x} (s : State) : (setSweepGal g x s).gates = s.gates := rfl
@[simp] theorem setSweepGal_pred {g} {x} (s : State) : (setSweepGal g x s).pred = s.pred := rfl
@[simp] theorem setSweepGal_regs {g} {x} (s : State) : (setSweepGal g x s).regs = s.regs := rfl
@[simp] theorem setSweepGal_lanes {g} {x} (s : State) : (setSweepGal g x s).lanes = s.lanes := rfl
@[simp] theorem setSweepGal_bays {g} {x} (s : State) : (setSweepGal g x s).bays = s.bays := rfl
@[simp] theorem setSweepGal_gals {g} {x} (s : State) : (setSweepGal g x s).gals = s.gals := rfl
@[simp] theorem setSweepGal_plans {g} {x} (s : State) : (setSweepGal g x s).plans = s.plans := rfl
@[simp] theorem setSweepGal_queues {g} {x} (s : State) : (setSweepGal g x s).queues = s.queues := rfl
@[simp] theorem setSweepGal_ctxs {g} {x} (s : State) : (setSweepGal g x s).ctxs = s.ctxs := rfl
@[simp] theorem setSweepGal_ports {g} {x} (s : State) : (setSweepGal g x s).ports = s.ports := rfl
@[simp] theorem setSweepGal_pipe {g} {x} (s : State) : (setSweepGal g x s).pipe = s.pipe := rfl
@[simp] theorem setSweepGal_loops {g} {x} (s : State) : (setSweepGal g x s).loops = s.loops := rfl
@[simp] theorem setSweepGal_reports {g} {x} (s : State) : (setSweepGal g x s).reports = s.reports := rfl
@[simp] theorem setSweepGal_lastContext {g} {x} (s : State) : (setSweepGal g x s).lastContext = s.lastContext := rfl
@[simp] theorem setSweepGal_sweep {g} {x} (s : State) : (setSweepGal g x s).sweep = s.sweep := rfl
@[simp] theorem setSweepGal_dgateAt {g} {x} (s : State) : (setSweepGal g x s).dgateAt = s.dgateAt := rfl
@[simp] theorem setSweepGal_lamps {g} {x} (s : State) : (setSweepGal g x s).lamps = s.lamps := rfl
@[simp] theorem setSweepGal_chains {g} {x} (s : State) : (setSweepGal g x s).chains = s.chains := rfl
@[simp] theorem setSweepGal_test {g} {x} (s : State) : (setSweepGal g x s).test = s.test := rfl
@[simp] theorem setSweepGal_tap {g} {x} (s : State) : (setSweepGal g x s).tap = s.tap := rfl
@[simp] theorem setSweepGal_porstLow {g} {x} (s : State) : (setSweepGal g x s).porstLow = s.porstLow := rfl
@[simp] theorem setSweepGal_sweepGal {g} {x} (s : State) : (setSweepGal g x s).sweepGal g = x := by simp [setSweepGal, State.sweepGal]
theorem setSweepGal_sweepGal_ne {g j} {x} (s : State) (h : j ≠ g) : (setSweepGal g x s).sweepGal j = s.sweepGal j := by
  simp [setSweepGal, State.sweepGal, tget_tset_ne _ _ _ h]

@[simp] theorem setSensor_pending {id} {x} (s : State) : (setSensor id x s).pending = s.pending := rfl
@[simp] theorem setSensor_out {id} {x} (s : State) : (setSensor id x s).out = s.out := rfl
@[simp] theorem setSensor_free {id} {x} (s : State) : (setSensor id x s).free = s.free := rfl
@[simp] theorem setSensor_sys {id} {x} (s : State) : (setSensor id x s).sys = s.sys := rfl
@[simp] theorem setSensor_clk {id} {x} (s : State) : (setSensor id x s).clk = s.clk := rfl
@[simp] theorem setSensor_ptp {id} {x} (s : State) : (setSensor id x s).ptp = s.ptp := rfl
@[simp] theorem setSensor_prov {id} {x} (s : State) : (setSensor id x s).prov = s.prov := rfl
@[simp] theorem setSensor_cat {id} {x} (s : State) : (setSensor id x s).cat = s.cat := rfl
@[simp] theorem setSensor_host {id} {x} (s : State) : (setSensor id x s).host = s.host := rfl
@[simp] theorem setSensor_ic {id} {x} (s : State) : (setSensor id x s).ic = s.ic := rfl
@[simp] theorem setSensor_crc {id} {x} (s : State) : (setSensor id x s).crc = s.crc := rfl
@[simp] theorem setSensor_net {id} {x} (s : State) : (setSensor id x s).net = s.net := rfl
@[simp] theorem setSensor_pair {id} {x} (s : State) : (setSensor id x s).pair = s.pair := rfl
@[simp] theorem setSensor_res {id} {x} (s : State) : (setSensor id x s).res = s.res := rfl
@[simp] theorem setSensor_dram {id} {x} (s : State) : (setSensor id x s).dram = s.dram := rfl
@[simp] theorem setSensor_cal {id} {x} (s : State) : (setSensor id x s).cal = s.cal := rfl
@[simp] theorem setSensor_arc {id} {x} (s : State) : (setSensor id x s).arc = s.arc := rfl
@[simp] theorem setSensor_encs {id} {x} (s : State) : (setSensor id x s).encs = s.encs := rfl
@[simp] theorem setSensor_lc {id} {x} (s : State) : (setSensor id x s).lc = s.lc := rfl
@[simp] theorem setSensor_probes {id} {x} (s : State) : (setSensor id x s).probes = s.probes := rfl
@[simp] theorem setSensor_cmps {id} {x} (s : State) : (setSensor id x s).cmps = s.cmps := rfl
@[simp] theorem setSensor_pulses {id} {x} (s : State) : (setSensor id x s).pulses = s.pulses := rfl
@[simp] theorem setSensor_emus {id} {x} (s : State) : (setSensor id x s).emus = s.emus := rfl
@[simp] theorem setSensor_gates {id} {x} (s : State) : (setSensor id x s).gates = s.gates := rfl
@[simp] theorem setSensor_pred {id} {x} (s : State) : (setSensor id x s).pred = s.pred := rfl
@[simp] theorem setSensor_regs {id} {x} (s : State) : (setSensor id x s).regs = s.regs := rfl
@[simp] theorem setSensor_lanes {id} {x} (s : State) : (setSensor id x s).lanes = s.lanes := rfl
@[simp] theorem setSensor_bays {id} {x} (s : State) : (setSensor id x s).bays = s.bays := rfl
@[simp] theorem setSensor_gals {id} {x} (s : State) : (setSensor id x s).gals = s.gals := rfl
@[simp] theorem setSensor_plans {id} {x} (s : State) : (setSensor id x s).plans = s.plans := rfl
@[simp] theorem setSensor_queues {id} {x} (s : State) : (setSensor id x s).queues = s.queues := rfl
@[simp] theorem setSensor_ctxs {id} {x} (s : State) : (setSensor id x s).ctxs = s.ctxs := rfl
@[simp] theorem setSensor_ports {id} {x} (s : State) : (setSensor id x s).ports = s.ports := rfl
@[simp] theorem setSensor_pipe {id} {x} (s : State) : (setSensor id x s).pipe = s.pipe := rfl
@[simp] theorem setSensor_loops {id} {x} (s : State) : (setSensor id x s).loops = s.loops := rfl
@[simp] theorem setSensor_reports {id} {x} (s : State) : (setSensor id x s).reports = s.reports := rfl
@[simp] theorem setSensor_lastContext {id} {x} (s : State) : (setSensor id x s).lastContext = s.lastContext := rfl
@[simp] theorem setSensor_sweeps {id} {x} (s : State) : (setSensor id x s).sweeps = s.sweeps := rfl
@[simp] theorem setSensor_sweep {id} {x} (s : State) : (setSensor id x s).sweep = s.sweep := rfl
@[simp] theorem setSensor_dgateAt {id} {x} (s : State) : (setSensor id x s).dgateAt = s.dgateAt := rfl
@[simp] theorem setSensor_lamps {id} {x} (s : State) : (setSensor id x s).lamps = s.lamps := rfl
@[simp] theorem setSensor_chains {id} {x} (s : State) : (setSensor id x s).chains = s.chains := rfl
@[simp] theorem setSensor_test {id} {x} (s : State) : (setSensor id x s).test = s.test := rfl
@[simp] theorem setSensor_tap {id} {x} (s : State) : (setSensor id x s).tap = s.tap := rfl
@[simp] theorem setSensor_porstLow {id} {x} (s : State) : (setSensor id x s).porstLow = s.porstLow := rfl

end Sys2Proof.Machine
end

