-- ==== Sys2Proof/Laws/Catalogue.lean ====
section
/-! SUPPORT. What the Catalogue's services do with a transaction that meets no other, and with a WRITE that passes its checks. -/

namespace Sys2Proof.Machine

/-- With no transaction before it, one that is accepted is executed at once (R36). -/
theorem serve_idle (t : Trans) (s : State) (hw : s.cat.waiting = []) (hm : s.cat.mirror = none) (hr : s.cat.reg = none) :
    serve t s = serveNow t s := by
  have e : ({ s.cat with waiting := [], mirror := none, reg := none } : Cat) = s.cat := by
    rw [← hw, ← hm, ← hr]
  have e2 : { s with cat := ({ s.cat with waiting := [], mirror := none, reg := none } : Cat) } = s := by rw [e]
  simp [serve, serveWaiting, answerRegWait, serveQueue, State.blocked, hw, hm, hr]
  exact congrArg (serveNow t) e2

/-- A route is one of the unit's own. -/
theorem host_direct (r : Route) (service idx sub : Nat) (bs : Bytes) :
    (⟨.direct (routeNo r), service, idx, sub, bs⟩ : Trans).host = true := by
  cases r with
  | mailbox => rfl
  | session k =>
    exact decide_eq_true (by show 1 + k.val ≤ 9; omega)

@[simp] theorem touchSession_cat (r : Route) (s : State) : (touchSession r s).cat = s.cat := by cases r <;> rfl

/-- Noting the figures of an ARM leaves the pair alone. -/
@[simp] theorem noteArm_pair (idx sub code : Nat) (bs : Bytes) (s : State) : (noteArm idx sub code bs s).pair = s.pair := by
  unfold noteArm noteBudget; repeat' split
  all_goals rfl

/-- A WRITE that passes every check, and that no peer must confirm, is applied and answered (R41, R47). -/
theorem catWrite_accepts (r : Route) (idx sub : Nat) (bs : Bytes) (row : Row) (dt : Nat) (s : State)
    (h : Accepts r idx sub bs row dt s) (hn : (among idx 0x5800 32 && sub == 5) = false) :
    catWrite r idx sub bs (advance dt s) =
      finishWrite ⟨.direct (routeNo r), 2, idx, sub, bs⟩ idx row bs (noteArm idx sub 0 bs (s.arrived r dt)) := by
  obtain ⟨⟨ho, ⟨hw, hm, hr⟩, ⟨hv, hf⟩, hc⟩, hcode, ha⟩ := h
  have e : catWrite r idx sub bs (advance dt s) = serveNow ⟨.direct (routeNo r), 2, idx, sub, bs⟩ (touchSession r (advance dt s)) := by
    unfold catWrite command
    rw [if_pos ho]
    exact serve_idle _ _ (by simpa using hw) (by simpa using hm) (by simpa using hr)
  have hi : (⟨.direct (routeNo r), 2, idx, sub, bs⟩ : Trans).isIdent = false := rfl
  have e2 : serveNow ⟨.direct (routeNo r), 2, idx, sub, bs⟩ (touchSession r (advance dt s)) =
      serveWrite ⟨.direct (routeNo r), 2, idx, sub, bs⟩ row (s.arrived r dt) := by
    simp only [serveNow, hi, hv, hf, State.arrived] at hc ⊢
    simp [hc, serveEntry]
  rw [e, e2]
  have hh := host_direct r 2 idx sub bs
  unfold serveWrite
  simp only [hh, hcode, hn]
  rcases ha with ha | ha
  · simp [commitWrite, ha]
  · have : (noteArm idx sub 0 bs (s.arrived r dt)).mirrors = false := by simpa [State.mirrors] using ha
    simp [commitWrite, this]

end Sys2Proof.Machine
end

