-- ==== Sys2Proof/Laws/Dispatch.lean ====
section
/-! SUPPORT. Each command is its own meaning: what lets a proof about one command skip the others. -/

namespace Sys2Proof.Machine

@[simp] theorem exec_read (dt route index sub data) (s : State) : exec (.read dt route index sub data) s = execRead dt route index sub data s := rfl
@[simp] theorem exec_write (dt route index sub data) (s : State) : exec (.write dt route index sub data) s = execWrite dt route index sub data s := rfl
@[simp] theorem exec_blockReadStart (dt route index sub data) (s : State) : exec (.blockReadStart dt route index sub data) s = execBlockReadStart dt route index sub data s := rfl
@[simp] theorem exec_blockWriteStart (dt route index sub data) (s : State) : exec (.blockWriteStart dt route index sub data) s = execBlockWriteStart dt route index sub data s := rfl
@[simp] theorem exec_blockWriteSegment (dt route index sub data) (s : State) : exec (.blockWriteSegment dt route index sub data) s = execBlockWriteSegment dt route index sub data s := rfl
@[simp] theorem exec_blockReadSegment (dt route index sub data) (s : State) : exec (.blockReadSegment dt route index sub data) s = execBlockReadSegment dt route index sub data s := rfl
@[simp] theorem exec_blockCancel (dt route index sub data) (s : State) : exec (.blockCancel dt route index sub data) s = execBlockCancel dt route index sub data s := rfl
@[simp] theorem exec_blockTransferTimeout (dt route) (s : State) : exec (.blockTransferTimeout dt route) s = execBlockTransferTimeout dt route s := rfl
@[simp] theorem exec_abort (dt route slot data) (s : State) : exec (.abort dt route slot data) s = execAbort dt route slot data s := rfl
@[simp] theorem exec_release (dt route slot data) (s : State) : exec (.release dt route slot data) s = execRelease dt route slot data s := rfl
@[simp] theorem exec_longopSlice (dt slot progress obs) (s : State) : exec (.longopSlice dt slot progress obs) s = execLongopSlice dt slot progress obs s := rfl
@[simp] theorem exec_longopDequeue (dt slot) (s : State) : exec (.longopDequeue dt slot) s = execLongopDequeue dt slot s := rfl
@[simp] theorem exec_encoderEdge (dt ch a b) (s : State) : exec (.encoderEdge dt ch a b) s = execEncoderEdge dt ch a b s := rfl
@[simp] theorem exec_encoderIndexEdge (dt ch) (s : State) : exec (.encoderIndexEdge dt ch) s = execEncoderIndexEdge dt ch s := rfl
@[simp] theorem exec_xcheckWindowEnd (dt) (s : State) : exec (.xcheckWindowEnd dt) s = execXcheckWindowEnd dt s := rfl
@[simp] theorem exec_webStill (dt ch) (s : State) : exec (.webStill dt ch) s = execWebStill dt ch s := rfl
@[simp] theorem exec_synthesisedTick (dt) (s : State) : exec (.synthesisedTick dt) s = execSynthesisedTick dt s := rfl
@[simp] theorem exec_origin (dt route data) (s : State) : exec (.origin dt route data) s = execOrigin dt route data s := rfl
@[simp] theorem exec_comparePulseEnd (dt m) (s : State) : exec (.comparePulseEnd dt m) s = execComparePulseEnd dt m s := rfl
@[simp] theorem exec_probeEdge (dt p level) (s : State) : exec (.probeEdge dt p level) s = execProbeEdge dt p level s := rfl
@[simp] theorem exec_probeLatch (dt p) (s : State) : exec (.probeLatch dt p) s = execProbeLatch dt p s := rfl
@[simp] theorem exec_emuStep (dt e) (s : State) : exec (.emuStep dt e) s = execEmuStep dt e s := rfl
@[simp] theorem exec_lineComplete (dt g line obs) (s : State) : exec (.lineComplete dt g line obs) s = execLineComplete dt g line obs s := rfl
@[simp] theorem exec_lineFrameStart (dt lane line) (s : State) : exec (.lineFrameStart dt lane line) s = execLineFrameStart dt lane line s := rfl
@[simp] theorem exec_dataLate (dt g line) (s : State) : exec (.dataLate dt g line) s = execDataLate dt g line s := rfl
@[simp] theorem exec_laneFrameSent (dt link) (s : State) : exec (.laneFrameSent dt link) s = execLaneFrameSent dt link s := rfl
@[simp] theorem exec_timePeriodic (dt link) (s : State) : exec (.timePeriodic dt link) s = execTimePeriodic dt link s := rfl
@[simp] theorem exec_tickOverdue (dt) (s : State) : exec (.tickOverdue dt) s = execTickOverdue dt s := rfl
@[simp] theorem exec_gateInputAccepted (dt n p c) (s : State) : exec (.gateInputAccepted dt n p c) s = execGateInputAccepted dt n p c s := rfl
@[simp] theorem exec_gateFault (dt n) (s : State) : exec (.gateFault dt n) s = execGateFault dt n s := rfl
@[simp] theorem exec_faultClear (dt route data) (s : State) : exec (.faultClear dt route data) s = execFaultClear dt route data s := rfl
@[simp] theorem exec_statusReceived (dt lane frame) (s : State) : exec (.statusReceived dt lane frame) s = execStatusReceived dt lane frame s := rfl
@[simp] theorem exec_ctrlAckReceived (dt lane frame) (s : State) : exec (.ctrlAckReceived dt lane frame) s = execCtrlAckReceived dt lane frame s := rfl
@[simp] theorem exec_ctrlDataReceived (dt lane frame) (s : State) : exec (.ctrlDataReceived dt lane frame) s = execCtrlDataReceived dt lane frame s := rfl
@[simp] theorem exec_ctrlRetry (dt lane tag) (s : State) : exec (.ctrlRetry dt lane tag) s = execCtrlRetry dt lane tag s := rfl
@[simp] theorem exec_idDataReceived (dt lane frame) (s : State) : exec (.idDataReceived dt lane frame) s = execIdDataReceived dt lane frame s := rfl
@[simp] theorem exec_idReadRetry (dt lane tag) (s : State) : exec (.idReadRetry dt lane tag) s = execIdReadRetry dt lane tag s := rfl
@[simp] theorem exec_faultReceived (dt lane frame) (s : State) : exec (.faultReceived dt lane frame) s = execFaultReceived dt lane frame s := rfl
@[simp] theorem exec_delayRespReceived (dt link frame) (s : State) : exec (.delayRespReceived dt link frame) s = execDelayRespReceived dt link frame s := rfl
@[simp] theorem exec_timeSyncSend (dt link) (s : State) : exec (.timeSyncSend dt link) s = execTimeSyncSend dt link s := rfl
@[simp] theorem exec_timeSyncUnanswered (dt link) (s : State) : exec (.timeSyncUnanswered dt link) s = execTimeSyncUnanswered dt link s := rfl
@[simp] theorem exec_trainReceived (dt link localOk state value request) (s : State) : exec (.trainReceived dt link localOk state value request) s = execTrainReceived dt link localOk state value request s := rfl
@[simp] theorem exec_laneDetect (dt link) (s : State) : exec (.laneDetect dt link) s = execLaneDetect dt link s := rfl
@[simp] theorem exec_eqPresetStep (dt link eye) (s : State) : exec (.eqPresetStep dt link eye) s = execEqPresetStep dt link eye s := rfl
@[simp] theorem exec_verifyPrbsEnd (dt link errors) (s : State) : exec (.verifyPrbsEnd dt link errors) s = execVerifyPrbsEnd dt link errors s := rfl
@[simp] theorem exec_trainTimeout (dt link) (s : State) : exec (.trainTimeout dt link) s = execTrainTimeout dt link s := rfl
@[simp] theorem exec_autoRetrain (dt link) (s : State) : exec (.autoRetrain dt link) s = execAutoRetrain dt link s := rfl
@[simp] theorem exec_fomMeasure (dt lane eye) (s : State) : exec (.fomMeasure dt lane eye) s = execFomMeasure dt lane eye s := rfl
@[simp] theorem exec_codeErrorLimit (dt run) (s : State) : exec (.codeErrorLimit dt run) s = execCodeErrorLimit dt run s := rfl
@[simp] theorem exec_commaLoss (dt link) (s : State) : exec (.commaLoss dt link) s = execCommaLoss dt link s := rfl
@[simp] theorem exec_badFrameRun (dt link) (s : State) : exec (.badFrameRun dt link) s = execBadFrameRun dt link s := rfl
@[simp] theorem exec_upstreamSilent (dt lane) (s : State) : exec (.upstreamSilent dt lane) s = execUpstreamSilent dt lane s := rfl
@[simp] theorem exec_statusMissing (dt bay) (s : State) : exec (.statusMissing dt bay) s = execStatusMissing dt bay s := rfl
@[simp] theorem exec_retrain (dt route lane data) (s : State) : exec (.retrain dt route lane data) s = execRetrain dt route lane data s := rfl
@[simp] theorem exec_waveLoad (dt route bay data) (s : State) : exec (.waveLoad dt route bay data) s = execWaveLoad dt route bay data s := rfl
@[simp] theorem exec_regDataRead (dt route lane data) (s : State) : exec (.regDataRead dt route lane data) s = execRegDataRead dt route lane data s := rfl
@[simp] theorem exec_regDataWrite (dt route lane data) (s : State) : exec (.regDataWrite dt route lane data) s = execRegDataWrite dt route lane data s := rfl
@[simp] theorem exec_arm (dt route data) (s : State) : exec (.arm dt route data) s = execArm dt route data s := rfl
@[simp] theorem exec_disarm (dt route data) (s : State) : exec (.disarm dt route data) s = execDisarm dt route data s := rfl
@[simp] theorem exec_enqueue (dt route q data) (s : State) : exec (.enqueue dt route q data) s = execEnqueue dt route q data s := rfl
@[simp] theorem exec_restart (dt route q data) (s : State) : exec (.restart dt route q data) s = execRestart dt route q data s := rfl
@[simp] theorem exec_load (dt route g data) (s : State) : exec (.load dt route g data) s = execLoad dt route g data s := rfl
@[simp] theorem exec_edit (dt route g data) (s : State) : exec (.edit dt route g data) s = execEdit dt route g data s := rfl
@[simp] theorem exec_swapLine (dt route g data) (s : State) : exec (.swapLine dt route g data) s = execSwapLine dt route g data s := rfl
@[simp] theorem exec_swapCancel (dt route g data) (s : State) : exec (.swapCancel dt route g data) s = execSwapCancel dt route g data s := rfl
@[simp] theorem exec_thresholdLoad (dt route g data) (s : State) : exec (.thresholdLoad dt route g data) s = execThresholdLoad dt route g data s := rfl
@[simp] theorem exec_ringTailDoorbell (dt ring value) (s : State) : exec (.ringTailDoorbell dt ring value) s = execRingTailDoorbell dt ring value s := rfl
@[simp] theorem exec_ringReset (dt ring value) (s : State) : exec (.ringReset dt ring value) s = execRingReset dt ring value s := rfl
@[simp] theorem exec_ringResume (dt ring value) (s : State) : exec (.ringResume dt ring value) s = execRingResume dt ring value s := rfl
@[simp] theorem exec_registerWrite (dt offset data) (s : State) : exec (.registerWrite dt offset data) s = execRegisterWrite dt offset data s := rfl
@[simp] theorem exec_containerStart (dt src descs bytes) (s : State) : exec (.containerStart dt src descs bytes) s = execContainerStart dt src descs bytes s := rfl
@[simp] theorem exec_containerTransferDone (dt id) (s : State) : exec (.containerTransferDone dt id) s = execContainerTransferDone dt id s := rfl
@[simp] theorem exec_completionTimeout (dt ring) (s : State) : exec (.completionTimeout dt ring) s = execCompletionTimeout dt ring s := rfl
@[simp] theorem exec_purge (dt route data) (s : State) : exec (.purge dt route data) s = execPurge dt route data s := rfl
@[simp] theorem exec_openDirect (dt route data) (s : State) : exec (.openDirect dt route data) s = execOpenDirect dt route data s := rfl
@[simp] theorem exec_commitDirect (dt route data) (s : State) : exec (.commitDirect dt route data) s = execCommitDirect dt route data s := rfl
@[simp] theorem exec_reserveBarWrite (dt offset data) (s : State) : exec (.reserveBarWrite dt offset data) s = execReserveBarWrite dt offset data s := rfl
@[simp] theorem exec_reserveBarRead (dt offset len) (s : State) : exec (.reserveBarRead dt offset len) s = execReserveBarRead dt offset len s := rfl
@[simp] theorem exec_bundle (dt route data) (s : State) : exec (.bundle dt route data) s = execBundle dt route data s := rfl
@[simp] theorem exec_bundleUnitStart (dt slot) (s : State) : exec (.bundleUnitStart dt slot) s = execBundleUnitStart dt slot s := rfl
@[simp] theorem exec_egressWrite (dt ring descs) (s : State) : exec (.egressWrite dt ring descs) s = execEgressWrite dt ring descs s := rfl
@[simp] theorem exec_csiFrameStart (dt port header number) (s : State) : exec (.csiFrameStart dt port header number) s = execCsiFrameStart dt port header number s := rfl
@[simp] theorem exec_csiLongPacket (dt port header dataType pixels crcOk) (s : State) : exec (.csiLongPacket dt port header dataType pixels crcOk) s = execCsiLongPacket dt port header dataType pixels crcOk s := rfl
@[simp] theorem exec_csiFrameEnd (dt port header number) (s : State) : exec (.csiFrameEnd dt port header number) s = execCsiFrameEnd dt port header number s := rfl
@[simp] theorem exec_cameraFrameTimeout (dt ctx) (s : State) : exec (.cameraFrameTimeout dt ctx) s = execCameraFrameTimeout dt ctx s := rfl
@[simp] theorem exec_pipelineFrameStart (dt) (s : State) : exec (.pipelineFrameStart dt) s = execPipelineFrameStart dt s := rfl
@[simp] theorem exec_pipelineFrameDone (dt) (s : State) : exec (.pipelineFrameDone dt) s = execPipelineFrameDone dt s := rfl
@[simp] theorem exec_exposureCommit (dt route ctx data) (s : State) : exec (.exposureCommit dt route ctx data) s = execExposureCommit dt route ctx data s := rfl
@[simp] theorem exec_cciTransactionDone (dt port result) (s : State) : exec (.cciTransactionDone dt port result) s = execCciTransactionDone dt port result s := rfl
@[simp] theorem exec_cciStretchTimeout (dt port) (s : State) : exec (.cciStretchTimeout dt port) s = execCciStretchTimeout dt port s := rfl
@[simp] theorem exec_cciRequest (dt route port data) (s : State) : exec (.cciRequest dt route port data) s = execCciRequest dt route port data s := rfl
@[simp] theorem exec_freeze (dt route ctx data) (s : State) : exec (.freeze dt route ctx data) s = execFreeze dt route ctx data s := rfl
@[simp] theorem exec_loopReport (dt) (s : State) : exec (.loopReport dt) s = execLoopReport dt s := rfl
@[simp] theorem exec_loopUpdate (dt g) (s : State) : exec (.loopUpdate dt g) s = execLoopUpdate dt g s := rfl
@[simp] theorem exec_sweep (dt route data) (s : State) : exec (.sweep dt route data) s = execSweep dt route data s := rfl
@[simp] theorem exec_sweepSlot (dt) (s : State) : exec (.sweepSlot dt) s = execSweepSlot dt s := rfl
@[simp] theorem exec_dgatePulse (dt g) (s : State) : exec (.dgatePulse dt g) s = execDgatePulse dt g s := rfl
@[simp] theorem exec_shotDecide (dt g) (s : State) : exec (.shotDecide dt g) s = execShotDecide dt g s := rfl
@[simp] theorem exec_dgateStuck (dt g) (s : State) : exec (.dgateStuck dt g) s = execDgateStuck dt g s := rfl
@[simp] theorem exec_lampRefresh (dt ch) (s : State) : exec (.lampRefresh dt ch) s = execLampRefresh dt ch s := rfl
@[simp] theorem exec_lampLatch (dt ch status) (s : State) : exec (.lampLatch dt ch status) s = execLampLatch dt ch status s := rfl
@[simp] theorem exec_peerActiveChange (dt asserted) (s : State) : exec (.peerActiveChange dt asserted) s = execPeerActiveChange dt asserted s := rfl
@[simp] theorem exec_arbitrationTimeout (dt) (s : State) : exec (.arbitrationTimeout dt) s = execArbitrationTimeout dt s := rfl
@[simp] theorem exec_takeoverLaneSend (dt lane) (s : State) : exec (.takeoverLaneSend dt lane) s = execTakeoverLaneSend dt lane s := rfl
@[simp] theorem exec_heartbeatSend (dt lane) (s : State) : exec (.heartbeatSend dt lane) s = execHeartbeatSend dt lane s := rfl
@[simp] theorem exec_heartbeatLost (dt) (s : State) : exec (.heartbeatLost dt) s = execHeartbeatLost dt s := rfl
@[simp] theorem exec_heartbeatReceived (dt role reign mode tick confirmed) (s : State) : exec (.heartbeatReceived dt role reign mode tick confirmed) s = execHeartbeatReceived dt role reign mode tick confirmed s := rfl
@[simp] theorem exec_mirrorReceived (dt seq body) (s : State) : exec (.mirrorReceived dt seq body) s = execMirrorReceived dt seq body s := rfl
@[simp] theorem exec_segmentReceived (dt seq part) (s : State) : exec (.segmentReceived dt seq part) s = execSegmentReceived dt seq part s := rfl
@[simp] theorem exec_confirmReceived (dt seq result) (s : State) : exec (.confirmReceived dt seq result) s = execConfirmReceived dt seq result s := rfl
@[simp] theorem exec_mirrorTimeout (dt) (s : State) : exec (.mirrorTimeout dt) s = execMirrorTimeout dt s := rfl
@[simp] theorem exec_pairLinkDownTimeout (dt) (s : State) : exec (.pairLinkDownTimeout dt) s = execPairLinkDownTimeout dt s := rfl
@[simp] theorem exec_reportReceived (dt report) (s : State) : exec (.reportReceived dt report) s = execReportReceived dt report s := rfl
@[simp] theorem exec_bayStateReceived (dt bay st) (s : State) : exec (.bayStateReceived dt bay st) s = execBayStateReceived dt bay st s := rfl
@[simp] theorem exec_decisionReceived (dt q inst starved) (s : State) : exec (.decisionReceived dt q inst starved) s = execDecisionReceived dt q inst starved s := rfl
@[simp] theorem exec_alignReceived (dt msg) (s : State) : exec (.alignReceived dt msg) s = execAlignReceived dt msg s := rfl
@[simp] theorem exec_alignSend (dt) (s : State) : exec (.alignSend dt) s = execAlignSend dt s := rfl
@[simp] theorem exec_alignPoint (dt) (s : State) : exec (.alignPoint dt) s = execAlignPoint dt s := rfl
@[simp] theorem exec_digestReceived (dt g line crc) (s : State) : exec (.digestReceived dt g line crc) s = execDigestReceived dt g line crc s := rfl
@[simp] theorem exec_relinquishReceived (dt cause lines) (s : State) : exec (.relinquishReceived dt cause lines) s = execRelinquishReceived dt cause lines s := rfl
@[simp] theorem exec_takeoverNoticeReceived (dt reign) (s : State) : exec (.takeoverNoticeReceived dt reign) s = execTakeoverNoticeReceived dt reign s := rfl
@[simp] theorem exec_handoverReceived (dt mh) (s : State) : exec (.handoverReceived dt mh) s = execHandoverReceived dt mh s := rfl
@[simp] theorem exec_yieldedReceived (dt) (s : State) : exec (.yieldedReceived dt) s = execYieldedReceived dt s := rfl
@[simp] theorem exec_resyncDataReceived (dt item) (s : State) : exec (.resyncDataReceived dt item) s = execResyncDataReceived dt item s := rfl
@[simp] theorem exec_handover (dt route data) (s : State) : exec (.handover dt route data) s = execHandover dt route data s := rfl
@[simp] theorem exec_handoverTakeoverSend (dt lane) (s : State) : exec (.handoverTakeoverSend dt lane) s = execHandoverTakeoverSend dt lane s := rfl
@[simp] theorem exec_resync (dt route data) (s : State) : exec (.resync dt route data) s = execResync dt route data s := rfl
@[simp] theorem exec_declareDegraded (dt route data) (s : State) : exec (.declareDegraded dt route data) s = execDeclareDegraded dt route data s := rfl
@[simp] theorem exec_netLink (dt port link) (s : State) : exec (.netLink dt port link) s = execNetLink dt port link s := rfl
@[simp] theorem exec_ethernetFrameFiltered (dt port frame fcsOk) (s : State) : exec (.ethernetFrameFiltered dt port frame fcsOk) s = execEthernetFrameFiltered dt port frame fcsOk s := rfl
@[simp] theorem exec_arpReceived (dt port arp) (s : State) : exec (.arpReceived dt port arp) s = execArpReceived dt port arp s := rfl
@[simp] theorem exec_arpRetry (dt port ip) (s : State) : exec (.arpRetry dt port ip) s = execArpRetry dt port ip s := rfl
@[simp] theorem exec_arpUnresolved (dt port ip) (s : State) : exec (.arpUnresolved dt port ip) s = execArpUnresolved dt port ip s := rfl
@[simp] theorem exec_arpAgeExpiry (dt port ip) (s : State) : exec (.arpAgeExpiry dt port ip) s = execArpAgeExpiry dt port ip s := rfl
@[simp] theorem exec_sharedIpArp (dt) (s : State) : exec (.sharedIpArp dt) s = execSharedIpArp dt s := rfl
@[simp] theorem exec_icmpEcho (dt src echo) (s : State) : exec (.icmpEcho dt src echo) s = execIcmpEcho dt src echo s := rfl
@[simp] theorem exec_challenge (dt src msg) (s : State) : exec (.challenge dt src msg) s = execChallenge dt src msg s := rfl
@[simp] theorem exec_openSession (dt src msg) (s : State) : exec (.openSession dt src msg) s = execOpenSession dt src msg s := rfl
@[simp] theorem exec_request (dt src msg) (s : State) : exec (.request dt src msg) s = execRequest dt src msg s := rfl
@[simp] theorem exec_closeRequest (dt src msg) (s : State) : exec (.closeRequest dt src msg) s = execCloseRequest dt src msg s := rfl
@[simp] theorem exec_identRead (dt src msg) (s : State) : exec (.identRead dt src msg) s = execIdentRead dt src msg s := rfl
@[simp] theorem exec_sessionIdleTimeout (dt slot) (s : State) : exec (.sessionIdleTimeout dt slot) s = execSessionIdleTimeout dt slot s := rfl
@[simp] theorem exec_nonceExpiry (dt port) (s : State) : exec (.nonceExpiry dt port) s = execNonceExpiry dt port s := rfl
@[simp] theorem exec_lockoutEnd (dt ip) (s : State) : exec (.lockoutEnd dt ip) s = execLockoutEnd dt ip s := rfl
@[simp] theorem exec_authCountExpiry (dt ip) (s : State) : exec (.authCountExpiry dt ip) s = execAuthCountExpiry dt ip s := rfl
@[simp] theorem exec_closeSession (dt route data) (s : State) : exec (.closeSession dt route data) s = execCloseSession dt route data s := rfl
@[simp] theorem exec_keyWrite (dt route data) (s : State) : exec (.keyWrite dt route data) s = execKeyWrite dt route data s := rfl
@[simp] theorem exec_mdioRequest (dt route port data phy) (s : State) : exec (.mdioRequest dt route port data phy) s = execMdioRequest dt route port data phy s := rfl
@[simp] theorem exec_publicationSample (dt p) (s : State) : exec (.publicationSample dt p) s = execPublicationSample dt p s := rfl
@[simp] theorem exec_eventPushSend (dt) (s : State) : exec (.eventPushSend dt) s = execEventPushSend dt s := rfl
@[simp] theorem exec_frameLaunch (dt port queue) (s : State) : exec (.frameLaunch dt port queue) s = execFrameLaunch dt port queue s := rfl
@[simp] theorem exec_launchDropped (dt port queue) (s : State) : exec (.launchDropped dt port queue) s = execLaunchDropped dt port queue s := rfl
@[simp] theorem exec_ptpSyncReceived (dt master) (s : State) : exec (.ptpSyncReceived dt master) s = execPtpSyncReceived dt master s := rfl
@[simp] theorem exec_deferredStep (dt) (s : State) : exec (.deferredStep dt) s = execDeferredStep dt s := rfl
@[simp] theorem exec_ptpDelayRespReceived (dt received) (s : State) : exec (.ptpDelayRespReceived dt received) s = execPtpDelayRespReceived dt received s := rfl
@[simp] theorem exec_ptpDelayReqReceived (dt req) (s : State) : exec (.ptpDelayReqReceived dt req) s = execPtpDelayReqReceived dt req s := rfl
@[simp] theorem exec_ptpAnnounceReceived (dt ann) (s : State) : exec (.ptpAnnounceReceived dt ann) s = execPtpAnnounceReceived dt ann s := rfl
@[simp] theorem exec_ptpSyncSend (dt) (s : State) : exec (.ptpSyncSend dt) s = execPtpSyncSend dt s := rfl
@[simp] theorem exec_ptpDelayReqSend (dt) (s : State) : exec (.ptpDelayReqSend dt) s = execPtpDelayReqSend dt s := rfl
@[simp] theorem exec_syncTimeout (dt) (s : State) : exec (.syncTimeout dt) s = execSyncTimeout dt s := rfl
@[simp] theorem exec_setTime (dt route data) (s : State) : exec (.setTime dt route data) s = execSetTime dt route data s := rfl
@[simp] theorem exec_timeSnapshot (dt value) (s : State) : exec (.timeSnapshot dt value) s = execTimeSnapshot dt value s := rfl
@[simp] theorem exec_provenanceExport (dt ring) (s : State) : exec (.provenanceExport dt ring) s = execProvenanceExport dt ring s := rfl
@[simp] theorem exec_provenanceRewind (dt ring value) (s : State) : exec (.provenanceRewind dt ring value) s = execProvenanceRewind dt ring value s := rfl
@[simp] theorem exec_printRecordWrite (dt g line) (s : State) : exec (.printRecordWrite dt g line) s = execPrintRecordWrite dt g line s := rfl
@[simp] theorem exec_hostPortReset (dt cause) (s : State) : exec (.hostPortReset dt cause) s = execHostPortReset dt cause s := rfl
@[simp] theorem exec_hostLink (dt speed width) (s : State) : exec (.hostLink dt speed width) s = execHostLink dt speed width s := rfl
@[simp] theorem exec_mbDoorbell (dt value) (s : State) : exec (.mbDoorbell dt value) s = execMbDoorbell dt value s := rfl
@[simp] theorem exec_mbStatusRead (dt) (s : State) : exec (.mbStatusRead dt) s = execMbStatusRead dt s := rfl
@[simp] theorem exec_icClaim (dt t value) (s : State) : exec (.icClaim dt t value) s = execIcClaim dt t value s := rfl
@[simp] theorem exec_icComplete (dt t value) (s : State) : exec (.icComplete dt t value) s = execIcComplete dt t value s := rfl
@[simp] theorem exec_icPendClear (dt ix value) (s : State) : exec (.icPendClear dt ix value) s = execIcPendClear dt ix value s := rfl
@[simp] theorem exec_icVanishedRead (dt t) (s : State) : exec (.icVanishedRead dt t) s = execIcVanishedRead dt t s := rfl
@[simp] theorem exec_icFaultClear (dt value) (s : State) : exec (.icFaultClear dt value) s = execIcFaultClear dt value s := rfl
@[simp] theorem exec_icModeWrite (dt value) (s : State) : exec (.icModeWrite dt value) s = execIcModeWrite dt value s := rfl
@[simp] theorem exec_coalesceTimeout (dt src) (s : State) : exec (.coalesceTimeout dt src) s = execCoalesceTimeout dt src s := rfl
@[simp] theorem exec_crcData (dt ch data) (s : State) : exec (.crcData dt ch data) s = execCrcData dt ch data s := rfl
@[simp] theorem exec_crcInit (dt ch value) (s : State) : exec (.crcInit dt ch value) s = execCrcInit dt ch value s := rfl
@[simp] theorem exec_crcCfgWrite (dt ch value) (s : State) : exec (.crcCfgWrite dt ch value) s = execCrcCfgWrite dt ch value s := rfl
@[simp] theorem exec_crcStatRead (dt ch) (s : State) : exec (.crcStatRead dt ch) s = execCrcStatRead dt ch s := rfl
@[simp] theorem exec_dramReadError (dt chan rank offset device user) (s : State) : exec (.dramReadError dt chan rank offset device user) s = execDramReadError dt chan rank offset device user s := rfl
@[simp] theorem exec_dramReread (dt chan decodes) (s : State) : exec (.dramReread dt chan decodes) s = execDramReread dt chan decodes s := rfl
@[simp] theorem exec_dramAlert (dt chan rank writeCrc) (s : State) : exec (.dramAlert dt chan rank writeCrc) s = execDramAlert dt chan rank writeCrc s := rfl
@[simp] theorem exec_migrationStart (dt chan) (s : State) : exec (.migrationStart dt chan) s = execMigrationStart dt chan s := rfl
@[simp] theorem exec_rankMigrated (dt chan) (s : State) : exec (.rankMigrated dt chan) s = execRankMigrated dt chan s := rfl
@[simp] theorem exec_dramTempPoll (dt chan reports) (s : State) : exec (.dramTempPoll dt chan reports) s = execDramTempPoll dt chan reports s := rfl
@[simp] theorem exec_dramBandFall (dt chan) (s : State) : exec (.dramBandFall dt chan) s = execDramBandFall dt chan s := rfl
@[simp] theorem exec_dramRefresh (dt chan) (s : State) : exec (.dramRefresh dt chan) s = execDramRefresh dt chan s := rfl
@[simp] theorem exec_zqCalibration (dt chan) (s : State) : exec (.zqCalibration dt chan) s = execZqCalibration dt chan s := rfl
@[simp] theorem exec_dqsTracking (dt chan) (s : State) : exec (.dqsTracking dt chan) s = execDqsTracking dt chan s := rfl
@[simp] theorem exec_activationTableClear (dt chan) (s : State) : exec (.activationTableClear dt chan) s = execActivationTableClear dt chan s := rfl
@[simp] theorem exec_hammerRefresh (dt chan bank row) (s : State) : exec (.hammerRefresh dt chan bank row) s = execHammerRefresh dt chan bank row s := rfl
@[simp] theorem exec_patrolScrub (dt chan corrected) (s : State) : exec (.patrolScrub dt chan corrected) s = execPatrolScrub dt chan corrected s := rfl
@[simp] theorem exec_train (dt route data) (s : State) : exec (.train dt route data) s = execTrain dt route data s := rfl
@[simp] theorem exec_scrub (dt route data) (s : State) : exec (.scrub dt route data) s = execScrub dt route data s := rfl
@[simp] theorem exec_migrate (dt route data) (s : State) : exec (.migrate dt route data) s = execMigrate dt route data s := rfl
@[simp] theorem exec_clearExclude (dt route data) (s : State) : exec (.clearExclude dt route data) s = execClearExclude dt route data s := rfl
@[simp] theorem exec_dieSensorSample (dt readings) (s : State) : exec (.dieSensorSample dt readings) s = execDieSensorSample dt readings s := rfl
@[simp] theorem exec_dieSensorSilent (dt d) (s : State) : exec (.dieSensorSilent dt d) s = execDieSensorSilent dt d s := rfl
@[simp] theorem exec_sensorStale (dt id) (s : State) : exec (.sensorStale dt id) s = execSensorStale dt id s := rfl
@[simp] theorem exec_calAnalogue (dt route data) (s : State) : exec (.calAnalogue dt route data) s = execCalAnalogue dt route data s := rfl
@[simp] theorem exec_calPhoto (dt route data) (s : State) : exec (.calPhoto dt route data) s = execCalPhoto dt route data s := rfl
@[simp] theorem exec_calPhotoTimeout (dt) (s : State) : exec (.calPhotoTimeout dt) s = execCalPhotoTimeout dt s := rfl
@[simp] theorem exec_commit (dt route data) (s : State) : exec (.commit dt route data) s = execCommit dt route data s := rfl
@[simp] theorem exec_commitClear (dt route data) (s : State) : exec (.commitClear dt route data) s = execCommitClear dt route data s := rfl
@[simp] theorem exec_pfailAssert (dt) (s : State) : exec (.pfailAssert dt) s = execPfailAssert dt s := rfl
@[simp] theorem exec_pfailRelease (dt) (s : State) : exec (.pfailRelease dt) s = execPfailRelease dt s := rfl
@[simp] theorem exec_porst (dt straps) (s : State) : exec (.porst dt straps) s = execPorst dt straps s := rfl
@[simp] theorem exec_resetPin (dt) (s : State) : exec (.resetPin dt) s = execResetPin dt s := rfl
@[simp] theorem exec_resetCmd (dt route data) (s : State) : exec (.resetCmd dt route data) s = execResetCmd dt route data s := rfl
@[simp] theorem exec_resetTakeEffect (dt) (s : State) : exec (.resetTakeEffect dt) s = execResetTakeEffect dt s := rfl
@[simp] theorem exec_watchdogExpiry (dt) (s : State) : exec (.watchdogExpiry dt) s = execWatchdogExpiry dt s := rfl
@[simp] theorem exec_lockstepMismatch (dt) (s : State) : exec (.lockstepMismatch dt) s = execLockstepMismatch dt s := rfl
@[simp] theorem exec_fatalWarmReset (dt) (s : State) : exec (.fatalWarmReset dt) s = execFatalWarmReset dt s := rfl
@[simp] theorem exec_supplyFault (dt rail mv) (s : State) : exec (.supplyFault dt rail mv) s = execSupplyFault dt rail mv s := rfl
@[simp] theorem exec_clockFault (dt which) (s : State) : exec (.clockFault dt which) s = execClockFault dt which s := rfl
@[simp] theorem exec_recoveryImageReceived (dt image crc) (s : State) : exec (.recoveryImageReceived dt image crc) s = execRecoveryImageReceived dt image crc s := rfl
@[simp] theorem exec_bootComplete (dt trained) (s : State) : exec (.bootComplete dt trained) s = execBootComplete dt trained s := rfl
@[simp] theorem exec_modeRequestIdle (dt route data) (s : State) : exec (.modeRequestIdle dt route data) s = execModeRequestIdle dt route data s := rfl
@[simp] theorem exec_modeRequestService (dt route data) (s : State) : exec (.modeRequestService dt route data) s = execModeRequestService dt route data s := rfl
@[simp] theorem exec_modeRequestReady (dt route data) (s : State) : exec (.modeRequestReady dt route data) s = execModeRequestReady dt route data s := rfl
@[simp] theorem exec_modeRequestPrint (dt route data) (s : State) : exec (.modeRequestPrint dt route data) s = execModeRequestPrint dt route data s := rfl
@[simp] theorem exec_printGalleriesWrite (dt route data) (s : State) : exec (.printGalleriesWrite dt route data) s = execPrintGalleriesWrite dt route data s := rfl
@[simp] theorem exec_headPowerOff (dt) (s : State) : exec (.headPowerOff dt) s = execHeadPowerOff dt s := rfl
@[simp] theorem exec_safeRequest (dt route data) (s : State) : exec (.safeRequest dt route data) s = execSafeRequest dt route data s := rfl
@[simp] theorem exec_safeClear (dt route data) (s : State) : exec (.safeClear dt route data) s = execSafeClear dt route data s := rfl
@[simp] theorem exec_fwUpdate (dt route data) (s : State) : exec (.fwUpdate dt route data) s = execFwUpdate dt route data s := rfl
@[simp] theorem exec_fwConfirm (dt route data) (s : State) : exec (.fwConfirm dt route data) s = execFwConfirm dt route data s := rfl
@[simp] theorem exec_shutdown (dt route data) (s : State) : exec (.shutdown dt route data) s = execShutdown dt route data s := rfl
@[simp] theorem exec_selftest (dt route data) (s : State) : exec (.selftest dt route data) s = execSelftest dt route data s := rfl
@[simp] theorem exec_selftestEnter (dt) (s : State) : exec (.selftestEnter dt) s = execSelftestEnter dt s := rfl
@[simp] theorem exec_selftestPhaseEnd (dt results) (s : State) : exec (.selftestPhaseEnd dt results) s = execSelftestPhaseEnd dt results s := rfl
@[simp] theorem exec_extest (dt) (s : State) : exec (.extest dt) s = execExtest dt s := rfl
@[simp] theorem exec_idcode (dt) (s : State) : exec (.idcode dt) s = execIdcode dt s := rfl
@[simp] theorem exec_samplePreload (dt shiftIn) (s : State) : exec (.samplePreload dt shiftIn) s = execSamplePreload dt shiftIn s := rfl
@[simp] theorem exec_highz (dt) (s : State) : exec (.highz dt) s = execHighz dt s := rfl
@[simp] theorem exec_clamp (dt) (s : State) : exec (.clamp dt) s = execClamp dt s := rfl
@[simp] theorem exec_extestPulse (dt) (s : State) : exec (.extestPulse dt) s = execExtestPulse dt s := rfl
@[simp] theorem exec_extestTrain (dt) (s : State) : exec (.extestTrain dt) s = execExtestTrain dt s := rfl
@[simp] theorem exec_bypass (dt opcode) (s : State) : exec (.bypass dt opcode) s = execBypass dt opcode s := rfl
@[simp] theorem exec_tapReset (dt porstRise) (s : State) : exec (.tapReset dt porstRise) s = execTapReset dt porstRise s := rfl
@[simp] theorem exec_pcieCompletionUnsuccessful (dt ring) (s : State) : exec (.pcieCompletionUnsuccessful dt ring) s = execPcieCompletionUnsuccessful dt ring s := rfl
@[simp] theorem exec_configWrite (dt bme power other) (s : State) : exec (.configWrite dt bme power other) s = execConfigWrite dt bme power other s := rfl
@[simp] theorem exec_supplyRestored (dt rail mv) (s : State) : exec (.supplyRestored dt rail mv) s = execSupplyRestored dt rail mv s := rfl
@[simp] theorem exec_clockRestored (dt which) (s : State) : exec (.clockRestored dt which) s = execClockRestored dt which s := rfl
@[simp] theorem exec_prbsLock (dt check) (s : State) : exec (.prbsLock dt check) s = execPrbsLock dt check s := rfl
@[simp] theorem exec_pairLinkTimeSyncReceived (dt t1 delay epoch) (s : State) : exec (.pairLinkTimeSyncReceived dt t1 delay epoch) s = execPairLinkTimeSyncReceived dt t1 delay epoch s := rfl
@[simp] theorem exec_takeoverTickTimeout (dt) (s : State) : exec (.takeoverTickTimeout dt) s = execTakeoverTickTimeout dt s := rfl
@[simp] theorem exec_ptpAnnounceSend (dt) (s : State) : exec (.ptpAnnounceSend dt) s = execPtpAnnounceSend dt s := rfl
@[simp] theorem exec_announceReceiptTimeout (dt) (s : State) : exec (.announceReceiptTimeout dt) s = execAnnounceReceiptTimeout dt s := rfl
@[simp] theorem exec_hostHeartbeatTick (dt) (s : State) : exec (.hostHeartbeatTick dt) s = execHostHeartbeatTick dt s := rfl
@[simp] theorem exec_csiPacketDiscarded (dt port why) (s : State) : exec (.csiPacketDiscarded dt port why) s = execCsiPacketDiscarded dt port why s := rfl
@[simp] theorem exec_malformedMessage (dt src msg) (s : State) : exec (.malformedMessage dt src msg) s = execMalformedMessage dt src msg s := rfl

end Sys2Proof.Machine
end

