-- ==== Sys2Proof/Tests/Slice0.lean ====
section
/-! SUPPORT. The model's own tests: ill-formed commands refused, witnesses that the statements' hypotheses can be met, and
single steps against values worked out from the manual. -/

namespace Sys2Proof.Tests

open Sys2Proof.Machine

/-! Ill-formed commands are refused by the check. -/

theorem test_wf_dieSensorSample : (Instr.dieSensorSample 0 []).wf = false := by decide
theorem test_wf_bootComplete : (Instr.bootComplete 0 []).wf = false := by decide
theorem test_wf_selftestPhaseEnd : (Instr.selftestPhaseEnd 0 []).wf = false := by decide
theorem test_wf_csiLongPacket : (Instr.csiLongPacket 0 0 ⟨0, false⟩ 0 [] true).wf = false := by decide
theorem test_wf_reserveBarRead : (Instr.reserveBarRead 0 0 0).wf = false := by decide
theorem test_wf_reserveBarWrite : (Instr.reserveBarWrite 0 0 []).wf = false := by decide
theorem test_wf_registerWrite : (Instr.registerWrite 0 0 [1]).wf = false := by decide
theorem test_wf_dramReadError : (Instr.dramReadError 0 0 0 1 none .bulk).wf = false := by decide
theorem test_wf_ethernetFrameFiltered : (Instr.ethernetFrameFiltered 0 0 [] true).wf = false := by decide
theorem test_wf_lampLatch : (Instr.lampLatch 0 0 (List.replicate 33 [])).wf = false := by decide
theorem test_wf_containerStart : (Instr.containerStart 0 (.ring 0) [] []).wf = false := by decide
theorem test_wf_takeoverNotice : (Instr.takeoverNoticeReceived 0 0).wf = false := by decide

/-! States and helpers of the witnesses -/

/-- A block out of BOOT that serves the Catalogue and the host. -/
def up : State :=
  { State.reset with
    sys := { mode := .idle }
    host := { ready := true, bme := true }
    res := { capacity := 17179869184 }
    clk := { core := 12000000000, counter := 5000000000 * 562949953421312 } }

/-- The Catalogue's row of an entry. -/
def rowAt (idx sub : Nat) : Row :=
  match (findEntry idx sub).2 with
  | some r => r
  | none => ⟨0, "", .u 1, .ro, 0, .all, [], false, false⟩

/-- A service of the mailbox reaches its entry. -/
def okReach (svc idx sub : Nat) (bs : Bytes) (s : State) : Bool :=
  (advance 0 s).routeOpen .mailbox && decide (s.cat.waiting = [] ∧ s.cat.mirror = none ∧ s.cat.reg = none) &&
    !isVendor idx && decide (findEntry idx sub = (0, some (rowAt idx sub))) &&
    (s.arrived .mailbox 0).routeCode ⟨.direct 0, svc, idx, sub, bs⟩ == 0

/-- It is a WRITE that is accepted. -/
def okWrite (idx sub : Nat) (bs : Bytes) (s : State) : Bool :=
  okReach 2 idx sub bs s && (s.arrived .mailbox 0).writeCode idx (rowAt idx sub) bs true == 0 &&
    (!(rowAt idx sub).mirrored || !(s.arrived .mailbox 0).mirrors)

theorem reaches_of {svc idx sub : Nat} {bs : Bytes} {s : State} (h : okReach svc idx sub bs s = true) :
    Reaches .mailbox svc idx sub bs (rowAt idx sub) 0 s := by
  simp only [okReach, Bool.and_eq_true, Bool.not_eq_true', decide_eq_true_eq, beq_iff_eq] at h
  exact ⟨h.1.1.1.1, h.1.1.1.2, ⟨h.1.1.2, h.1.2⟩, h.2⟩

theorem accepts_of {idx sub : Nat} {bs : Bytes} {s : State} (h : okWrite idx sub bs s = true) :
    Accepts .mailbox idx sub bs (rowAt idx sub) 0 s := by
  simp only [okWrite, Bool.and_eq_true, Bool.or_eq_true, Bool.not_eq_true', beq_iff_eq] at h
  exact ⟨reaches_of h.1.1, h.1.2, h.2⟩

/-- In another mode. -/
def setMode (m : Mode) (s : State) : State := { s with sys := { s.sys with mode := m } }

/-- One of a pair, in a role. -/
def setRole (r : Role) (s : State) : State := { s with pair := { s.pair with member := true, role := r } }

/-- Lane l in RUN. -/
def laneRun (l : Nat) (s : State) : State :=
  setLane l { s.lane l with train := { (s.lane l).train with state := .run } } s

/-- Gallery 0's nozzle tables changed. -/
def noz (f : Nozzle → Nozzle) (s : State) : State := setGal 0 { s.gal 0 with noz := f (s.gal 0).noz } s

/-- The Reserve holds a segment. -/
def withSeg (id type : Nat) (st : SegState) (direct : Bool) (bs : Bytes) (s : State) : State :=
  { s with res := { s.res with
      segs := s.res.segs ++ [⟨id, type, bs.length, crc32c bs, 65536 * id, st, direct, none, none⟩]
      mem := Memory.write s.res.mem (65536 * id) bs } }

/-- Slot 0 holds an operation of a kind, its handle 256. -/
def withOp (idx sub : Nat) (st : LState) (s : State) : State :=
  setSlot 0 { state := st, handle := 256, kindIndex := idx, kindSub := sub } s

/-- Gallery 0 alone, fit for READY and PRINT. -/
def fit : State := noz (fun n => { n with thresholdBits := up.bitsOf 0 }) (setVal 0x1100 4 1 (setVal 0x1100 3 1 up))

/-- A plan without planes (R113). -/
def planBytes : Bytes :=
  le 4 0x50484241 ++ [1, 0] ++ le 2 1 ++ le 4 0 ++ le 4 64 ++ le 2 1 ++ le 2 0 ++ le 4 64 ++ le 4 0 ++ le 4 0 ++ zeros 32

/-- A batch of one caption tile of 8 by 8 (R112). -/
def capBatch : Bytes := le 4 0x42434241 ++ [1, 0, 0, 0] ++ le 2 8 ++ le 2 8 ++ le 4 1 ++ zeros 16 ++ zeros 64

/-- A transfer of the package entry is open, with nothing moved yet. -/
def open5 (total crc : Nat) : State :=
  putXfer 0 ⟨true, 0x1120, 1, total, crc, [], up.clk.core⟩ up

/-- A read of 32 bytes of REGIONS is open. -/
def open6 : State := putXfer 0 ⟨false, 0x7210, 1, 32, 0, zeros 32, up.clk.core⟩ up

/-- A write of one REGIONS record is open. -/
def openR : State :=
  putXfer 0 ⟨true, 0x7210, 1, 32, crc32c (1 :: zeros 7 ++ [1, 0, 1, 0] ++ zeros 20), [], up.clk.core⟩ up

/-- Active in READY, the peer STANDBY; of the populated lanes more are down than LANES_DOWN_LIMIT allows. -/
def fewLanes : State :=
  setVal 0x1200 7 0 (setVal 0x4000 1 1 (setMode .ready { up with pair := { up.pair with member := true, role := .active, peerRole := 4 } }))
/-! Witnesses: states and operands that meet a statement's hypotheses, clause by clause -/

/-- A waiting command, and none. -/
theorem witness_StepRunsFront :
    ({ up with pending := [.nonceExpiry 0 0] } : State).pending = [.nonceExpiry 0 0] ∧ up.pending = [] := ⟨rfl, rfl⟩

/-- A guarded state, its memory in canonical form, with a command at the front that answers a next state. -/
theorem witness_StepKeepsGuard :
    ({ up with sys := { up.sys with safeN := up.safeNow, lampBlank := up.blankNow }, pending := [.nonceExpiry 0 0] } : State).Safe ∧
    ∃ t, step { up with sys := { up.sys with safeN := up.safeNow, lampBlank := up.blankNow }, pending := [.nonceExpiry 0 0] } = .next t :=
  ⟨⟨⟨by decide +kernel, by decide +kernel, by decide +kernel, by decide +kernel⟩, by decide +kernel⟩, ⟨_, rfl⟩⟩

/-- An active unit in READY with two lanes down and a standby gives up control; `up` does not. -/
theorem witness_SettleFrame :
    fewLanes.tooFewLanes = true ∧ up.tooFewLanes = false := by decide +kernel

/-- A state in which nothing follows by itself. -/
theorem witness_SettleQuiet : up.Quiet :=
  ⟨by decide +kernel, rfl, by decide +kernel, by decide +kernel, by decide +kernel, by decide +kernel, by decide +kernel, by decide +kernel, by decide +kernel, by decide +kernel⟩

/-- MODE, read-only, and MODE_REQUEST reach their entries (R36, R44). -/
theorem witness_ReadAnswers :
    Reaches .mailbox 1 0x1100 1 [] (rowAt 0x1100 1) 0 (up) ∧
    ((rowAt 0x1100 1).acc ≠ .wo ∧ (rowAt 0x1100 1).ty.isDomain = false ∧ (among 0x1100 0x5800 32 && 1 == 5) = false ∧ readsFree 0x1100 1 = false) :=
  ⟨reaches_of (by decide +kernel), by decide +kernel⟩

/-- A read of a write-only entry and of a DOMAIN, a write of a read-only entry and of a DOMAIN; an index and a subindex that do not exist. -/
theorem witness_Refusals :
    Reaches .mailbox 1 0x1400 1 [] (rowAt 0x1400 1) 0 (up) ∧
    ((rowAt 0x1400 1).acc = .wo) ∧
    Reaches .mailbox 1 0x7210 1 [] (rowAt 0x7210 1) 0 (up) ∧
    ((rowAt 0x7210 1).acc ≠ .wo ∧ (rowAt 0x7210 1).ty.isDomain = true) ∧
    Reaches .mailbox 2 0x1100 1 [0] (rowAt 0x1100 1) 0 (up) ∧
    ((rowAt 0x1100 1).acc = .ro) ∧
    Reaches .mailbox 2 0x1120 1 [0] (rowAt 0x1120 1) 0 (up) ∧
    ((rowAt 0x1120 1).acc ≠ .ro ∧ (rowAt 0x1120 1).ty.isDomain = true) ∧
    (findGroup 0x0001 groups = none ∧ isVendor 0x0001 = false) ∧
    ((match findGroup 0x1100 groups with | some g => (findRow 0xFF g.1.rows).isNone | none => false) = true ∧ (advance 0 up).routeOpen .mailbox = true ∧ up.cat.waiting = [] ∧ up.cat.mirror = none ∧ up.cat.reg = none ∧ isVendor 0x1100 = false) :=
  ⟨reaches_of (by decide +kernel), by decide +kernel, reaches_of (by decide +kernel), by decide +kernel, reaches_of (by decide +kernel), by decide +kernel, reaches_of (by decide +kernel), by decide +kernel, by decide +kernel, by decide +kernel⟩

/-- PRINT_GALLERIES, written. -/
theorem witness_WriteApplies :
    Accepts .mailbox 0x1100 4 [1] (rowAt 0x1100 4) 0 (up) ∧
    ((rowAt 0x1100 4).ty.isDomain = false ∧ (rowAt 0x1100 4).sub = 4 ∧ opRes 0x1100 4 (ofLe [1]) = none ∧ (rowAt 0x1100 4).acc ≠ .wo) :=
  ⟨accepts_of (by decide +kernel), by decide +kernel⟩

/-- A read of the PARAMETERS a block at a time, a write of a package, its segments, a cancel, an idle transfer; a segment that completes its transfer, with the right check value and with a wrong one. -/
theorem witness_BlockTransfers :
    Reaches .mailbox 3 0x7210 1 [] (rowAt 0x7210 1) 0 (setDom 0x7210 1 (zeros 32) up) ∧
    ((rowAt 0x7210 1).acc ≠ .wo ∧ (rowAt 0x7210 1).ty.isDomain = true ∧ ((setDom 0x7210 1 (zeros 32) up).arrived .mailbox 0).readDomain 0x7210 1 ≠ []) ∧
    Reaches .mailbox 4 0x1120 1 (le 4 512 ++ zeros 4) (rowAt 0x1120 1) 0 (up) ∧
    ((rowAt 0x1120 1).acc ≠ .ro ∧ lengthAllowed (rowAt 0x1120 1) (leAt (le 4 512 ++ zeros 4) 0 4) = true ∧ (rowAt 0x1120 1).modes = 0 ∧ (up.arrived .mailbox 0).resBusy (resOfEntry 0x1120 1) = false ∧ (up.arrived .mailbox 0).xfer 0 = none ∧ (up.arrived .mailbox 0).entryBusy 0x1120 1 = false ∧ (up.arrived .mailbox 0).inControl = true) ∧
    Reaches .mailbox 5 0x1120 1 (zeros 4 ++ [7]) (rowAt 0x1120 1) 0 (open5 2 0) ∧
    (((open5 2 0).arrived .mailbox 0).xfer 0 = some ⟨true, 0x1120, 1, 2, 0, [], up.clk.core⟩) ∧
    Reaches .mailbox 6 0x7210 1 (zeros 4 ++ [1, 0]) (rowAt 0x7210 1) 0 (open6) ∧
    ((open6.arrived .mailbox 0).xfer 0 = some ⟨false, 0x7210, 1, 32, 0, zeros 32, up.clk.core⟩ ∧ 1 ≤ segmentLimit 0 ∧ (rowAt 0x7210 1).acc ≠ .wo) ∧
    Reaches .mailbox 7 0x1120 1 [] (rowAt 0x1120 1) 0 (up) ∧
    ((advance 1200000000 (open5 2 0)).xfer 0 = some ⟨true, 0x1120, 1, 2, 0, [], up.clk.core⟩ ∧ up.clk.core + sCk 1 ≤ (advance 1200000000 (open5 2 0)).clk.core) ∧
    Reaches .mailbox 5 0x7210 1 (zeros 4 ++ (1 :: zeros 7 ++ [1, 0, 1, 0] ++ zeros 20)) (rowAt 0x7210 1) 0 (openR) ∧
    ((openR.arrived .mailbox 0).xfer 0 = some ⟨true, 0x7210, 1, 32, crc32c (1 :: zeros 7 ++ [1, 0, 1, 0] ++ zeros 20), [], up.clk.core⟩ ∧ (rowAt 0x7210 1).sub = 1 ∧ (rowAt 0x7210 1).ty.isDomain = true ∧ (rowAt 0x7210 1).acc ≠ .ro ∧ (endXfer 0 (openR.arrived .mailbox 0)).contentCode 0x7210 (rowAt 0x7210 1) (1 :: zeros 7 ++ [1, 0, 1, 0] ++ zeros 20) = 0 ∧ (endXfer 0 (openR.arrived .mailbox 0)).mirrors = false) ∧
    (crc32c [7] ≠ 0) :=
  ⟨reaches_of (by decide +kernel), by decide +kernel, reaches_of (by decide +kernel), by decide +kernel, reaches_of (by decide +kernel), by decide +kernel, reaches_of (by decide +kernel), by decide +kernel, reaches_of (by decide +kernel), by decide +kernel, reaches_of (by decide +kernel), by decide +kernel, by decide +kernel⟩

/-! Long operations and commands -/

/-- Every start is accepted somewhere, but for FW_UPDATE: whether a package is authentic rests on the key, which the model leaves uninterpreted. -/
theorem witness_OperationsRun :
    Accepts .mailbox 0x1700 1 [1] (rowAt 0x1700 1) 0 (up) ∧
    Accepts .mailbox 0x1700 1 [2] (rowAt 0x1700 1) 0 (up) ∧
    Accepts .mailbox 0x1840 2 [1] (rowAt 0x1840 2) 0 (setMode .service up) ∧
    Accepts .mailbox 0x1850 5 [0] (rowAt 0x1850 5) 0 (setMode .service (setDom 0x7210 1 (1 :: zeros 31 ++ 1 :: zeros 31) (setVal 0x1850 1 (2^48*(1+2^16+2^32)) (setVal 0x1850 2 2 (setVal 0x7000 1 1 up))))) ∧
    Accepts .mailbox 0x6000 8 [255, 255, 255, 255] (rowAt 0x6000 8) 0 (up) ∧
    Accepts .mailbox 0x6800 4 ([1, 0, 0, 0] ++ le 4 5 ++ le 8 0 ++ le 4 64 ++ le 4 4096) (rowAt 0x6800 4) 0 (withSeg 5 7 .committed false (zeros 64) up) ∧
    Accepts .mailbox 0x7C00 1 [1] (rowAt 0x7C00 1) 0 (setMode .service up) ∧
    Accepts .mailbox 0x9000 9 [1] (rowAt 0x9000 9) 0 (up) ∧
    Accepts .mailbox 0x9000 10 [1] (rowAt 0x9000 10) 0 (up) ∧
    Accepts .mailbox 0x6210 8 [5, 0, 0, 0] (rowAt 0x6210 8) 0 (withSeg 5 3 .committed false capBatch (setVal 0x6210 1 65536 (setVal 0x6210 2 8 (setVal 0x6210 3 8 (setVal 0x6200 1 1 up))))) ∧
    Accepts .mailbox 0x1100 13 [1] (rowAt 0x1100 13) 0 (up) ∧
    Accepts .mailbox 0x1200 10 [1] (rowAt 0x1200 10) 0 ({ setRole .active up with pair := { (setRole .active up).pair with peerRole := 4 } }) ∧
    Accepts .mailbox 0x1200 11 [1] (rowAt 0x1200 11) 0 (setRole .syncing up) ∧
    Accepts .mailbox 0x6000 11 [5, 0, 0, 0] (rowAt 0x6000 11) 0 (withSeg 5 7 .opened true (zeros 64) up) ∧
    Accepts .mailbox 0x9000 11 [0] (rowAt 0x9000 11) 0 (setRank 0 1 { state := .spare } (setRank 0 0 { state := .inService } up)) ∧
    Accepts .mailbox 0x3021 1 [0, 0, 0, 0] (rowAt 0x3021 1) 0 (up) ∧
    Accepts .mailbox 0x4000 0x1C [0, 0, 0, 0] (rowAt 0x4000 0x1C) 0 (setMode .service (laneRun 0 up)) ∧
    Accepts .mailbox 0x5000 10 [1] (rowAt 0x5000 10) 0 (up) ∧
    Accepts .mailbox 0x7110 5 ([1, 0, 0, 0, 1] ++ zeros 19) (rowAt 0x7110 5) 0 (up) ∧
    ((up.arrived .mailbox 0).freeSlot = some 0) :=
  ⟨accepts_of (by decide +kernel), accepts_of (by decide +kernel), accepts_of (by decide +kernel), accepts_of (by decide +kernel), accepts_of (by decide +kernel), accepts_of (by decide +kernel), accepts_of (by decide +kernel), accepts_of (by decide +kernel), accepts_of (by decide +kernel), accepts_of (by decide +kernel), accepts_of (by decide +kernel), accepts_of (by decide +kernel), accepts_of (by decide +kernel), accepts_of (by decide +kernel), accepts_of (by decide +kernel), accepts_of (by decide +kernel), accepts_of (by decide +kernel), accepts_of (by decide +kernel), accepts_of (by decide +kernel), by decide +kernel⟩

/-- Ring 0 has slots. -/
theorem witness_EndRaisesEvent :
    (up.ringCap 0 ≠ 0) :=
  by decide +kernel

/-- ABORT of a running, a queued and a finished operation, RELEASE; an aborting, a running and a queued operation met by a slice. -/
theorem witness_SlotCommands :
    Accepts .mailbox 0x1310 10 [0, 1, 0, 0] (rowAt 0x1310 10) 0 (withOp 0x1700 1 .running up) ∧
    Accepts .mailbox 0x1310 10 [0, 1, 0, 0] (rowAt 0x1310 10) 0 (withOp 0x1700 1 .queued up) ∧
    Accepts .mailbox 0x1310 10 [0, 1, 0, 0] (rowAt 0x1310 10) 0 (withOp 0x1700 1 .done up) ∧
    Accepts .mailbox 0x1310 11 [0, 1, 0, 0] (rowAt 0x1310 11) 0 (withOp 0x1700 1 .done up) ∧
    (((withOp 0x1700 1 .running up).stored .mailbox 0x1310 [0, 1, 0, 0] (rowAt 0x1310 10) 0).slot 0 = { state := .running, handle := 256, kindIndex := 0x1700, kindSub := 1 }) ∧
    (((advance 0 (withOp 0x1700 1 .aborting up)).slot 0).state = .aborting) ∧
    ((setSlot 0 { state := .running, kindIndex := 0x6000, kindSub := 8, sliced := true } up).slot 0 = { state := .running, kindIndex := 0x6000, kindSub := 8, sliced := true }) ∧
    (let s := setSlot 0 { state := .running, kindIndex := 0x9000, kindSub := 0x0A, sliced := true } up
     (s.slot 0).state = .running ∧ s.therm.fDie ≠ 0 ∧ ({ s with therm := { s.therm with fDie := 0 } } : State).therm.fDie = 0) ∧
    (((withOp 0x1700 1 .queued up).slot 0).state = .queued ∧ ∀ j, j < 16 → j ≠ 0 → ((withOp 0x1700 1 .queued up).slot j).resources &&& ((withOp 0x1700 1 .queued up).slot 0).resources = 0) :=
  ⟨accepts_of (by decide +kernel), accepts_of (by decide +kernel), accepts_of (by decide +kernel), accepts_of (by decide +kernel), by decide +kernel, by decide +kernel, by decide +kernel, by decide +kernel, by decide +kernel⟩

/-- Each command is accepted in a state of its clause. -/
theorem witness_ModeAndSafeCommands :
    Accepts .mailbox 0x1100 2 [1] (rowAt 0x1100 2) 0 (setMode .service up) ∧
    Accepts .mailbox 0x1100 2 [2] (rowAt 0x1100 2) 0 (up) ∧
    Accepts .mailbox 0x1100 2 [3] (rowAt 0x1100 2) 0 (fit) ∧
    Accepts .mailbox 0x1100 2 [4] (rowAt 0x1100 2) 0 (setMode .ready fit) ∧
    Accepts .mailbox 0x1100 4 [1] (rowAt 0x1100 4) 0 (setMode .print fit) ∧
    (fit.sys.printing ≠ ofLe [1]) ∧
    Accepts .mailbox 0x1100 10 [1] (rowAt 0x1100 10) 0 (up) ∧
    (up.sys.mode ≠ .boot ∧ up.sys.mode ≠ .test ∧ up.pair.role ≠ .standby ∧ bitOf up.sys.causes 0 = false ∧ up.sys.latch = false) ∧
    Accepts .mailbox 0x1100 9 [1] (rowAt 0x1100 9) 0 ({ up with sys := { up.sys with latch := true } }) ∧
    Accepts .mailbox 0x1100 11 [1] (rowAt 0x1100 11) 0 (up) ∧
    Accepts .mailbox 0x1800 1 [1, 0] (rowAt 0x1800 1) 0 (up) ∧
    Accepts .mailbox 0x1120 3 [1] (rowAt 0x1120 3) 0 ({ up with sys := { up.sys with bootControl := { trial := true } } }) :=
  ⟨accepts_of (by decide +kernel), accepts_of (by decide +kernel), accepts_of (by decide +kernel), accepts_of (by decide +kernel), accepts_of (by decide +kernel), by decide +kernel, accepts_of (by decide +kernel), by decide +kernel, accepts_of (by decide +kernel), accepts_of (by decide +kernel), accepts_of (by decide +kernel), accepts_of (by decide +kernel)⟩

/-- Each command is accepted in a state of its clause; OPEN_DIRECT and THRESHOLD_LOAD have theorems of their own. -/
theorem witness_EntryCommands :
    Accepts .mailbox 0x6100 1 (le 4 5 ++ le 4 1000 ++ zeros 8) (rowAt 0x6100 1) 0 (setMode .ready (withSeg 5 4 .committed false planBytes up)) ∧
    Accepts .mailbox 0x6100 2 [5, 0, 0, 0] (rowAt 0x6100 2) 0 ({ up with plans := { armed := some ⟨5, 1000, 0, planBytes, [], 0⟩ } }) ∧
    Accepts .mailbox 0x6210 9 [0, 0, 0, 0] (rowAt 0x6210 9) 0 (up) ∧
    Accepts .mailbox 0x3021 3 (zeros 12) (rowAt 0x3021 3) 0 (noz (fun n => { n with spareState := .ready }) up) ∧
    Accepts .mailbox 0x3021 4 [0, 0, 1, 0] (rowAt 0x3021 4) 0 (noz (fun n => { n with spareState := .ready }) up) ∧
    Accepts .mailbox 0x3021 5 [0, 0, 1, 0] (rowAt 0x3021 5) 0 (noz (fun n => { n with spareState := .armed, swap := some ⟨65536, 0, false⟩ }) up) ∧
    Accepts .mailbox 0x2100 12 [0, 0, 0, 0] (rowAt 0x2100 12) 0 (up) ∧
    Accepts .mailbox 0x2210 2 [1] (rowAt 0x2210 2) 0 (setGate 0 { p := true } up) ∧
    Accepts .mailbox 0x7000 0x14 [1] (rowAt 0x7000 0x14) 0 (setDom 0x7000 0x13 [0, 0, 0, 0] (setVal 0x7110 1 1 (setVal 0x7000 1 1 up))) ∧
    Accepts .mailbox 0x7000 0x1B [1] (rowAt 0x7000 0x1B) 0 (up) ∧
    Accepts .mailbox 0x1200 12 [1] (rowAt 0x1200 12) 0 (setRole .syncing up) ∧
    Accepts .mailbox 0x1400 8 [255, 255, 255, 255] (rowAt 0x1400 8) 0 (up) ∧
    Accepts .mailbox 0x1400 1 (List.replicate 32 1) (rowAt 0x1400 1) 0 (up) ∧
    Accepts .mailbox 0x1B00 6 (le 12 1) (rowAt 0x1B00 6) 0 (up) ∧
    (ofLe (le 12 1) ≠ 0) ∧
    Accepts .mailbox 0x9000 8 [1] (rowAt 0x9000 8) 0 (up) :=
  ⟨accepts_of (by decide +kernel), accepts_of (by decide +kernel), accepts_of (by decide +kernel), accepts_of (by decide +kernel), accepts_of (by decide +kernel), accepts_of (by decide +kernel), accepts_of (by decide +kernel), accepts_of (by decide +kernel), accepts_of (by decide +kernel), accepts_of (by decide +kernel), accepts_of (by decide +kernel), accepts_of (by decide +kernel), accepts_of (by decide +kernel), accepts_of (by decide +kernel), by decide +kernel, accepts_of (by decide +kernel)⟩

/-- REG_DATA of a lane in RUN, read and written; MDIO_REQUEST, a read and a write. -/
theorem witness_RelayedCommands :
    Reaches .mailbox 1 0x5800 5 [] (rowAt 0x5800 5) 0 (laneRun 0 up) ∧
    (((laneRun 0 up).arrived .mailbox 0).running 0 = true ∧ (rowAt 0x5800 5).acc ≠ .wo ∧ (rowAt 0x5800 5).ty.isDomain = false) ∧
    Accepts .mailbox 0x5800 5 [0, 0, 0, 0] (rowAt 0x5800 5) 0 (laneRun 0 up) ∧
    Accepts .mailbox 0x1A00 7 [1, 0, 0, 0] (rowAt 0x1A00 7) 0 (up) ∧
    Accepts .mailbox 0x1A00 7 [2, 0, 0, 0] (rowAt 0x1A00 7) 0 (up) :=
  ⟨reaches_of (by decide +kernel), by decide +kernel, accepts_of (by decide +kernel), accepts_of (by decide +kernel), accepts_of (by decide +kernel)⟩

/-- The header of a direct segment of 64 bytes (R94). -/
def directHeader : Bytes :=
  let p := le 4 0x47534241 ++ [1, 7, 0, 0] ++ le 4 9 ++ le 4 64 ++ le 4 64 ++ zeros 8
  p ++ le 4 (crc32c p)

/-- Room at the heap's base is room, wherever the engine places a segment. -/
theorem place_isSome {s : State} {n : Nat} (h : s.fits s.heapBase n = true) : (s.place n).isSome = true := by
  simp only [State.place]
  split
  · rfl
  · simp [h]

set_option maxRecDepth 100000 in
theorem refuse_direct (s : State) (bs : Bytes) : s.refuse 0x6000 9 bs true = checkOpenDirect bs s := rfl

/-- OPEN_DIRECT is accepted. -/
theorem witness_EntryCommands_direct : Accepts .mailbox 0x6000 9 directHeader (rowAt 0x6000 9) 0 up := by
  refine ⟨reaches_of (by decide +kernel), ?_, by decide +kernel⟩
  have hp := place_isSome (s := up.arrived .mailbox 0) (n := granule (leAt directHeader 12 4)) (by decide +kernel)
  have ha : ((up.arrived .mailbox 0).allocCode directHeader (32 + leAt directHeader 16 4)).1 = 0 := by
    simp only [State.allocCode, show headerCode directHeader (32 + leAt directHeader 16 4) = 0 by decide +kernel,
      show (up.arrived .mailbox 0).identityCode directHeader = 0 by decide +kernel]
    revert hp
    generalize State.place _ _ = o
    cases o <;> simp
  have hr : (up.arrived .mailbox 0).refuse 0x6000 (rowAt 0x6000 9).sub directHeader true = 0 := by
    rw [show (rowAt 0x6000 9).sub = 9 by decide +kernel, refuse_direct, checkOpenDirect, if_neg (by decide +kernel), ha]
  simp only [State.writeCode, hr]
  decide +kernel

theorem cellsOk_zeros (n i : Nat) : cellsOk 1 (List.replicate (2 * n) 0) i 0 = true := by
  induction n generalizing i with
  | zero => rfl
  | succ n ih =>
    rw [show 2 * (n + 1) = 2 * n + 1 + 1 by omega, List.replicate_succ, List.replicate_succ]
    simp only [cellsOk]
    rw [if_pos (by simp)]
    exact ih _

theorem readGo_nil (a n : Nat) (acc : Bytes) : Memory.readGo [] a n acc = acc.reverse ++ List.replicate n 0 := by
  induction n generalizing a acc with
  | zero => simp [Memory.readGo]
  | succ n ih => simp [Memory.readGo, ih, List.replicate_succ]

/-- The header of a threshold array of one bit (R146); zeros follow it. -/
def arrayCells : Memory := [(65536, 0x41), (65537, 0x42), (65538, 0x54), (65539, 0x41), (65540, 1), (65541, 1)]

theorem array_read (n : Nat) :
    Memory.read arrayCells 65536 (n + 6) = [0x41, 0x42, 0x54, 0x41, 1, 1] ++ List.replicate n 0 := by
  simp [Memory.read, arrayCells, Memory.readGo, readGo_nil]

theorem array_ok (n m : Nat) (h : n = 10 + 2 * m) (h2 : 2 * m = 131072) :
    thresholdOk ([0x41, 0x42, 0x54, 0x41, 1, 1] ++ List.replicate n 0) = true := by
  have hd : ([0x41, 0x42, 0x54, 0x41, 1, 1] ++ List.replicate n (0 : Byte)).drop 16 = List.replicate (2 * m) 0 := by
    simp only [List.cons_append, List.nil_append, List.drop_succ_cons, List.drop_replicate]
    congr 1
    omega
  have hl : ([0x41, 0x42, 0x54, 0x41, 1, 1] ++ List.replicate n (0 : Byte)).length = 16 + 2 * m := by
    simp only [List.length_append, List.length_replicate, List.length_cons, List.length_nil]; omega
  simp only [thresholdOk, hd, hl]
  have hb : byteAt ([0x41, 0x42, 0x54, 0x41, 1, 1] ++ List.replicate n (0 : Byte)) 5 = 1 := rfl
  have hb4 : byteAt ([0x41, 0x42, 0x54, 0x41, 1, 1] ++ List.replicate n (0 : Byte)) 4 = 1 := rfl
  have hm : leAt ([0x41, 0x42, 0x54, 0x41, 1, 1] ++ List.replicate n (0 : Byte)) 0 4 = 0x41544241 := by
    simp [leAt, ofLe]
  simp only [hb, hb4, hm]
  have hc := cellsOk_zeros m 0
  simp only [Nat.pow_one, Nat.add_one_sub_one, hc, Bool.and_true, inR, ← h2, Nat.mul_one, beq_self_eq_true]
  simp

set_option maxRecDepth 100000 in
theorem refuse_threshold (s : State) : s.refuse 0x3020 7 [5, 0, 0, 0] true = checkThreshold 0 5 s := rfl

/-- The Reserve holds the array as segment 5, its depth that of gallery 0. -/
def withArray : State :=
  setVal 0x3020 1 1
    { up with res := { up.res with segs := [⟨5, 6, 131082 + 6, 0, 65536, .committed, false, none, none⟩], mem := arrayCells } }

theorem withArray_check (s : State) (hm : s.res.mem = arrayCells) (hb : s.bitsOf 0 = 1)
    (hs : s.committed 5 6 = some ⟨5, 6, 131082 + 6, 0, 65536, .committed, false, none, none⟩) : checkThreshold 0 5 s = 0 := by
  have h : s.segBytes ⟨5, 6, 131082 + 6, 0, 65536, .committed, false, none, none⟩ =
      [0x41, 0x42, 0x54, 0x41, 1, 1] ++ List.replicate 131082 0 := by
    unfold State.segBytes State.resRead
    rw [hm]
    exact array_read _
  have hb5 (z : Bytes) : byteAt ([0x41, 0x42, 0x54, 0x41, 1, 1] ++ z) 5 = 1 := rfl
  unfold checkThreshold
  rw [hs]
  simp only [h, array_ok 131082 65536 rfl rfl, hb5, hb]
  rfl

/-- THRESHOLD_LOAD is accepted. -/
theorem witness_EntryCommands_threshold :
    Accepts .mailbox 0x3020 7 [5, 0, 0, 0] (rowAt 0x3020 7) 0 withArray ∧
    (withArray.stored .mailbox 0x3020 [5, 0, 0, 0] (rowAt 0x3020 7) 0).committed 5 6 =
      some ⟨5, 6, 131082 + 6, 0, 65536, .committed, false, none, none⟩ := by
  refine ⟨⟨reaches_of (by decide +kernel), ?_, by decide +kernel⟩, by decide +kernel⟩
  have hr : (withArray.arrived .mailbox 0).refuse 0x3020 (rowAt 0x3020 7).sub [5, 0, 0, 0] true = 0 := by
    rw [show (rowAt 0x3020 7).sub = 7 by decide +kernel, refuse_threshold]
    exact withArray_check _ (by decide +kernel) (by decide +kernel) (by decide +kernel)
  simp only [State.writeCode, hr]
  decide +kernel

/-! Web motion and firing gates -/

/-- Both encoder channels enabled. -/
def moving : State := setVal 0x2010 1 1 (setVal 0x2000 1 1 up)

/-- The line clock one synthesised tick ahead of the counts. -/
def synth : State :=
  setVal 0x2100 1 1 { moving with lc := { moving.lc with state := .run, fwdRun := 2, bFrac := 1 } }

/-- A cross-check window of 1000 counts that both channels have passed. -/
def windowed : State :=
  setVal 0x2100 8 1000 (setEnc 1 { pos := 1000 } (setEnc 0 { pos := 1000 } { up with lc := { up.lc with xStart := some (0, 0) } }))

/-- A disabled channel; one that counts, met by no change, by an impossible one and by a step; an index edge with and without
Z_PERIOD, and within Z_TOL of an index or just not; a window that ends within tolerance, a channel gone still, a synthesised tick due. -/
theorem witness_EncoderEvents :
    (setVal 0x2000 1 0 up).counts 0 = false ∧ moving.counts 0 = true ∧ moving.counts 1 = true ∧
    (quadPhase false false + 4 - quadPhase (moving.enc 0).a (moving.enc 0).b) % 4 = 0 ∧
    (quadPhase true true + 4 - quadPhase (moving.enc 0).a (moving.enc 0).b) % 4 = 2 ∧
    (quadPhase true false + 4 - quadPhase (moving.enc 1).a (moving.enc 1).b) % 4 = 1 ∧
    (quadPhase false true + 4 - quadPhase (moving.enc 0).a (moving.enc 0).b) % 4 = 3 ∧
    (moving.encCfg 0 6 = 0 ∧ moving.encCfg 0 4 = 0) ∧
    ((setVal 0x2010 4 100 moving).encCfg 1 6 = 0 ∧ (setVal 0x2010 4 100 moving).encCfg 1 4 ≠ 0 ∧ (moving.enc 1).indexRef = none) ∧
    (let s := setVal 0x2010 4 100 (setVal 0x2010 5 3 moving)
     let at_ := fun (p : Int) => setEnc 1 { pos := p, indexRef := some 0 } s
     s.encCfg 1 4 = 100 ∧ s.encCfg 1 5 = 3 ∧ ((at_ 103).enc 1).indexRef = some 0 ∧ posDiff 103 0 % 100 = 3 ∧ posDiff 97 0 % 100 = 97 ∧
       posDiff 104 0 % 100 = 4) ∧
    (windowed.lc.xStart = some (0, 0) ∧ windowed.val 0x2100 8 ≠ 0 ∧ (windowed.val 0x2100 8 : Int) ≤ posDiff (windowed.enc 0).pos 0 ∧
      deviates (windowed.val 0x2100 7) (windowed.val 0x2100 9) (posDiff (windowed.enc 0).pos 0) (posDiff (windowed.enc 1).pos 0) = false) ∧
    (moving.sys.mode ≠ .boot ∧ moving.sys.mode ≠ .test ∧ (moving.enc 0).still = false ∧
      (moving.enc 0).edgeAt + msCk (moving.val 0x2100 5) ≤ moving.clk.core) ∧
    (synth.synthDue = some 0 ∧ 0 ≤ synth.clk.core) := by decide +kernel

/-- Probe 0 enabled, with an edge of its sense that waits. -/
def probing : State := setProbe 0 { waiting := [(0, 1)] } (setVal 0x2040 1 1 moving)

/-- Its window away from the position. -/
def missing : State := setVal 0x2040 4 1000 (setVal 0x2040 5 2000 probing)

/-- Output 0 driven by no unit; an edge of probe 0 and a level that is none; a waiting edge inside the window and outside it; an
emulated encoder that owes a count. -/
theorem witness_OutputsAndProbes :
    (∀ k, k < 16 → (up.cmp k).drives 0 up.clk.core = false) ∧
    (true ≠ (probing.probe 0).level ∧ probing.flag 0x2040 1 = true ∧ probing.sys.mode ≠ .boot ∧ probing.sys.mode ≠ .test ∧
      probing.val 0x2040 2 &&& 1 ≠ 0) ∧ false = (probing.probe 0).level ∧
    (((drainProbes probing).probe 0).waiting = [(0, 1)] ∧ 0 + (drainProbes probing).encCfg 0 2 + 2 ≤ probing.clk.core ∧
      (drainProbes probing).inWindow 0 ((drainProbes probing).positionAt 0) = true) ∧
    (((drainProbes missing).probe 0).waiting = [(0, 1)] ∧
      (drainProbes missing).inWindow 0 ((drainProbes missing).positionAt 0) = false) ∧
    (let s := setVal 0x20C0 1 1 { up with emus := [(0, { acc := 2 ^ 32 })] }
     s.flag 0x20C0 1 = true ∧ (tget {} s.emus 0 : Emu).lag ≠ 0 ∧ (tget {} s.emus 0 : Emu).lag.natAbs ≤ s.val 0x20C0 5 ∧
       (tget {} s.emus 0 : Emu).stepAt + nsCk (s.val 0x20C0 3) ≤ s.clk.core) := by decide +kernel

/-- Gate 0 enabled in a state, its inputs at p and c. -/
def gated (st : GateState) (p c : Bool) : State := setVal 0x2200 2 1 (setGate 0 { p := p, c := c, state := st } up)

/-- A healthy gate met by healthy levels and by others, a withdrawn one met by healthy levels, a gate whose inputs have been equal. -/
theorem witness_GateInputs :
    (gated .healthy true false).sys.mode ≠ .boot ∧ ((gated .healthy true false).gate 0).state = .healthy ∧
    (setGate 0 { p := true, c := false, state := .healthy, equalAt := none } (gated .healthy true false)).gateHealthy 0 = true ∧
    (setGate 0 { p := false, c := true, state := .healthy, equalAt := none } (gated .healthy true false)).gateHealthy 0 = false ∧
    ((gated .withdrawn false true).gate 0).state = .withdrawn ∧
    (setGate 0 { p := true, c := false, state := .withdrawn, equalAt := none } (gated .withdrawn false true)).gateHealthy 0 = true ∧
    0 + msCk 1 < (setGate 0 { state := .healthy, equalAt := some 0 } up).clk.core := by decide +kernel

/-- A latching gate that acts in READY. -/
def latching : State := setMode .ready (setVal 0x2200 6 0xFF (setVal 0x2200 5 1 (gated .healthy true false)))

/-- The withdrawal that latches, and the next state it answers. -/
theorem witness_LatchingGateStops :
    (latching.sys.mode ≠ .boot ∧ latching.sys.mode ≠ .test ∧ latching.pair.role ≠ .standby ∧ (latching.gate 0).state = .healthy ∧
      (setGate 0 { latching.gate 0 with p := false, c := true, equalAt := none } latching).gateHealthy 0 = false ∧
      latching.gateActs latching.sys.mode 0 = true ∧ latching.gateVal 0 5 = 1) ∧
    ∃ t, exec (.gateInputAccepted 0 0 false true) latching = .next t := ⟨by decide +kernel, _, rfl⟩

/-! Lines, lanes and modules -/

/-- Line 100, of which nothing is done yet. -/
def aLine : Line :=
  { line := 100, prints := true, set_ := ⟨[], 0, 0, 0, 0, [], false, []⟩, drops := none, late := false, reasons := 0, fireAt := none
    deadline := 0, lanes := 0, active := none, armed := none, plan := 0, inst := 0, position := 0, wSet := 0, swaps := 0 }

/-- The same line, complete in the ring. -/
def complete : Line := { aLine with drops := some [] }

/-- Gallery 0 has that line in its path, as y, and ticks have passed it. -/
def lined (y : Line) : State :=
  let s := laneRun 0 (setVal 0x1500 3 0xFF up)
  setGal 0 { lines := [y] } { s with lc := { s.lc with ticked := true, lastTick := 200 } }

/-- A lane in RUN, changed. -/
def laneWith (f : Lane → Lane) : State := setLane 0 (f ((laneRun 0 up).lane 0)) (laneRun 0 up)

/-- A line to complete, to find late, and to start on a free lane; a frame that has ended, a lane to send a TIME, a tick overdue, a
print record due. -/
theorem witness_LinesAndFrames :
    (((lined aLine).gal 0).find 100 = some aLine ∧ aLine.drops = none ∧ aLine.late = false) ∧
    (aLine.pending = true ∧ (lined aLine).pred.valid = false) ∧
    (let s := lined complete
     (s.gal 0).find 100 = some complete ∧ s.shadows 0 = false ∧ s.running 0 = true ∧ (s.lane 0).sending = none ∧
       s.sendable 0 complete = true ∧ s.deadlinePassed 0 (usg 32 ((100 : Int) - s.step 0)) = true ∧
       complete.pending = false ∧ s.missed 0 complete = false ∧
       (((fixLine 0 complete s).gal 0).find 100).isSome = true) ∧
    (let s := setLane 0 { (lined complete).lane 0 with train := { state := .shadow }, peerRun := true } (setRole .standby (lined complete))
     (s.gal 0).find 100 = some complete ∧ s.shadows 0 = true) ∧
    (let s := laneWith (fun x => { x with sending := some ⟨{ type := 0x20 }, 0⟩ })
     (s.lane 0).sending = some ⟨{ type := 0x20 }, 0⟩ ∧ 0 ≤ s.clk.core ∧ (0x20 : Nat) ≠ 0x21 ∧
       (sendTime 0 (setLane 0 { s.lane 0 with sending := none } s)).yieldAfter 0 = none) ∧
    ((laneRun 0 up).sendsTime 0 = true ∧ ((laneRun 0 up).lane 0).sending = none ∧ (laneRun 0 up).timeFits 0 = true) ∧
    (let s := { up with pred := { up.pred with valid := true, p := 1 } }
     s.pred.valid = true ∧ s.pred.phi + 2 * s.pred.p ≤ (s.now : Int)) ∧
    (aLine.prints = true ∧ bitOf ((lined aLine).val 0x1500 3) 0 = true ∧ (lined aLine).inControl = true ∧
      aLine.stamp + usT 2000 ≤ (lined aLine).now) := by decide +kernel

/-- The frame of a type that a module sends on lane 0 (R182, R184). -/
def upFrame (type : Nat) (payload : Bytes) : Bytes :=
  let p := le 1 type ++ [0, 9, 0, 0, 0] ++ le 2 payload.length ++ zeros 24 ++ payload
  p ++ le 4 (crc32c p)

/-- A transaction that is outstanding. -/
def sent (type : Nat) (user : CtrlUser) : Ctrl := { tag := 7, frame := { type := type }, user := user, sentAt := 0, resends := 0 }

/-- Lane 0 with it, and with the TIME_SYNC of sequence 7. -/
def asked (type : Nat) (user : CtrlUser) : State :=
  laneWith (fun x => { x with outstanding := [sent type user], syncs := [(7, 0)], delay := some 0 })

/-- STATUS; the answers to a write of REG_DATA, to a read of VERSION and of an identity; FAULT of a code other than 1; DELAY_RESP. -/
theorem witness_ModuleFrames :
    ((receive 0 0x81 (upFrame 0x81 (zeros 160)) (laneRun 0 up)).1 = true ∧ ((laneRun 0 up).lane 0).statusAt = none) ∧
    (let f := upFrame 0x90 (le 2 7 ++ zeros 6)
     let s := asked 0x10 .regWrite
     (receive 0 0x90 f s).1 = true ∧
       ((heard 0 (receive 0 0x90 f s).2).answered 0 (leAt (payloadOf f) 0 2) [0x10, 0x12]).map (fun q => q.1.user) = some .regWrite) ∧
    (let f := upFrame 0x91 (le 2 7 ++ [0, 0, 0, 0] ++ le 2 4 ++ zeros 4)
     let s := asked 0x11 .version
     (receive 0 0x91 f s).1 = true ∧ leAt (payloadOf f) 2 2 = 0 ∧
       ((heard 0 (receive 0 0x91 f s).2).answered 0 (leAt (payloadOf f) 0 2) [0x11]).map (fun q => q.1.user) = some .version) ∧
    (let f := upFrame 0x93 ([0, 0] ++ le 2 7 ++ zeros 4 ++ le 2 1 ++ zeros 6 ++ [0])
     let s := asked 0x13 (.identity 0 0)
     (receive 0 0x93 f s).1 = true ∧
       ((heard 0 (receive 0 0x93 f s).2).answered 0 (leAt (payloadOf f) 2 2) [0x13]).map (fun q => q.1.user) = some (.identity 0 0)) ∧
    (let f := upFrame 0xA0 ([2, 0] ++ zeros 14)
     (receive 0 0xA0 f (laneRun 0 up)).1 = true ∧ leAt (payloadOf f) 0 2 ≠ 1 ∧ (heard 0 (receive 0 0xA0 f (laneRun 0 up)).2).sweep = none) ∧
    (let f := upFrame 0xB0 (le 2 7 ++ zeros 22)
     let s := heard 0 (receive 0 0xB0 f (asked 0x10 .regWrite)).2
     (receive 0 0xB0 f (asked 0x10 .regWrite)).1 = true ∧ (s.lane 0).syncs.find? (fun q => q.1 == leAt (payloadOf f) 0 2) = some (7, 0) ∧
       (s.lane 0).delay ≠ none) := by decide +kernel

/-- Bay 0 populated, its head warm, on a lane in RUN. -/
def warmBay : State := setBay 0 { inkCold := false } (setVal 0x4000 1 1 (laneRun 0 up))

/-- A transaction and an identity read unanswered; a TIME_SYNC due, and a third one unanswered; a silent lane; a bay without STATUS. -/
theorem witness_ModuleSilence :
    (((asked 0x10 .regWrite).answered 0 7 [0x10, 0x11, 0x12]).map (fun q => q.1) = some (sent 0x10 .regWrite) ∧
      (asked 0x10 .regWrite).running 0 = true ∧ (asked 0x10 .regWrite).resending 0 7 = false ∧ 0 + msCk 1 ≤ up.clk.core) ∧
    (((asked 0x13 (.identity 0 0)).answered 0 7 [0x13]).map (fun q => q.1) = some (sent 0x13 (.identity 0 0)) ∧
      (asked 0x13 (.identity 0 0)).resending 0 7 = false ∧ 0 + msCk 50 ≤ up.clk.core) ∧
    ((laneRun 0 up).sendsTime 0 = true ∧ ((laneRun 0 up).lane 0).syncDue ≤ up.clk.core ∧ ((laneRun 0 up).lane 0).syncQueue = 0) ∧
    (let s := laneWith (fun x => { x with syncs := [(3, 0), (2, 0), (1, 0)] })
     (s.lane 0).syncs = [(3, 0), (2, 0), (1, 0)] ∧ (0 : Int) + (usT 10 : Nat) ≤ (s.now : Int)) ∧
    ((laneRun 0 up).lane 0).validAt + msCk (up.val 0x5000 12) ≤ up.clk.core ∧
    (warmBay.running 0 = true ∧ warmBay.populated 0 = true ∧ (warmBay.bay 0).inkCold = false ∧
      (warmBay.bay 0).statusAt + msCk (warmBay.val 0x5000 12) ≤ warmBay.clk.core) := by decide +kernel

/-- Lane 0's training in a state, changed. -/
def training (st : LaneState) (f : Training → Training) : State := setTrain 0 (f { state := st }) up

/-- Each state of training at the moment its clause speaks of. -/
theorem witness_LaneTraining :
    (((training .detect id).lane 0).train.state = .detect ∧ 0 + usCk 100 ≤ up.clk.core) ∧
    (((training .align (fun t => { t with aligned := true })).lane 0).train.state = .align ∧
      ((training .align (fun t => { t with aligned := true })).lane 0).train.aligned = true) ∧
    (((training .equalise id).lane 0).train = { state := .equalise } ∧ 0 + usCk 500 ≤ up.clk.core) ∧
    (((training .equalise (fun t => { t with measuring := true, chosen := true })).lane 0).train =
      { state := .equalise, measuring := true, chosen := true } ∧ 96 ≤ fomOf 48 32 ∧ fomOf 48 32 = 96) ∧
    (((training .equalise (fun t => { t with measuring := true, asking := 6 })).lane 0).train =
      { state := .equalise, measuring := true, asking := 6 } ∧ 0 < fomOf 64 128 ∧ fomOf 64 128 = 255) ∧
    (((training .verify id).lane 0).train = { state := .verify } ∧ 0 + msCk 10 ≤ up.clk.core) ∧
    (trainLimit .align = some 2 ∧ trainLimit .equalise = some 12 ∧ trainLimit .verify = some 12 ∧ 0 + msCk 12 ≤ up.clk.core) ∧
    (((training .verify (fun t => { t with timeouts := 2 })).lane 0).train.timeouts = 2) ∧
    (((training .failed id).lane 0).train.state = .failed ∧ (setVal 0x5000 11 1 (training .failed id)).autoRetrain 0 = true ∧
      0 + sCk 1 ≤ up.clk.core) ∧
    (laneRun 0 up).running 0 = true ∧
    (let s := setVal 0x5000 0x13 5 (training .test id)
     (s.lane 0).train.state = .test ∧ 1 ≤ s.val 0x5000 0x13 ∧ s.val 0x5000 0x13 ≤ 5 ∧ (s.lane 0).prbsAt = none ∧
       ((setLane 0 { s.lane 0 with prbsAt := some 0 } s).lane 0).prbsAt ≠ none) ∧
    8 ≤ ((laneWith (fun x => { x with badRun := 8 })).lane 0).badRun ∧ (up.lane 0).train.state ≠ .run := by decide +kernel

/-! The host port, the interrupt controller and the CRC unit -/

/-- A port that is disabled by its strap. -/
def noPort : State := { up with sys := { up.sys with straps := 0 } }

/-- Accession ring 0 and egress ring 0 with five posted descriptors, halted or not. -/
def ringed (halted : Bool) : State :=
  setAccRing 0 { tail := 5, enable := true, halted := halted } (setEgrRing 0 { tail := 5, enable := true, halted := halted } up)

/-- A port that answers and one that does not; a link speed the port may have; HEARTBEAT due; a word of the register BAR; a ring
to reset and one to resume. -/
theorem witness_HostPortCommands :
    up.portOn = true ∧ noPort.portOn = false ∧ 1 ≤ up.val 0xA000 2 ∧ ((1 : Nat) = 0 ↔ (1 : Nat) = 0) ∧
    ((true = true → (0 : Nat) = 0) ∧ ((0 : Nat) = 0 ↔ (0 : Nat) = 0)) ∧ bitOf 1 0 = true ∧
    (up.host.ready = true ∧ up.host.heartbeatAt + msCk 1 ≤ up.clk.core) ∧ (0 % 4 = 0 ∧ ¬ (0x001000 ≤ 0 ∧ 0 < 0x002000)) ∧
    (0x002000 % 4 = 0 ∧ ¬ (0x001000 ≤ 0x002000 ∧ 0x002000 < 0x002000)) ∧
    ((up.accRing 0).enable = false ∧ up.ringBusy 0 = false ∧ bitOf 0 0 = false) ∧ ((ringed true).accRing 0).halted = true := by
  decide +kernel

/-- The mailbox with a request written and perhaps one in progress. -/
def posted (busy : Bool) : State :=
  { up with host := { up.host with mailbox := { request := [(0, 1), (6, 0)], busy := busy } } }

/-- A doorbell while BUSY, one of a wrong length and one of a right one. -/
theorem witness_Mailbox :
    (posted true).portOn = true ∧ (posted true).host.mailbox.busy = true ∧ (posted false).host.mailbox.busy = false ∧
    (posted false).served = true ∧ mailboxLength 9 ((posted false).host.mailbox.body 9) = false ∧
    mailboxLength 8 ((posted false).host.mailbox.body 8) = true := by decide +kernel

/-- Sources 16 and 47 enabled on target 0, with a stack. -/
def claimable (bringup : Bool) (f : Ic → Ic) : State :=
  { up with ic := f { bringup := bringup, enable := [(16, true), (47, true), (256 + 16, true)], prio := [(16, 2), (47, 3)], pending := [(16, true)] } }

/-- What each clause on CLAIM and COMPLETE speaks of, in normal service and in BRINGUP. -/
theorem witness_Claims :
    (let u := sampleLevels (claimable false id)
     u.portOn = true ∧ u.ic.deliverable 0 16 = true ∧ (u.ic.stackOf 0).length < 16) ∧
    (let u := sampleLevels (claimable false (fun c => { c with stack := [(0, [(16, 2)])] }))
     u.ic.stackOf 0 = [(16, 2)] ∧ irqLevel 16 = false) ∧
    (let u := sampleLevels (claimable false (fun c => { c with stack := [(0, [(47, 3)])] }))
     u.ic.stackOf 0 = [(47, 3)] ∧ irqLevel 47 = true ∧ u.levelNow 47 = false) ∧
    (let u := sampleLevels (claimable true (fun c => { c with stack := [(0, [(47, 3)])] }))
     u.ic.bringup = true ∧ u.ic.enabled 0 16 = true ∧ u.ic.pendingBit 16 = true ∧ (u.ic.inService 16 = true ∨
       tget 0 u.ic.prio 16 ≤ u.ic.topPrio 0) ∧ (u.ic.stackOf 0).length < 16 ∧ u.ic.enabled 0 17 = false ∧ (47 : Nat) ≠ 16) ∧
    (sampleLevels (claimable true id)).ic.stackOf 0 = [] ∧
    (let u := sampleLevels (claimable false (fun c => { c with stack := [(1, [(16, 2)])], serving := [(16, true)] }))
     u.ic.bringup = false ∧ u.ic.enabled 0 16 = true ∧ u.ic.inService 16 = true ∧ u.ic.servedElsewhere 0 16 = true) := by decide +kernel

/-- The faults of kinds 1 to 5, a first fault and a later one, and a vector that may be sent. -/
theorem witness_StackFaults :
    (let u := sampleLevels (claimable false (fun c => { c with stack := [(0, [(47, 3)])] }))
     u.portOn = true ∧ u.ic.bringup = false ∧ u.ic.stackOf 0 = [(47, 3)] ∧ (47 : Nat) ≠ 16 ∧ u.ic.enabled 0 17 = false ∧
       u.ic.pendingBit 47 = false ∧ u.ic.inService 47 = false ∧
       (u.ic.enabled 0 16 = true ∧ u.ic.pendingBit 16 = true ∧ tget 0 u.ic.prio 16 ≤ u.ic.topPrio 0)) ∧
    (sampleLevels (claimable false id)).ic.stackOf 0 = [] ∧
    (let u := sampleLevels (claimable false (fun c => { c with stack := [(1, [(16, 2)])], serving := [(16, true)] }))
     u.ic.enabled 0 16 = true ∧ u.ic.pendingBit 16 = true ∧ u.ic.inService 16 = true) ∧
    (let u := sampleLevels (claimable false (fun c => { c with stack := [(0, List.replicate 16 (18, 1))] }))
     u.ic.deliverable 0 16 = true ∧ (u.ic.stackOf 0).length = 16) ∧
    up.ic.fValid = false ∧ ({ up with ic := { up.ic with fValid := true } } : State).ic.fValid = true ∧ up.ringCap 0 ≠ 0 ∧
    (let s := { claimable false id with host := { up.host with msixOn := true, msix := [(4, { mask := false })] } }
     s.ic.bringup = false ∧ s.mayMaster = true ∧ s.host.vectorMasked 4 = false) ∧
    (claimable false id).host.vectorMasked 4 = true := by decide +kernel

/-- The port answers; a coalescing window that has ended; an edge source, a level one, and one outside the word. -/
theorem witness_InterruptRegisters :
    up.portOn = true ∧
    (let s := { up with ic := { up.ic with count := [(16, 3)], coalT := [(16, 10)] } }
     tget 0 s.ic.count 16 ≠ 0 ∧ tget 0 s.ic.window 16 + usCk (tget 0xFFFF s.ic.coalT 16) ≤ s.clk.core) ∧
    (bitOf 0x8001 0 = true ∧ irqLevel (32 * 1 + 0) = false ∧ bitOf 0x8001 15 = true ∧ irqLevel (32 * 1 + 15) = true) ∧
    (∀ j, j < 32 → bitOf 0x8001 j = true → (0 : Nat) ≠ 32 * 1 + j) := by decide +kernel

/-- A channel in SOFT mode and one that is off, a channel bound to an enabled ring, and a word that configures one. -/
theorem witness_CrcCommands :
    up.portOn = true ∧ ((setCrc 0 { mode := 1 } up).crcCh 0).mode = 1 ∧ (up.crcCh 0).mode ≠ 1 ∧
    (setCrc 0 { mode := 2 } (ringed false)).crcFrozen { mode := 2 } = true ∧
    (up.crcFrozen (up.crcCh 0) = false ∧ field 0x13 5 4 < 2 ∧ bitOf 0x13 16 = false) := by decide +kernel

/-! The Reserve -/

/-- A descriptor of a length, the last of its chain. -/
def desc (first : Bool) (n : Nat) : Desc := ⟨0x1000, BitVec.ofNat 32 n, if first then 3 else 2, 9⟩

/-- A container in flight, its body the zeros its header tells of. -/
def flying (crc : Nat) (compressed : Bool) : Flight :=
  { id := 9, type := 7, length := 64, crc := crc, offset := 4294967296, compressed := compressed, body := zeros 64, route := 4, unit_ := if compressed then some 0 else none
    badStream := none, mirror := none, answer := some 0, sentAt := 0, passed := false }

/-- It is in flight. -/
def inAir (f : Flight) : State := { up with res := { up.res with flights := [f] } }

/-- A chain taken and one that is faulty; a container held from the network; a body that has been moved, its stream broken or its
bytes right; a ring whose read fails, with a chain in flight and with none. -/
theorem witness_Accession :
    (let s := ringed false
     s.accepts = true ∧ (s.accRing 0).enable = true ∧ (s.accRing 0).halted = false ∧ s.mayMaster = true ∧
       [desc true 32].length ≤ (s.accRing 0).posted ∧ takeChain false [desc true 32] = ([desc true 32], some 0) ∧
       (zeros 32).length = sumN ([desc true 32].map (fun d => d.length.toNat)) ∧ s.unitFor (zeros 32) = true ∧ s.crcBound false 0 = none ∧
       takeChain false [desc false 32] = ([desc false 32], some 0xAB04000F)) ∧
    (let s := { up with res := { up.res with netHeld := some (zeros 32) } }
     s.accepts = true ∧ s.res.netHeld = some (zeros 32) ∧ s.unitFor (zeros 32) = true) ∧
    ((inAir (flying 0 true)).res.flights.find? (fun f => f.id == 9 && f.moves) = some (flying 0 true) ∧ (flying 0 true).original = none) ∧
    (let f := flying (crc32c (zeros 64)) false
     (inAir f).res.flights.find? (fun f => f.id == 9 && f.moves) = some f ∧ f.original = some (zeros 64) ∧ f.verify (zeros 64) = 0 ∧
       (inAir f).rangeGone f.offset f.length = false) ∧
    (let s := setAccRing 0 { tail := 5, enable := true, chains := [⟨[desc true 32], 9, none⟩] } (inAir { flying 0 false with route := 0 })
     (s.accRing 0).chains.reverse.find? (s.reading 0) = some ⟨[desc true 32], 9, none⟩ ∧
       s.readSince (.accession 0) + msCk (s.val 0xA000 5) ≤ s.clk.core) ∧
    (((ringed false).accRing 0).chains.reverse.find? ((ringed false).reading 0) = none ∧ ((ringed false).accRing 0).enable = true ∧
      ((ringed false).accRing 0).halted = false ∧ ((ringed false).accRing 0).posted ≠ 0 ∧
      (ringed false).readSince (.accession 0) + msCk ((ringed false).val 0xA000 5) ≤ (ringed false).clk.core) ∧
    (((ringed false).egrRing 0).enable = true ∧ ((ringed false).egrRing 0).halted = false ∧ ((ringed false).egrRing 0).posted ≠ 0 ∧
      (ringed false).readSince (.egress 0) + msCk ((ringed false).val 0xA000 5) ≤ (ringed false).clk.core) ∧
    ((zeros 63).length ≠ (flying 0 false).length ∧ (zeros 64).length = (flying 0 false).length ∧ crc32c (zeros 64) ≠ (flying 0 false).crc) := by
  decide +kernel

/-- An OPEN direct segment at the window's start, and none; sound codewords, and one that is not. -/
theorem witness_ReserveBar :
    up.portOn = true ∧
    (let s := { up with res := { up.res with segs := [⟨9, 7, 64, 0, 0, .opened, true, none, none⟩] } }
     s.res.segs.any (fun g => g.direct && g.state == .opened &&
       decide (g.offset ≤ s.val 0x6000 5 + 0 ∧ s.val 0x6000 5 + 0 + [1, 2].length ≤ g.offset + g.length)) = true ∧ s.mirrors = false) ∧
    up.res.segs.any (fun g => g.direct) = false ∧ up.res.capacity ≤ (setVal 0x6000 5 17179869184 up).val 0x6000 5 + 0 ∧ up.val 0x6000 5 < up.res.capacity ∧ up.poisoned (up.val 0x6000 5) 4 = false ∧
    ({ up with res := { up.res with poison := [0] } } : State).poisoned 0 4 = true := by decide +kernel

/-- A memory in canonical form, an address on each side of what is written, and a byte of it. -/
theorem witness_MemoryReadsBack :
    Memory.wf [(3, 1), (5, 2)] = true ∧ (0 : Nat) < [(7 : Byte), 0].length ∧ ((3 : Nat) < 4 ∨ 4 + [(7 : Byte), 0].length ≤ 3) ∧
    ((6 : Nat) < 4 ∨ 4 + [(7 : Byte), 0].length ≤ 6) := by decide +kernel

/-- A BUNDLE's job and a free unit; a record at the front of a backlog and a buffer that holds it; export due; REWIND with records
exported before, and with none. -/
theorem witness_EgressAndExport :
    (let s := withOp 0x6800 4 .running up
     s.bundling 0 = true ∧ s.res.deflating.length < 2 ∧ 0 ∉ s.res.deflating ∧ s.therm.fDie ≠ 0) ∧
    (let s := { ringed false with res := { (ringed false).res with egress := [(0, { backlog := [⟨2, zeros 64, false⟩] })] } }
     (s.egr 0).backlog = [⟨2, zeros 64, false⟩] ∧ (s.egrRing 0).enable = true ∧ (s.egrRing 0).halted = false ∧ s.mayMaster = true ∧
       [desc true 64].length ≤ (s.egrRing 0).posted ∧ s.crcBound true 0 = none ∧ takeBuffers 64 [desc true 64] = ([desc true 64], some 0)) ∧
    (setVal 0x1500 4 1 { up with prov := { up.prov with rings := [(0, { written := 128 })] } }).exportDue 0 = true ∧
    (let s := setVal 0x1500 4 1 { up with prov := { up.prov with rings := [(0, { written := 128, exported := 128 })] } }
     s.provOldest 0 < (s.provRing 0).exported) ∧
    ((setVal 0x1500 4 1 up).provRing 0).exported ≤ (setVal 0x1500 4 1 up).provOldest 0 := by decide +kernel

/-! Cameras, the colour loop, the sweep and the lamps -/

/-- No time passes in no clocks. -/
theorem test_advance_zero : advance 0 up = up := by decide +kernel

/-- Port 0 and context 0 enabled, for rows of 2 pixels of data type 2Ah in frames of 2 rows. -/
def cam : State :=
  setVal 0x7110 1 1 (setVal 0x7000 1 1 (setVal 0x7000 2 0 (setVal 0x7000 3 0 (setVal 0x7000 4 0x2A (setVal 0x7000 5 2 (setVal 0x7000 6 2 up))))))

/-- Context 0 changed. -/
def camWith (f : Ctx → Ctx) : State := setCtx 0 (f (cam.ctx 0)) cam

/-- A frame is coming into slot 0. -/
def coming : State := camWith (fun x => { x with incoming := some ⟨some 0, 1, 0, 0⟩, slots := [(0, { base := 100, w := 2, h := 2, bits := 12 })] })

/-- A port that runs and one that does not; a bound channel and an unbound one; a frame in progress and none; a row of a frame, and
an address on each side of it. -/
theorem witness_CameraFrames :
    (cam.portRuns 0 = true ∧ cam.ctxFor 0 0 = some 0 ∧ coming.portRuns 0 = true ∧ coming.ctxFor 0 0 = some 0 ∧ coming.ctxVal 0 4 = 0x2A ∧
      (coming.ctx 0).incoming ≠ none ∧ coming.ctxVal 0 4 ≠ 0x2B ∧ (cam.ctx 0).incoming = none) ∧
    (cam.portRuns 0 = true ∧ cam.ctxFor 0 1 = none) ∧ up.portRuns 0 = false ∧ 0 + msCk (coming.val 0x7100 6) ≤ coming.clk.core ∧
    ((coming.ctx 0).incoming = some ⟨some 0, 1, 0, 0⟩ ∧ 0 < ((coming.ctx 0).slot 0).h ∧
      [(1 : BitVec 12), 2].length = ((coming.ctx 0).slot 0).w ∧ 99 < ((coming.ctx 0).slot 0).base + 2 * 2 * 0 ∧
      ((coming.ctx 0).slot 0).base + 2 * 2 * (0 + 1) ≤ 104 ∧ Memory.wf coming.res.mem = true) := by decide +kernel

/-- Port 0 has a job. -/
def portJob (j : CciJob) : State := setPort 0 { job := some j } up

/-- A full slot and a free pipeline; a frame whose time has passed; the two jobs of a bus. -/
theorem witness_PipelineAndCci :
    (let s := camWith (fun x => { x with slots := [(0, { state := .full })] })
     s.pipe.active = none ∧ s.sys.mode ≠ .boot ∧ s.sys.mode ≠ .test ∧ s.nextSlot = some (0, 0)) ∧
    (let s := { cam with pipe := { active := some (0, 0), set_ := some (cam.pipeSet 0) } }
     s.pipe.active = some (0, 0) ∧ s.pipe.set_ = some (cam.pipeSet 0) ∧
       s.pipe.takenAt + (2400 + s.pipe.frame.w * s.pipe.frame.h) ≤ s.clk.core) ∧
    ((portJob (.exposure 0)).port 0).job = some (.exposure 0) ∧ ((portJob .raw).port 0).job = some .raw := by decide +kernel

/-- A report and none; an update that waits, its spare READY or not; a gallery whose loop is off. -/
theorem witness_LoopEvents :
    ({ up with reports := [⟨zeros 80, true, []⟩] } : State).reports = [⟨zeros 80, true, []⟩] ∧ up.reports = [] ∧
    (let s := setLoop 0 { update := .waiting } (noz (fun n => { n with spareState := .ready }) up)
     (s.loop 0).update = .waiting ∧ (s.gal 0).noz.spareState = .ready ∧ s.inControl = true) ∧
    (let s := setLoop 0 { update := .waiting } up
     (s.loop 0).update = .waiting ∧ (s.gal 0).noz.spareState ≠ .ready) ∧
    up.flag (0x7810 + 0) 1 = false := by decide +kernel

/-- A shot of gallery 0's nozzle 0, fired at 0. -/
def aShot : Shot := { index := 0, gal := 0, nozzle := 0, line := 0, fire := 0, pulse := none, spoilt := false }

/-- A sweep of gallery 0 with some shots in flight. -/
def aSweep (hs : List Shot) : Sweep :=
  { slot := 0, mask := 1, t0 := 0, slot0 := 0, nextSlot := 0, nextIndex := 0, shotBase := 0, suspended := false, shots := hs }

/-- It runs, with a gate edge noted at the start. -/
def sweepRun (hs : List Shot) : State :=
  let s := setVal 0x4000 1 1 (setBay 0 { idState := .overridden } (withOp 0x7C00 1 .running up))
  setSweepGal 0 { state := 1 } { s with sweep := some (aSweep hs), dgateAt := [(0, 0)] }

/-- A due slot; a pulse that a shot takes and one that none takes; a level held from an edge and from before; a shot to decide. -/
theorem witness_SweepEvents :
    ((sweepRun []).nextNozzle (aSweep []).mask (aSweep []).nextIndex = some 0 ∧ (sweepRun []).slotDue (aSweep []) = true) ∧
    (let s := sweepRun [{ aShot with fire := (up.timeAt (up.rawTime (up.val 0x7C00 7)) : Int) - up.dgTime 2 }]
     let x := { aShot with fire := (up.timeAt (up.rawTime (up.val 0x7C00 7)) : Int) - up.dgTime 2 }
     (s.sweeping8 (aSweep [x])).contains 0 = true ∧
       (giveTo (s.dgTime 2) (s.dgTime 4) (s.timeAt (s.rawTime (s.val 0x7C00 7))) 0 [x]).isSome = true) ∧
    (let s := sweepRun []
     (s.sweeping8 (aSweep [])).contains 0 = true ∧ (s.sweeping8 (aSweep [])).contains 1 = false ∧
       giveTo (s.dgTime 2) (s.dgTime 4) (s.timeAt (s.rawTime (s.val 0x7C00 7))) 0 (aSweep []).shots = none ∧
       s.pulseTaken 0 (s.timeAt (s.rawTime (s.val 0x7C00 7))) = none ∧
       thas s.dgateAt 0 = true ∧ tget 0 s.dgateAt 0 + msCk 1 < s.clk.core ∧ thas ({ s with dgateAt := [] } : State).dgateAt 0 = false) ∧
    (let s := sweepRun [aShot]
     takeFirst (fun h => h.gal == 0 && decide (h.fire + s.dgTime 4 ≤ (s.now : Int))) [aShot] = some (aShot, []) ∧
       (s.sweepGal 0).state = 1) := by decide +kernel

/-- Chain 0 as it shifts a refresh begun at time a, the last one or not. -/
def shifting (a : Nat) : State := setChain 0 { shifting := true, refreshAt := a } up

/-- A refresh due and one not; LAT before its time and at it. -/
theorem witness_LampChains :
    (setVal 0x8000 1 1 up).lampDue 0 = true ∧ up.lampDue 0 = false ∧
    (let s := shifting up.clk.core
     (s.chain 0).shifting = true ∧ s.clk.core < (s.chain 0).refreshAt + s.shiftCk 0) ∧
    (let s := shifting 0
     (s.chain 0).shifting = true ∧ (s.chain 0).refreshAt + s.shiftCk 0 ≤ s.clk.core ∧ (s.chain 0).last = false) := by decide +kernel

/-! The redundant pair -/

/-- One of a pair in a role, whose peer it has heard, lane 32 in RUN, and its pair state changed. -/
def paired (r : Role) (f : Pair → Pair) : State :=
  let s := laneRun 32 (setRole r up)
  { s with pair := f { s.pair with peerRole := 4, peerStale := false } }

/-- PEER_ACTIVE_N as it was, falling and rising, in each role; arbitration at its end; a takeover of gallery 0's lane 0, due, on a
lane in SHADOW and on one that is not; a takeover whose tick has not come. -/
theorem witness_ControlRoles :
    (paired .standby (fun p => { p with peerActive := true })).pair.peerActive = true ∧
    (let s := paired .standby (fun p => { p with peerActive := true })
     s.pair.role = .standby ∧ s.pair.hand = none) ∧
    (paired .syncing (fun p => { p with peerActive := true })).pair.role = .syncing ∧
    (paired .active (fun p => { p with peerActive := true })).pair.role = .active ∧
    (let s := paired .arbitrating (fun p => { p with peerActive := false })
     s.pair.role = .arbitrating ∧ s.pair.peerActive = false ∧ s.pair.arbitrateAt + msCk (s.val 0x1200 9) ≤ s.clk.core) ∧
    (let s := paired .active (fun p => { p with activeN := true })
     s.pair.role = .active ∧ s.pair.hand = none ∧ s.pair.activeN = true ∧ s.pair.peerActive = false) ∧
    (let s := paired .active (fun p => { p with takes := [(0, ⟨10, 11, 0, 1, false⟩)] })
     s.pair.takes.find? (fun q => q.1 == 0) = some (0, ⟨10, 11, 0, 1, false⟩) ∧ bitOf 1 0 = true ∧ 0 ≤ s.now ∧
       ((setTrain 0 { state := .shadow } s).lane 0).train.state = .shadow ∧ (s.lane 0).train.state ≠ .shadow) ∧
    (let s := paired .active (fun p => { p with takeAt := 1 })
     s.pair.role = .active ∧ s.pair.takeAt + usT 1000 ≤ s.now ∧ s.lc.lastTickAt < s.pair.takeAt) := by decide +kernel

/-- A handover that this unit takes over in, its gallery's line at hand. -/
def taking : HandPlan :=
  { mh := 100, ny := [(0, 99)], taking := true, lanesDone := 0, confirmed := true, yieldedAt := some 0, slot := 0 }

/-- A STANDBY and another role; a handover under way; a lane to take over in it. -/
theorem witness_Handovers :
    (paired .standby id).linkState ≠ 0 ∧ (paired .standby id).pair.role = .standby ∧ (paired .syncing id).linkState ≠ 0 ∧
    (paired .syncing id).pair.role ≠ .standby ∧
    (let s := paired .standby (fun p => { p with hand := some taking })
     let t := setLane 0 { s.lane 0 with train := { state := .shadow }, peerRun := true } s
     s.pair.hand = some taking ∧ taking.taking = true ∧ (t.lane 0).peerRun = true ∧ (t.lane 0).train.state = .shadow ∧
       t.handDue taking 0 = true) := by decide +kernel

/-- A heartbeat due, one lost, one received by an active and by a standby; a link down too long. -/
theorem witness_Heartbeats :
    ((paired .active id).running 32 = true ∧ ((paired .active id).lane 32).beatAt + usCk 10 ≤ up.clk.core) ∧
    ((paired .standby id).pair.peerRole ≠ 0xFF ∧ (paired .standby id).pair.heartbeatLost = false ∧
      (paired .standby id).pair.heartbeatAt + usCk 30 ≤ up.clk.core) ∧
    ((paired .active id).linkState ≠ 0 ∧ (paired .active id).pair.role = .active ∧ (paired .active id).pair.peerRole = 4 ∧ (4 : Nat) ≠ 2) ∧
    (let s := paired .active (fun p => { p with peerRole := 3, peerConfirmed := 0xFFFFFFFF })
     s.pair.peerRole = 3 ∧ (3 : Nat) ≠ 2 ∧ s.imageDue = true) ∧
    ((paired .standby id).linkState ≠ 0 ∧ (paired .standby id).pair.role = .standby ∧ (paired .standby id).pair.hand = none) ∧
    (let s := paired .standby (fun p => { p with downAt := some 0 })
     s.pair.downAt = some 0 ∧ 0 + msCk (s.val 0x1200 8) ≤ s.clk.core) := by decide +kernel

/-- A message of the mirror sequence in turn, one out of turn, and no link; a confirmation awaited; MIRROR_TIMEOUT over, with no
write held, and not; an image item while RESYNC runs. -/
theorem witness_Mirroring :
    (let s := paired .standby (fun p => { p with mirrorNext := some 7 })
     s.linkState ≠ 0 ∧ s.pair.mirrorNext = some (7 : BitVec 32).toNat ∧ (7 : Nat) ≠ (8 : BitVec 32).toNat ∧
       ¬ (0x1100 = 0x1100 ∧ (4 : Nat) = 7) ∧ s.clk.epoch = 0) ∧
    (setRole .standby up).linkState = 0 ∧
    (let s := { paired .active id with cat := { up.cat with mirror := some (7, ⟨.direct 0, 2, 0x1100, 4, [1]⟩, 0) } }
     s.linkState ≠ 0 ∧ s.cat.mirror = some ((7 : BitVec 32).toNat, ⟨.direct 0, 2, 0x1100, 4, [1]⟩, 0)) ∧
    (let s := inAir { flying 0 false with answer := none, mirror := some 7 }
     s.mirrorLate = true ∧ s.cat.mirror = none) ∧
    up.mirrorLate = false ∧
    (let s := withOp 0x1200 11 .running (paired .syncing id)
     s.linkState ≠ 0 ∧ s.pair.role = .syncing ∧ (s.opOf 0x1200 11).isSome = true) := by decide +kernel

/-- A unit not in control and one that is; a standby without the line of a digest; a notice of a later reign, and another role; an
alignment that a unit follows, one that the active is to send and one that it is not, and t_a reached. -/
theorem witness_StandbyState :
    (paired .standby id).linkState ≠ 0 ∧ (paired .standby id).inControl = false ∧ (paired .active id).inControl = true ∧
    (((paired .standby id).gal 0).find 100 = none) ∧
    ((paired .active id).pair.role = .active ∧ 0 < sgn 16 (usg 16 (((2 : BitVec 16).toNat : Int) - (paired .active id).pair.reign))) ∧
    (paired .standby id).pair.role ≠ .active ∧
    (paired .standby id).followsTime = true ∧ (setRole .standby up).linkState = 0 ∧ (paired .active id).alignNow = true ∧
    up.alignNow = false ∧
    (let s := paired .standby (fun p => { p with alignDue := some 0 })
     let k := s.clk.core - ((s.now - 0) * 6 + 327679) / 327680
     s.pair.alignDue = some 0 ∧ 0 ≤ s.now ∧ k + s.encCfg 0 2 + 2 ≤ s.clk.core ∧ s.pair.role ≠ .active) := by decide +kernel

/-! The network and device time -/

/-- Port 0 up at 100 Mb/s, with the address 10.0.0.1. -/
def online : State := setVal 0x1A01 1 1 (setVal 0x1A00 1 1 (setVal 0x1A00 2 0x0100000A up))

/-- A client on it. -/
def client : NetSrc := { port := 0, mac := 5, ip := 0x0A000002, udp := 4000, shared := false }

/-- A link that the port may have, none, and one that it may not; a request for an own address; a next hop that waits, a cached
entry too old, and a shared address to announce. -/
theorem witness_Network :
    (online.host.ready = true ∧ linkFits (online.netCfg 0 1) 1 = true ∧ linkFits (online.netCfg 0 1) 0 = true ∧
      bitOf online.sys.clocksBad 3 = false ∧ linkFits (online.netCfg 0 1) 2 = false) ∧
    (let v := netCount 0 2 64 online
     let r := rateStep v.net.arpRate v.net.arpRateAt 0 v.clk.core 1000
     let w := { v with net := { v.net with arpRate := r.2.1, arpRateAt := r.2.2 } }
     online.linkOf 0 ≠ 0 ∧ r.1 = true ∧ (w.ownIps 0).contains 0x0A000002 = false ∧ (w.ownIps 0).contains 0x0A000001 = true) ∧
    (let s := { online with net := { online.net with arpWait := [⟨0, 9, 0, 1, []⟩], arp := [⟨0, 9, 5, 0⟩] } }
     s.net.arpWait.find? (fun w => w.port == 0 && w.ip == 9) = some ⟨0, 9, 0, 1, []⟩ ∧ (1 : Nat) < 3 ∧ 0 + msCk 250 ≤ s.clk.core ∧
       0 + sCk 1 ≤ s.clk.core ∧ s.net.arp.find? (fun e => e.port == 0 && e.ip == 9) = some ⟨0, 9, 5, 0⟩ ∧
       0 + sCk (s.netCfg 0 5) ≤ (advance (sCk 3600) s).clk.core) ∧
    (let s := { setRole .active online with net := { online.net with sharedLeft := 1 } }
     s.net.sharedLeft ≠ 0 ∧ s.net.sharedAt + msCk 300 ≤ s.clk.core ∧ s.pair.role = .active) ∧
    ((zeros 1518).length ≤ 1518 ∧ (zeros 63).length < 64 ∧ 1522 < (zeros 1523).length ∧ up.linkOf 0 = 0) ∧
    (let v := netCount 0 2 64 online
     online.reaches client = true ∧ (zeros 1472).length ≤ 1472 ∧
       (rateStep v.net.icmpRate v.net.icmpRateAt 0 v.clk.core 100).1 = true) ∧
    (let s := { online with net := { online.net with queues := [(0, [⟨some online.now, .gratuitous 9, none⟩])] } }
     s.txq 0 0 = [⟨some online.now, .gratuitous 9, none⟩] ∧ online.now ≤ s.now ∧ s.now ≤ online.now + s.slack 0 0 ∧
       s.higherDue 0 0 = false ∧ online.now + s.slack 0 0 < (advance 1200000000 s).now) := by decide +kernel

/-- A message of a kind for a session and sequence, with a TAG under a key where it bears one (R305, R307). -/
def message (kind session seq : Nat) (body : Bytes) (key : Option Bytes) : Bytes :=
  let m := le 4 0x50434241 ++ [1, BitVec.ofNat 8 kind] ++ le 2 body.length ++ le 4 session ++ le 4 seq ++ zeros 16 ++ body
  match key with
  | some k => m ++ (hmac k m).take 16
  | none => m

/-- The body of an OPEN: the engine's nonce, then the client's. -/
def openBody : Bytes := le 16 77 ++ zeros 16

/-- The unit with a key of zeros and the nonce 77 that the client has. -/
def keyed : State :=
  let s := netCount 0 2 64 online
  { s with net := { s.net with key := zeros 32, keySet := true, nonces := [⟨0, 0x0A000002, 77, online.clk.core⟩] } }

/-- The client's session in slot 0. -/
def session : Session :=
  { id := 9, src := client, lastSeq := 0, opened := 0, lastMsg := 0, key := zeros 32, store := [], openMsg := [], openAck := [], openAt := 0 }

/-- It is open. -/
def inSession : State := { keyed with net := { keyed.net with sessions := [(0, session)] } }

/-- A source with a token and not locked out; a message of no valid form, a CHALLENGE, and a queue of 64 that is full. -/
theorem witness_Protocol :
    (online.reaches client = true ∧ 600000 ≤ ((online.source (online.sourceKey client.ip.toNat)).refill online.clk.core).tokens ∧
      ((online.source (online.sourceKey client.ip.toNat)).refill online.clk.core).lockedAt = none) ∧
    wellFormed [] = false ∧ wellFormed (message 1 0 0 [] none) = true ∧ (msgOf (message 1 0 0 [] none)).kind = 1 ∧
    keyed.queued 0 < 64 ∧
    64 ≤ ({ inSession with cat := { up.cat with waiting := List.replicate 64 ⟨.request 0 1, 1, 0x1100, 1, []⟩ } } : State).queued 0 := by
  decide +kernel

/-- An OPEN whose TAG is right, with the nonce known and a slot free. -/
theorem witness_Protocol_open :
    (let m := message 2 0 0 openBody (some (zeros 32))
     wellFormed m = true ∧ (msgOf m).kind = 2 ∧ keyed.repeated client m = none ∧ keyed.net.keySet = true ∧ (msgOf m).gen = keyed.net.keyGen ∧
       keyed.nonceOf client (ofLe ((msgOf m).body.take 16)) = some ⟨0, 0x0A000002, 77, online.clk.core⟩ ∧
       (msgOf m).tag = (hmac keyed.net.key (m.take (32 + (msgOf m).body.length))).take 16 ∧
       sessionIds.find? (fun k => !thas keyed.net.sessions k) = some 0) := by decide +kernel

/-- A REQUEST and a CLOSE of a session with their TAGs right, and an IDENT_READ. -/
theorem witness_Protocol_session :
    (let m := message 3 9 1 ([1, 0] ++ le 2 0x1100 ++ [1, 0, 0, 0]) (some (zeros 32))
     inSession.boundSession client (msgOf m).session = some (0, session) ∧ wellFormed m = true ∧ (msgOf m).gen = 0 ∧ (msgOf m).kind = 3 ∧
       (msgOf m).tag = (hmac session.key (m.take (32 + (msgOf m).body.length))).take 16 ∧
       serial32 (msgOf m).seq session.lastSeq = 1 ∧ session.unanswered < 4) ∧
    (let m := message 4 9 1 [] (some (zeros 32))
     wellFormed m = true ∧ (msgOf m).kind = 4 ∧ (msgOf m).tag = (hmac session.key (m.take (32 + (msgOf m).body.length))).take 16) ∧
    (let m := message 6 0 1 ([1, 0] ++ le 2 0x1000 ++ [1, 0, 0, 0]) none
     wellFormed m = true ∧ (msgOf m).kind = 6 ∧ (msgOf m).session = 0) := by decide +kernel

/-- A session idle for 30 s and one that is not; a lockout and a failure of the past. -/
theorem witness_ProtocolTimers :
    (inSession.net.sessions.any (fun q => q.1 == 0 && decide (q.2.lastMsg + sCk 30 ≤ (advance (sCk 30) inSession).clk.core)) = true ∧
      inSession.net.sessions.any (fun q => q.1 == 0 && decide (q.2.lastMsg + sCk 30 ≤ inSession.clk.core)) = false) ∧
    (let s := setSource { ip := 9, tokens := 0, tokensAt := 0, fails := [0], lockedAt := some 0 } up
     (s.source (s.sourceKey 9)).lockedAt = some 0 ∧ 0 + sCk 10 ≤ s.clk.core ∧ (s.source (s.sourceKey 9)).fails.head? = some 0 ∧
       0 + sCk 60 ≤ (advance (sCk 60) s).clk.core) := by decide +kernel

/-- A publication at its launch time and one that is off; a backlog of 44 events, and event push off. -/
theorem witness_PushedData :
    (let s := setVal 0x1610 7 0 (setVal 0x1610 3 1000 (setVal 0x1610 1 1 { up with clk := { up.clk with counter := 5000450000 * 562949953421312 } }))
     s.flag 0x1610 1 = true ∧ s.host.ready = true ∧ (s.pubLaunch 0).isSome = true ∧ s.flag 0x1610 7 = false) ∧
    up.flag 0x1610 1 = false ∧
    (let s := setVal 0x1600 1 1 { up with prov := { up.prov with backlog := List.replicate 44 ⟨0, 0, 0, 0, [], 0, 0, 0⟩ } }
     s.flag 0x1600 1 = true ∧ 44 ≤ s.prov.backlog.length) ∧
    up.flag 0x1600 1 = false := by decide +kernel

/-- PTP runs on port 0, in a state. -/
def timed (st : PtpState) (f : Ptp → Ptp) : State :=
  setVal 0x1B10 1 1 { online with ptp := f { up.ptp with state := st } }

/-- An Announce from another clock. -/
def heard1 : Announce :=
  { priority1 := 128, clockClass := 6, accuracy := 0x20, variance := 0, priority2 := 128, identity := 7, stepsRemoved := 0, sender := 7 }

/-- A port that follows, one that is off, a step pending with and without what holds it, a Delay_Resp awaited, a port that leads and
one that does not, an Announce of the parent and its absence. -/
theorem witness_PtpPort :
    ((timed .slave id).ptpUp = true ∧ (timed .slave id).ptp.state = .slave) ∧ up.ptpUp = false ∧
    (let s := { timed .slave (fun p => { p with recent := [1, 1, 1, 1] }) with clk := { up.clk with stepPending := true } }
     s.clk.stepPending = true ∧ s.stepHeld = false ∧ 4 ≤ s.ptp.recent.length ∧ (setMode .print s).stepHeld = true) ∧
    (let s := timed .slave (fun p => { p with delayReqAt := some 5, syncAt := some 4 })
     s.ptp.delayReqAt = some 5 ∧ s.ptpUp = true ∧ s.ptp.syncAt ≠ none ∧ s.ptp.delays = []) ∧
    ((timed .master id).ptpUp = true ∧ (netCount (timed .master id).ptpPort 2 64 (timed .master id)).mastering = true) ∧
    ((netCount (timed .slave id).ptpPort 2 64 (timed .slave id)).mastering = false ∧ (timed .slave id).mastering = false) ∧
    ((timed .master id).mastering = true ∧
      (timed .master id).ptp.lastAnnounceSent + (timed .master id).ptpInterval 10 ≤ (timed .master id).clk.core ∧
      (timed .master id).ptp.lastSyncSent ≠ (timed .master id).now + 1) ∧
    ((timed .slave id).inControl = true ∧
      (timed .slave id).ptp.lastDelaySent + (timed .slave id).ptpInterval 11 ≤ (timed .slave id).clk.core) ∧
    (let s := timed .slave (fun p => { p with parent := some 7 })
     s.ptpUp = true ∧ heard1.stepsRemoved.toNat < 255 ∧ s.ptp.parent = some heard1.sender.toNat ∧
       s.ptp.announceAt + 3 * s.ptpInterval 10 ≤ s.clk.core) := by decide +kernel

/-- That clock is none of the engine's own, whatever its addresses. -/
theorem witness_PtpPort_other (s : State) : heard1.sender.toNat ≠ s.clockId := by
  have h : heard1.sender.toNat = 7 := rfl
  simp only [State.clockId, h]
  omega

/-! The memories, temperatures and resets -/

/-- Channel 0 with a rank that serves the first gibibyte pair, its state changed. -/
def ranked (f : DramChan → DramChan) : State :=
  let s := setRank 0 0 { state := .inService } { up with dram := { up.dram with rankBytes := 1073741824 } }
  setChan 0 (f (s.chan 0)) s

/-- A migration of rank 0 to rank 1, in a slot. -/
def moving0 (slot : Option Nat) : Migration := { rank := 0, spare := 1, slot := slot, byCommand := false, due := 0 }

/-- An error of a channel's own offset and of another's; a word read again; a migration without and with its slot. -/
theorem witness_MemoryErrors :
    ((ranked id).sys.mode ≠ .boot ∧ chanOf 0 = 0 ∧ (ranked id).serverOf 0 0 = some 0 ∧ chanOf 256 ≠ 0) ∧
    ((ranked (fun x => { x with reread := some (0, 0, .bulk) })).chan 0).reread = some (0, 0, .bulk) ∧
    State.reset.sys.mode = .boot ∧
    (let s := ranked (fun x => { x with migration := some (moving0 none) })
     (s.chan 0).migration = some (moving0 none) ∧ (moving0 none).slot = none ∧ s.freeSlot = some 0) ∧
    (let s := setSlot 0 { state := .running, sliced := true } (ranked (fun x => { x with migration := some (moving0 (some 0)) }))
     (s.chan 0).migration = some (moving0 (some 0)) ∧ (s.slot 0).state = .running ∧ (s.slot 0).sliced = true) := by decide +kernel

/-- What is due and what is not of a channel in service; a temperature in its band and above it; a patrol under way; a band that falls;
an activation table to clear; a row whose neighbours are refreshed. -/
theorem witness_MemoryUpkeep :
    ((ranked id).chanInService 0 = true ∧ ((ranked id).chan 0).refreshAt + refreshCk ((ranked id).chan 0).band ≤ (ranked id).clk.core) ∧
    (let s := ranked (fun x => { x with refreshAt := up.clk.core })
     s.clk.core < (s.chan 0).refreshAt + refreshCk (s.chan 0).band) ∧
    (((ranked id).chan 0).zqAt + msCk 128 ≤ up.clk.core ∧ ((ranked id).chan 0).dqsAt + msCk 10 ≤ up.clk.core) ∧
    ((ranked id).hottestRank 0 [some 250] = some 250 ∧ bandOf 250 = ((ranked id).chan 0).band ∧
      (ranked id).hottestRank 0 [some 900] = some 900 ∧ ((ranked id).chan 0).band < bandOf 900) ∧
    (let s := ranked (fun x => { x with patrol := 5 })
     (s.chan 0).band ≠ 2 ∧ (s.chan 0).migration = none ∧ s.therm.fDie ≠ 0 ∧ (s.chan 0).patrol ≠ 0) ∧
    (let s := ranked (fun x => { x with below := some 0, band := 1 })
     (s.chan 0).below = some 0 ∧ 0 + sCk 1 ≤ s.clk.core ∧ 0 < (s.chan 0).band) ∧
    ((ranked id).chan 0).clearAt + msCk 32 ≤ up.clk.core ∧
    ((ranked id).sys.mode ≠ .boot ∧ (ranked id).val 0x9000 4 ≠ 2 ∧ (1 : Nat) ≠ 0) := by decide +kernel

/-- Sensors in IDLE and in BOOT; one with samples that has stopped, and one without; a photometric calibration that waits too long;
PFAIL_N while a COMMIT runs, and asserted before. -/
theorem witness_SensorsAndPower :
    (up.sys.mode ≠ .boot ∧ (up.sensor 0).at_ + msCk 10 ≤ up.clk.core) ∧ State.reset.sys.mode = .boot ∧
    (let s := sampleSensor 0x2000 250 up
     thas s.therm.sensors 0x2000 = true ∧ s.sensorStopped 0x2000 = true ∧ 0x2000 / 4096 ≠ 1) ∧
    thas up.therm.sensors 0x2000 = false ∧ up.cal.photo = none ∧
    (let s := { up with cal := { up.cal with photo := some ⟨0, 0, [], 0⟩ } }
     s.cal.photo = some ⟨0, 0, [], 0⟩ ∧ 0 + sCk 10 ≤ s.clk.core) ∧
    (up.arc.pfail = false ∧ up.committing = none) ∧
    ({ withOp 0x1700 1 .running up with arc := { up.arc with writing := some [] } } : State).committing = some 0 ∧
    ({ up with arc := { up.arc with pfail := true } } : State).arc.pfail = true := by decide +kernel

/-- No test under way and none begun; a rail lost in IDLE and in BOOT; resets due and not; TEST and another mode. -/
theorem witness_Resets :
    up.test.run = none ∧ up.sys.mode ≠ .boot ∧ up.sys.mode ≠ .test ∧
    (noteRail 0 500 { up with sys := { up.sys with railsBad := setBit up.sys.railsBad 0 true } }).sys.mode ≠ .boot ∧
    (noteRail 0 500 { up with sys := { up.sys with railsBad := setBit up.sys.railsBad 0 true } }).test.run = none ∧
    (noteRail 0 500 State.reset).sys.mode = .boot ∧
    (let s := { up with sys := { up.sys with resetAt := some up.clk.core, fatalAt := some (up.clk.core, 3) } }
     s.sys.resetAt = some up.clk.core ∧ up.clk.core ≤ s.clk.core ∧ s.sys.fatalAt = some (up.clk.core, 3) ∧ s.clk.core < up.clk.core + 1) ∧
    (setMode .test up).sys.mode = .test ∧ (giveUp 5 (safeSet 8 up)).sys.fatalAt = none ∧
    (giveUp 1 (safeSet 7 up)).sys.fatalAt = none := by decide +kernel

/-- A unit in BOOT that waits for a recovery image. -/
def recovering : State := { State.reset with sys := { State.reset.sys with straps := 7 } }

/-- A recovery awaited; BOOT's end; HEAD_POWER to fall, now or later; a SELFTEST due in IDLE and elsewhere; a phase under way, at its end with
a phase to come and with none. -/
theorem witness_BootAndTest :
    (recovering.sys.mode = .boot ∧ recovering.sys.straps % 4 = 3 ∧ recovering.sys.recovered = false) ∧
    crc32c [] ≠ (1 : BitVec 32).toNat ∧ up.sys.mode ≠ .boot ∧
    (let s := { State.reset with sys := { mode := .boot, romOn := true, straps := 4 } }
     s.sys.mode = .boot ∧ (runRom (releasePins s)).sys.halted = false ∧ (runRom (releasePins s)).sys.straps % 4 ≠ 3) ∧
    (let s := { up with sys := { up.sys with powerOffAt := some up.clk.core } }
     s.sys.powerOffAt = some up.clk.core ∧ s.sys.mode = .idle ∧ up.clk.core ≤ s.clk.core ∧ s.clk.core < up.clk.core + 1) ∧
    (let r : TestRun := { mask := 0xFFFF, entered := false, due := 0, started := 0, phase := 0, done := 0 }
     ({ up with test := { up.test with run := some r } } : State).test.run = some r ∧ r.entered = false ∧ up.sys.mode = .idle ∧
       (setMode .service up).sys.mode ≠ .idle) ∧
    (let r : TestRun := { mask := 0xFFFF, entered := true, due := 0, started := 0, phase := 1, done := 0 }
     r.entered = true ∧ r.phaseEnd ≤ up.clk.core ∧ 0 < r.phaseEnd ∧
       (([1, 2, 3, 4].filter (fun p => decide (r.phase < p))).find? r.runs).isSome = true ∧
       ([1, 2, 3, 4].filter (fun p => decide ({ r with phase := 4 }.phase < p))).find? r.runs = none) ∧
    up.test.run = none := by decide +kernel

/-- PORST_N low, and high; an opcode above 6 and one that is not. -/
theorem witness_TestAccessPort :
    ({ up with porstLow := true } : State).porstLow = true ∧ up.porstLow = false ∧ 6 < (7 : Byte).toNat ∧ (6 : Byte).toNat ≤ 6 := by
  decide +kernel

/-! Values that the manual works out -/

/-- The digits 1 to 9. -/
def digits : Bytes := [0x31, 0x32, 0x33, 0x34, 0x35, 0x36, 0x37, 0x38, 0x39]

/-- The check values of R362's table (15_host_port.md). -/
theorem test_crc_check_values :
    crcOf .crc32c digits = 0xE3069283 ∧ crcOf .crc32 digits = 0xCBF43926 ∧ crcOf .crc16 digits = 0x29B1 := by decide +kernel

/-- T3 - T2 of 2,000 ns and T4 - T1 of 2,484.5 ns make a DELAY of 242.25 ns, 0x00F2_4000 (08_head_link.md, the example of R190). -/
theorem test_delay : delayOf 0 0 (2000 * 65536) (2484 * 65536 + 32768) 0 = 0xF24000 := by decide +kernel

/-- The hot cabinet of 17_thermal_archive.md: f_die, LEVEL_CAP. -/
theorem test_hot_cabinet :
    (⟨-400, -300, 1000, 1100, 10⟩ : Thresholds).factor 1040 = 39321 ∧ levelCap 39321 = 6 := by decide +kernel

/-- Its lamp's DOSE_NOW, 24, at a SPEED within 10 counts/s of the example's. -/
theorem test_dose_now :
    (setVal 0x8104 7 4000 (setEnc 0 { dir := 1, still := false, run := 45354 :: List.replicate 15 9 ++ [0] } up)).doseNow 4 5903 2819771 = 24 := by decide +kernel

/-- A nozzle that reads 1,020 where the median is 1,200 goes from GAIN 16,712 to 16,963 (10_colour_loop.md, the example of R255). -/
theorem test_gain_step : (up.gainStep 1200 1020 16712).1 = 16963 := by decide +kernel

/-- FOM = min(255, floor(W x H / 16)) (R195). -/
theorem test_fom : fomOf 64 128 = 255 ∧ fomOf 48 32 = 96 ∧ fomOf 5 3 = 0 := by decide +kernel

/-- A command that is the WRITE of an entry is accepted: PRINT_GALLERIES in IDLE. -/
theorem witness_CatalogueCommandsComplete : Accepts .mailbox 0x1100 4 [1] (rowAt 0x1100 4) 0 up := accepts_of (by decide +kernel)

end Sys2Proof.Tests
end

section
/-! The default stitch mask (R150): the little-endian words of a table, the bits of a sum of powers of two, and the ramp. -/

namespace Sys2Proof.Machine

/-! Words of a table -/

@[simp] theorem le_length (n v : Nat) : (le n v).length = n := by
  induction n generalizing v with
  | zero => rfl
  | succ n ih => simp [le, ih]

/-- Reading back n little-endian bytes gives the value they could hold (R4). -/
theorem ofLe_le (n v : Nat) : ofLe (le n v) = v % 256 ^ n := by
  induction n generalizing v with
  | zero => simp [le, ofLe, Nat.mod_one]
  | succ n ih =>
    rw [Nat.pow_succ', Nat.mod_mul, le, ofLe, ih, BitVec.toNat_ofNat]

/-- Block i of a list of blocks of k elements each. -/
theorem take_drop_flatMap {α β : Type} (f : α → List β) {k : Nat} (hk : ∀ a, (f a).length = k) (l : List α) (i : Nat)
    (hi : i < l.length) : ((l.flatMap f).drop (k * i)).take k = f l[i] := by
  induction l generalizing i with
  | nil => simp at hi
  | cons a l ih =>
    cases i with
    | zero => simp [hk]
    | succ i =>
      have hstep : k * (i + 1) = (f a).length + k * i := by rw [hk]; ring
      rw [List.flatMap_cons, hstep, List.drop_length_add_append, ih i (by simpa using hi)]
      rfl

/-- Word i of a table of n little-endian words of k bytes. -/
theorem leAt_words (w : Nat → Nat) {n i : Nat} (k : Nat) (hi : i < n) :
    leAt ((List.range n).flatMap (fun j => le k (w j))) (k * i) k = w i % 256 ^ k := by
  rw [leAt, take_drop_flatMap _ (fun j => le_length k (w j)) _ i (by simpa using hi), ofLe_le, List.getElem_range]

/-! Sums of powers of two -/

/-- Distinct powers of two do not carry: their sum has exactly their bits. -/
theorem testBit_sumN_two_pow {rows : List Nat} (h : rows.Nodup) (b : Nat) :
    (sumN (rows.map (fun r => 2 ^ r))).testBit b = true ↔ b ∈ rows := by
  have hsum : sumN (rows.map (fun r => 2 ^ r)) = ∑ r ∈ rows.toFinset, 2 ^ r := by
    rw [List.sum_toFinset _ h, sumN, List.sum_eq_foldl]
  rw [hsum, ← Nat.mem_bitIndices, ← List.mem_toFinset, Finset.toFinset_bitIndices_sum_two_pow, List.mem_toFinset]

/-- Filtering the numbers below n by membership in a duplicate-free list of such numbers keeps as many as the list has. -/
theorem length_filter_range_mem {n : Nat} {rows : List Nat} (hd : rows.Nodup) (hn : ∀ r ∈ rows, r < n) {p : Nat → Bool}
    (hp : ∀ b, b < n → (p b = true ↔ b ∈ rows)) : ((List.range n).filter p).length = rows.length := by
  refine List.Perm.length_eq ((List.perm_ext_iff_of_nodup (List.nodup_range.filter p) hd).2 fun b => ?_)
  rw [List.mem_filter, List.mem_range]
  exact ⟨fun ⟨hb, hpb⟩ => (hp b hb).1 hpb, fun hb => ⟨hn b hb, (hp b (hn b hb)).2 hb⟩⟩

/-! The ramp -/

/-- The rows set in word i of the ramp (R150). -/
def rampRows (i : Nat) : List Nat := rampOrder.take ((2 * i + 1) / 4)

/-- Word i of the default mask (R150). -/
def rampWord (i : Nat) : Nat := if i < 32 then sumN ((rampRows i).map (fun r => 2 ^ r)) else 0xFFFF

theorem rampMask_eq_words : rampMask = (List.range 64).flatMap (fun i => le 2 (rampWord i)) := rfl

theorem rampMask_length : rampMask.length = 128 := by
  simp [rampMask_eq_words, List.length_flatMap]

theorem leAt_rampMask {i : Nat} (hi : i < 64) : leAt rampMask (2 * i) 2 = rampWord i % 2 ^ 16 :=
  leAt_words rampWord 2 hi

theorem leAt_rampMask_full {i : Nat} (hl : 32 ≤ i) (hi : i < 64) : leAt rampMask (2 * i) 2 = 0xFFFF := by
  rw [leAt_rampMask hi, rampWord, if_neg (by omega)]
  rfl

theorem rampRows_nodup (i : Nat) : (rampRows i).Nodup :=
  List.Nodup.sublist (List.take_sublist _ _) (show rampOrder.Nodup by decide)

theorem lt_sixteen_of_mem_rampRows {i r : Nat} (h : r ∈ rampRows i) : r < 16 :=
  (show ∀ r ∈ rampOrder, r < 16 by decide) r (List.mem_of_mem_take h)

theorem rampRows_length {i : Nat} (hi : i < 32) : (rampRows i).length = (2 * i + 1) / 4 := by
  rw [rampRows, List.length_take, show rampOrder.length = 16 from rfl]
  omega

theorem bitOf_leAt_rampMask {i b : Nat} (hi : i < 32) (hb : b < 16) :
    bitOf (leAt rampMask (2 * i) 2) b = true ↔ b ∈ rampRows i := by
  rw [leAt_rampMask (by omega), bitOf, Nat.testBit_mod_two_pow, rampWord, if_pos hi]
  simp only [hb, decide_true, Bool.true_and]
  exact testBit_sumN_two_pow (rampRows_nodup i) b

theorem rampMask_bitCount {i : Nat} (hi : i < 32) :
    ((List.range 16).filter (fun b => bitOf (leAt rampMask (2 * i) 2) b)).length = (2 * i + 1) / 4 := by
  rw [length_filter_range_mem (rampRows_nodup i) (fun _ => lt_sixteen_of_mem_rampRows) (fun _ => bitOf_leAt_rampMask hi),
    rampRows_length hi]

/-- Settles O24: each word of the mask is the sum of the powers of two of its rows, which are distinct and below 16. -/
theorem defaultStitchMask : Obligations.DefaultStitchMask := by
  have word (i v : Nat) (h : i < 64 ∧ rampWord i % 2 ^ 16 = v) : leAt rampMask (2 * i) 2 = v := (leAt_rampMask h.1).trans h.2
  exact ⟨rampMask_length, word 0 0 (by decide), word 1 0 (by decide), word 2 1 (by decide), word 3 1 (by decide),
    word 4 0x0101 (by decide), word 5 0x0101 (by decide), word 31 0x7FFF (by decide),
    fun i hi => ⟨rampMask_bitCount hi, fun b => bitOf_leAt_rampMask hi⟩, fun i => leAt_rampMask_full, rfl⟩

end Sys2Proof.Machine
end

section
/-! An access of the host to the BAR has its effect while the port is on; a write of IC_CFG changes MODE and IRQ_PIN_EN alone (R357). -/

namespace Sys2Proof.Machine

/-- With the port on, an access to the BAR has its effect. -/
theorem onBar_of_portOn {s : State} (hport : s.portOn = true) (f : State → State) : onBar f s = f s := if_pos hport

/-- A command whose meaning is an access to the BAR does that access when the port is on. -/
theorem does_of_exec_eq_onBar {c : Instr} {s u : State} {f : State → State} (hexec : exec c s = next (onBar f u))
    (hport : u.portOn = true) : Does c s (f u) := by
  rw [Does, hexec, onBar_of_portOn hport, next]

/-- An IC_CFG write is an access to the BAR that does `icMode` at its time. -/
theorem exec_icModeWrite_eq_onBar (dt : Nat) (v : BitVec 32) (s : State) :
    exec (.icModeWrite dt v) s = next (onBar (icMode v.toNat) (advance dt s)) := by
  rw [exec_icModeWrite, execIcModeWrite]

/-- What `icMode` changes, and all it changes: MODE and IRQ_PIN_EN. -/
theorem icMode_eq (v : Nat) (s : State) : icMode v s = { s with ic := { s.ic with bringup := bitOf v 0, pinEn := bitOf v 5 } } := rfl

/-- Settles O32: with the port on, the command is the write of MODE and IRQ_PIN_EN, `icMode`, on the state at that time. -/
theorem modeChangeKeeps : Obligations.ModeChangeKeeps := by
  unfold Obligations.ModeChangeKeeps
  intro dt v s u hport
  rw [← icMode_eq]
  exact does_of_exec_eq_onBar (exec_icModeWrite_eq_onBar dt v s) hport

end Sys2Proof.Machine
end

section
/-! The Reserve's memory (R88, R98): which bytes a write lists, that the canonical form stands, and that bytes read back. -/

namespace Sys2Proof.Machine

set_option Elab.async false -- one proof at a time: the checks of many at once take more memory than the check of this file allows

/-! The canonical form is: offsets strictly rising, no byte zero. -/

theorem Memory.wf_iff (m : Memory) :
    Memory.wf m = true ↔ m.Pairwise (fun c d => c.1 < d.1) ∧ ∀ c ∈ m, c.2 ≠ 0 := by
  induction m with
  | nil => simp [Memory.wf]
  | cons c rest ih =>
    cases rest with
    | nil => simp [Memory.wf]
    | cons d rest =>
      have hrise : (∀ e ∈ d :: rest, c.1 < e.1) ∧ (d :: rest).Pairwise (fun c d => c.1 < d.1) ↔
          c.1 < d.1 ∧ (d :: rest).Pairwise (fun c d => c.1 < d.1) := by
        refine and_congr_left fun hp => ⟨fun h => h d List.mem_cons_self, fun h e he => ?_⟩
        rcases List.mem_cons.1 he with rfl | he
        · exact h
        · exact h.trans (List.rel_of_pairwise_cons hp he)
      rw [List.pairwise_cons, hrise, List.forall_mem_cons, Memory.wf, Bool.and_eq_true, Bool.and_eq_true, ih]
      simp only [bne_iff_ne, decide_eq_true_eq]
      tauto

/-- Of rising offsets, those before the first that is not below a are those below a. -/
theorem mem_takeWhile_lt {m : Memory} (h : m.Pairwise (fun c d => c.1 < d.1)) (a : Nat) (c : Host.Cell) :
    c ∈ m.takeWhile (fun c => decide (c.1 < a)) ↔ c ∈ m ∧ c.1 < a := by
  induction m with
  | nil => simp
  | cons d rest ih =>
    obtain ⟨hd, hrest⟩ := List.pairwise_cons.1 h
    by_cases hlt : d.1 < a
    · rw [List.takeWhile_cons_of_pos (by simpa using hlt), List.mem_cons, ih hrest, List.mem_cons]
      constructor
      · rintro (rfl | ⟨hc, hca⟩)
        · exact ⟨.inl rfl, hlt⟩
        · exact ⟨.inr hc, hca⟩
      · rintro ⟨rfl | hc, hca⟩
        · exact .inl rfl
        · exact .inr ⟨hc, hca⟩
    · rw [List.takeWhile_cons_of_neg (by simpa using hlt)]
      refine iff_of_false List.not_mem_nil ?_
      rintro ⟨hc, hca⟩
      rcases List.mem_cons.1 hc with rfl | hc
      · exact hlt hca
      · exact hlt ((hd c hc).trans hca)

/-- Of rising offsets, those from the first that is not below a are those not below a. -/
theorem mem_dropWhile_lt {m : Memory} (h : m.Pairwise (fun c d => c.1 < d.1)) (a : Nat) (c : Host.Cell) :
    c ∈ m.dropWhile (fun c => decide (c.1 < a)) ↔ c ∈ m ∧ a ≤ c.1 := by
  induction m with
  | nil => simp
  | cons d rest ih =>
    obtain ⟨hd, hrest⟩ := List.pairwise_cons.1 h
    by_cases hlt : d.1 < a
    · rw [List.dropWhile_cons_of_pos (by simpa using hlt), ih hrest, List.mem_cons]
      refine and_congr_left fun hac => (or_iff_right ?_).symm
      rintro rfl
      omega
    · rw [List.dropWhile_cons_of_neg (by simpa using hlt)]
      refine (and_iff_left_of_imp fun hc => ?_).symm
      rcases List.mem_cons.1 hc with rfl | hc
      · omega
      · have := hd c hc; omega

/-- The bytes listed for bs at offset a are its bytes other than zero, each at its offset. -/
theorem Memory.mem_cells (a : Nat) (bs : Bytes) (c : Host.Cell) :
    c ∈ Memory.cells a bs ↔ ∃ i, ∃ h : i < bs.length, c = (a + i, bs[i]) ∧ bs[i] ≠ 0 := by
  rw [Memory.cells, List.mem_filter, List.mem_iff_getElem]
  simp only [List.getElem_zip, List.length_zip, List.length_range', min_self, List.getElem_range', bne_iff_ne, one_mul]
  constructor
  · rintro ⟨⟨i, h, rfl⟩, hne⟩
    exact ⟨i, h, rfl, hne⟩
  · rintro ⟨i, h, rfl, hne⟩
    exact ⟨⟨i, h, rfl⟩, hne⟩

theorem Memory.cells_rising (a : Nat) (bs : Bytes) : (Memory.cells a bs).Pairwise (fun c d => c.1 < d.1) := by
  refine List.Pairwise.filter _ (List.pairwise_iff_getElem.2 fun i j hi hj hij => ?_)
  simp only [List.getElem_zip, List.getElem_range', one_mul]
  omega

theorem Memory.mem_write {m : Memory} (h : Memory.wf m = true) (a : Nat) (bs : Bytes) (c : Host.Cell) :
    c ∈ Memory.write m a bs ↔ (c ∈ m ∧ (c.1 < a ∨ a + bs.length ≤ c.1)) ∨ c ∈ Memory.cells a bs := by
  have hp := ((Memory.wf_iff m).1 h).1
  simp only [Memory.write, List.mem_append, mem_takeWhile_lt hp, mem_dropWhile_lt hp]
  tauto

/-- The canonical form stands after a write. -/
theorem Memory.wf_write {m : Memory} (h : Memory.wf m = true) (a : Nat) (bs : Bytes) : Memory.wf (Memory.write m a bs) = true := by
  obtain ⟨hp, hz⟩ := (Memory.wf_iff m).1 h
  refine (Memory.wf_iff _).2 ⟨?_, fun c hc => ?_⟩
  · have hcell : ∀ c ∈ Memory.cells a bs, a ≤ c.1 ∧ c.1 < a + bs.length := fun c hc => by
      obtain ⟨i, hi, rfl, _⟩ := (Memory.mem_cells a bs c).1 hc
      exact ⟨Nat.le_add_right a i, Nat.add_lt_add_left hi a⟩
    have hlow := fun c => (mem_takeWhile_lt hp a c).1
    have hhigh := fun c => (mem_dropWhile_lt hp (a + bs.length) c).1
    refine List.pairwise_append.2 ⟨hp.sublist (List.takeWhile_sublist _), List.pairwise_append.2
      ⟨Memory.cells_rising a bs, hp.sublist (List.dropWhile_sublist _), fun c hc d hd => ?_⟩, fun c hc d hd => ?_⟩
    · have := hcell c hc; have := hhigh d hd; omega
    · have := hlow c hc
      rcases List.mem_append.1 hd with hd | hd
      · have := hcell d hd; omega
      · have := hhigh d hd; omega
  · rcases (Memory.mem_write h a bs c).1 hc with ⟨hc, _⟩ | hc
    · exact hz c hc
    · obtain ⟨i, hi, rfl, hne⟩ := (Memory.mem_cells a bs c).1 hc
      exact hne

/-- A listed byte is the byte read at its offset. -/
theorem Memory.byte_of_mem {m : Memory} (h : Memory.wf m = true) {k : Nat} {b : Byte} (hc : (k, b) ∈ m) : Memory.byte m k = b := by
  have hp := ((Memory.wf_iff m).1 h).1
  clear h
  unfold Memory.byte
  induction m with
  | nil => simp at hc
  | cons d rest ih =>
    obtain ⟨hd, hrest⟩ := List.pairwise_cons.1 hp
    rcases List.mem_cons.1 hc with rfl | hc
    · exact if_pos rfl
    · exact (if_neg (hd _ hc).ne').trans (ih hc hrest)

/-- An offset with no byte listed reads 0. -/
theorem Memory.byte_of_not_mem {m : Memory} {k : Nat} (h : ∀ b, (k, b) ∉ m) : Memory.byte m k = 0 := by
  unfold Memory.byte
  induction m with
  | nil => rfl
  | cons d rest ih =>
    have hk : k ≠ d.1 := fun e => h d.2 (by simp [e])
    exact (if_neg hk).trans (ih fun b hb => h b (List.mem_cons_of_mem _ hb))

/-- Memories that list the same byte at an offset read the same there. -/
theorem Memory.byte_congr {m n : Memory} (hm : Memory.wf m = true) (hn : Memory.wf n = true) {k : Nat}
    (h : ∀ b, (k, b) ∈ m ↔ (k, b) ∈ n) : Memory.byte m k = Memory.byte n k := by
  by_cases hk : ∃ b, (k, b) ∈ m
  · obtain ⟨b, hb⟩ := hk
    rw [Memory.byte_of_mem hm hb, Memory.byte_of_mem hn ((h b).1 hb)]
  · push Not at hk
    rw [Memory.byte_of_not_mem hk, Memory.byte_of_not_mem fun b hb => hk b ((h b).2 hb)]

/-- A byte just written reads back. -/
theorem Memory.byte_write_of_lt {m : Memory} (h : Memory.wf m = true) (a : Nat) (bs : Bytes) {i : Nat} (hi : i < bs.length) :
    Memory.byte (Memory.write m a bs) (a + i) = bs.getD i 0 := by
  rw [List.getD_eq_getElem _ _ hi]
  by_cases hz : bs[i] = 0
  · rw [hz]
    refine Memory.byte_of_not_mem fun b hb => ?_
    rcases (Memory.mem_write h a bs _).1 hb with ⟨_, hout⟩ | hc
    · simp only at hout; omega
    · obtain ⟨j, hj, hcj, hne⟩ := (Memory.mem_cells a bs _).1 hc
      obtain ⟨hij, -⟩ := Prod.mk.inj hcj
      obtain rfl : i = j := by omega
      exact hne hz
  · exact Memory.byte_of_mem (Memory.wf_write h a bs)
      ((Memory.mem_write h a bs _).2 (.inr ((Memory.mem_cells a bs _).2 ⟨i, hi, rfl, hz⟩)))

/-- A byte outside those written reads as before. -/
theorem Memory.byte_write_of_outside {m : Memory} (h : Memory.wf m = true) (a : Nat) (bs : Bytes) {k : Nat}
    (hk : k < a ∨ a + bs.length ≤ k) : Memory.byte (Memory.write m a bs) k = Memory.byte m k := by
  refine Memory.byte_congr (Memory.wf_write h a bs) h fun b => ?_
  rw [Memory.mem_write h]
  refine ⟨fun hc => ?_, fun hc => .inl ⟨hc, hk⟩⟩
  rcases hc with ⟨hc, -⟩ | hc
  · exact hc
  · obtain ⟨j, hj, hcj, -⟩ := (Memory.mem_cells a bs _).1 hc
    obtain ⟨hkj, -⟩ := Prod.mk.inj hcj
    omega

/-- Settles O37: what `resWrite` leaves of the memory is `Memory.write`, whose bytes read back and whose frame reads as before. -/
theorem memoryReadsBack : Obligations.MemoryReadsBack := fun a bs _ h =>
  ⟨Memory.wf_write h a bs, fun _ => Memory.byte_write_of_lt h a bs, fun _ => Memory.byte_write_of_outside h a bs⟩

end Sys2Proof.Machine
end

section
/-! What the commands are made of, operation by operation in the order of the model's files: every one of these leaves the queue of
waiting commands and the bytes of the Reserve as they are. The few that write the Reserve's memory or reset it come after. -/

namespace Sys2Proof.Machine

set_option Elab.async false -- one proof at a time: the checks of many at once take more memory than the check of this file allows

/-- t has the queue of s, and its Reserve the bytes of the Reserve of s. -/
@[simp, reducible] def SameStore (s t : State) : Prop := t.pending = s.pending ∧ t.res.mem = s.res.mem

@[simp] theorem forEach_sameStore {α : Type} {f : α → State → State} (hf : ∀ x s, SameStore s (f x s)) (xs : List α) (s : State) :
    SameStore s (forEach xs f s) := by
  induction xs generalizing s with
  | nil => exact ⟨rfl, rfl⟩
  | cons x xs ih => exact ⟨(ih (f x s)).1.trans (hf x s).1, (ih (f x s)).2.trans (hf x s).2⟩

@[simp] theorem ite_pending (c : Prop) [Decidable c] (t u : State) : (if c then t else u).pending = if c then t.pending else u.pending := by
  split <;> rfl

@[simp] theorem ite_mem (c : Prop) [Decidable c] (t u : State) : (if c then t else u).res.mem = if c then t.res.mem else u.res.mem := by
  split <;> rfl

/-! Ops -/

@[simp] theorem bump_sameStore (idx sub w : Nat) (s : State) : SameStore s (bump idx sub w s) := by
  simp [bump]

@[simp] theorem bumpBy_sameStore (idx sub w n : Nat) (s : State) : SameStore s (bumpBy idx sub w n s) := by
  simp [bumpBy]

@[simp] theorem mirrorSend_sameStore (mk : Nat → PairOut) (s : State) : SameStore s (mirrorSend mk s) := by
  simp [mirrorSend]

@[simp] theorem confirm_sameStore (n code : Nat) (s : State) : SameStore s (confirm n code s) := by
  simp [confirm]

@[simp] theorem mirrorEntry_sameStore (idx sub : Nat) (bs : Bytes) (s : State) : SameStore s (mirrorEntry idx sub bs s) := by
  unfold mirrorEntry; split <;> simp

@[simp] theorem ringPut_sameStore (r : Nat) (x : Slot) (s : State) : SameStore s (ringPut r x s) := by
  simp only [ringPut]; repeat' split
  all_goals simp

@[simp] theorem countRec_sameStore (time source : Nat) (s : State) : SameStore s (countRec time source s) := by
  simp [countRec]

@[simp] theorem pushRec_sameStore (r : Rec) (s : State) : SameStore s (pushRec r s) := by
  unfold pushRec; repeat' split
  all_goals simp

@[simp] theorem putEvent_sameStore (t code source : Nat) (arg : Bytes) (s : State) : SameStore s (putEvent t code source arg s) := by
  simp only [putEvent]; split <;> simp

@[simp] theorem noteOverwritten_sameStore (r : Nat) (s : State) : SameStore s (noteOverwritten r s) := by
  simp only [noteOverwritten]; split <;> simp

@[simp] theorem raiseAt_sameStore (t code source : Nat) (arg : Bytes) (s : State) : SameStore s (raiseAt t code source arg s) := by
  unfold raiseAt; split <;> simp

@[simp] theorem raise_sameStore (code source : Nat) (arg : Bytes) (s : State) : SameStore s (raise code source arg s) := by
  simp [raise]

@[simp] theorem raiseLimited_sameStore (gap code object source : Nat) (arg : Bytes) (s : State) : SameStore s (raiseLimited gap code object source arg s) := by
  unfold raiseLimited; split <;> simp

@[simp] theorem raiseLimitedAt_sameStore (t gap code object source : Nat) (arg : Bytes) (s : State) : SameStore s (raiseLimitedAt t gap code object source arg s) := by
  unfold raiseLimitedAt; split <;> simp

@[simp] theorem raiseOnce_sameStore (code object source : Nat) (arg : Bytes) (s : State) : SameStore s (raiseOnce code object source arg s) := by
  unfold raiseOnce; split <;> simp

/-! Captions -/

@[simp] theorem loseTiles_sameStore (q : Nat) (c : CapQ) (s : State) : SameStore s (loseTiles q c s) := by
  simp only [loseTiles]; split <;> simp

@[simp] theorem retireTile_sameStore (q i : Nat) (s : State) : SameStore s (retireTile q i s) := by
  simp only [retireTile]; split <;> simp

@[simp] theorem retireTouched_sameStore (q : Nat) (s : State) : SameStore s (retireTouched q s) := by
  simp [retireTouched]

@[simp] theorem emptyQueue_sameStore (q n : Nat) (s : State) : SameStore s (emptyQueue q n s) := by
  simp [emptyQueue]

/-! LongOp -/

@[simp] theorem startOp_sameStore (k idx sub res : Nat) (arg : Bytes) (s : State) : SameStore s (startOp k idx sub res arg s) := by
  simp [startOp]

@[simp] theorem endOp_sameStore (k : Nat) (st : LState) (result : Nat) (s : State) : SameStore s (endOp k st result s) := by
  simp [endOp]

@[simp] theorem progressOp_sameStore (k p : Nat) (s : State) : SameStore s (progressOp k p s) := by
  simp [progressOp]

@[simp] theorem abortOp_sameStore (k code : Nat) (s : State) : SameStore s (abortOp k code s) := by
  simp only [abortOp]; split <;> simp

@[simp] theorem forceAborts_sameStore (m : Mode) (s : State) : SameStore s (forceAborts m s) := by
  simp [forceAborts]

@[simp] theorem dequeueOp_sameStore (k : Nat) (s : State) : SameStore s (dequeueOp k s) := by
  simp only [dequeueOp]; split <;> simp

/-! HeadLink -/

@[simp] theorem putLine_sameStore (g : Nat) (y : Line) (s : State) : SameStore s (putLine g y s) := by
  simp [putLine]

@[simp] theorem sendLink_sameStore (k : Nat) (o : LinkOut) (s : State) : SameStore s (sendLink k o s) := by
  unfold sendLink; split <;> simp

@[simp] theorem sendFrame_sameStore (l : Nat) (f : Frame) (s : State) : SameStore s (sendFrame l f s) := by
  simp [sendFrame]

@[simp] theorem sendResync_sameStore (l : Nat) (s : State) : SameStore s (sendResync l s) := by
  simp [sendResync]

@[simp] theorem sendCancel_sameStore (l line : Nat) (service : Bool) (s : State) : SameStore s (sendCancel l line service s) := by
  simp [sendCancel]

@[simp] theorem sendTimeSync_sameStore (l : Nat) (s : State) : SameStore s (sendTimeSync l s) := by
  simp [sendTimeSync]

@[simp] theorem sendCtrl_sameStore (l : Nat) (c : Ctrl) (rest : List Ctrl) (s : State) : SameStore s (sendCtrl l c rest s) := by
  simp [sendCtrl]

@[simp] theorem pumpLane_sameStore (l : Nat) (s : State) : SameStore s (pumpLane l s) := by
  simp only [pumpLane]; repeat' split
  all_goals simp

@[simp] theorem queueCtrl_sameStore (l type : Nat) (payload : Nat → Bytes) (user : CtrlUser) (s : State) : SameStore s (queueCtrl l type payload user s) := by
  simp [queueCtrl]

@[simp] theorem ctrlWrite_sameStore (l addr : Nat) (bs : Bytes) (user : CtrlUser) (s : State) : SameStore s (ctrlWrite l addr bs user s) := by
  simp [ctrlWrite]

@[simp] theorem ctrlRead_sameStore (l addr n : Nat) (user : CtrlUser) (s : State) : SameStore s (ctrlRead l addr n user s) := by
  simp [ctrlRead]

@[simp] theorem writeHeadPower_sameStore (l mask : Nat) (s : State) : SameStore s (writeHeadPower l mask s) := by
  unfold writeHeadPower; split <;> simp

@[simp] theorem headPowerAll_sameStore (on : Bool) (s : State) : SameStore s (headPowerAll on s) := by
  simp [headPowerAll]

@[simp] theorem cancelLane_sameStore (t : Int) (l : Nat) (s : State) : SameStore s (cancelLane t l s) := by
  unfold cancelLane; repeat' split
  all_goals simp

@[simp] theorem markCancelled_sameStore (bit : Nat) (t : Int) (g : Nat) (s : State) : SameStore s (markCancelled bit t g s) := by
  simp only [markCancelled]; split <;> simp

@[simp] theorem cancelGalleries_sameStore (bit : Nat) (t : Int) (gs : List Nat) (s : State) : SameStore s (cancelGalleries bit t gs s) := by
  simp [cancelGalleries]

@[simp] theorem cancelShots_sameStore (t : Int) (s : State) : SameStore s (cancelShots t s) := by
  unfold cancelShots; repeat' split
  all_goals simp

/-! Limits -/

@[simp] theorem speedWarnAt_sameStore (t : Nat) (s : State) : SameStore s (speedWarnAt t s) := by
  simp only [speedWarnAt]; repeat' split
  all_goals simp

@[simp] theorem speedWarn_sameStore (s : State) : SameStore s (speedWarn s) := by
  simp [speedWarn]

/-! Guard -/

@[simp] theorem raiseMode_sameStore (old : Mode) (cause : Nat) (s : State) : SameStore s (raiseMode old cause s) := by
  simp [raiseMode]

@[simp] theorem releasePlans_sameStore (s : State) : SameStore s (releasePlans s) := by
  simp only [releasePlans]
  split <;> split <;> simp

@[simp] theorem freeHeldOut_sameStore (s : State) : SameStore s (freeHeldOut s) := by
  simp [freeHeldOut]

@[simp] theorem enterMode_sameStore (old new : Mode) (s : State) : SameStore s (enterMode old new s) := by
  simp only [enterMode]; repeat' split
  all_goals simp

@[simp] theorem changeMode_sameStore (new : Mode) (printing cause : Nat) (s : State) : SameStore s (changeMode new printing cause s) := by
  simp [changeMode]

@[simp] theorem stopFiring_sameStore (t : Int) (s : State) : SameStore s (stopFiring t s) := by
  simp [stopFiring]

@[simp] theorem takeCause_sameStore (bit : Nat) (s : State) : SameStore s (takeCause bit s) := by
  unfold takeCause; repeat' split
  all_goals simp

@[simp] theorem safeSet_sameStore (bit : Nat) (s : State) : SameStore s (safeSet bit s) := by
  unfold safeSet; split <;> simp

@[simp] theorem forceIdle_sameStore (s : State) : SameStore s (forceIdle s) := by
  unfold forceIdle; split <;> simp

@[simp] theorem releaseSwap_sameStore (g : Nat) (s : State) : SameStore s (releaseSwap g s) := by
  simp only [releaseSwap]; repeat' split
  all_goals simp

@[simp] theorem releaseSwaps_sameStore (s : State) : SameStore s (releaseSwaps s) := by
  simp [releaseSwaps]

@[simp] theorem lanesToShadow_sameStore (s : State) : SameStore s (lanesToShadow s) := by
  simp [lanesToShadow]

@[simp] theorem beginResync_sameStore (k : Nat) (s : State) : SameStore s (beginResync k s) := by
  simp [beginResync]

@[simp] theorem startResync_sameStore (s : State) : SameStore s (startResync s) := by
  unfold startResync; split <;> simp

@[simp] theorem failResync_sameStore (s : State) : SameStore s (failResync s) := by
  unfold failResync; split <;> simp

@[simp] theorem enterSyncing_sameStore (s : State) : SameStore s (enterSyncing s) := by
  simp [enterSyncing]

@[simp] theorem becomeStale_sameStore (cause : Nat) (s : State) : SameStore s (becomeStale cause s) := by
  unfold becomeStale; repeat' split
  all_goals simp

@[simp] theorem giveUp_sameStore (cause : Nat) (s : State) : SameStore s (giveUp cause s) := by
  unfold giveUp; repeat' split
  all_goals simp

@[simp] theorem watchLanes_sameStore (s : State) : SameStore s (watchLanes s) := by
  unfold watchLanes; split <;> simp

/-! Follow -/

@[simp] theorem followLoop_sameStore (g : Nat) (s : State) : SameStore s (followLoop g s) := by
  unfold followLoop; split <;> simp

@[simp] theorem followLoops_sameStore (s : State) : SameStore s (followLoops s) := by
  simp [followLoops]

@[simp] theorem resumeSweep_sameStore (holds : Bool) (s : State) : SameStore s (resumeSweep holds s) := by
  unfold resumeSweep; repeat' split
  all_goals simp

/-! Registration -/

@[simp] theorem regMatch_sameStore (t g : Nat) (e : Int) (s : State) : SameStore s (regMatch t g e s) := by
  simp only [regMatch]; repeat' split
  all_goals simp

@[simp] theorem regLatch_sameStore (p t : Nat) (x : Int) (s : State) : SameStore s (regLatch p t x s) := by
  simp only [regLatch]; repeat' split
  all_goals simp

@[simp] theorem drainLatch_sameStore (p : Nat) (x : Latch) (s : State) : SameStore s (drainLatch p x s) := by
  simp [drainLatch]

@[simp] theorem drainProbe_sameStore (p : Nat) (s : State) : SameStore s (drainProbe p s) := by
  simp only [drainProbe]; split <;> simp

@[simp] theorem drainProbes_sameStore (s : State) : SameStore s (drainProbes s) := by
  simp [drainProbes]

/-! Sessions -/

@[simp] theorem muteSession_sameStore (k : Nat) (s : State) : SameStore s (muteSession k s) := by
  simp [muteSession]

@[simp] theorem closeSession_sameStore (k reason : Nat) (s : State) : SameStore s (closeSession k reason s) := by
  unfold closeSession; split <;> simp

@[simp] theorem closeWhere_sameStore (p : Session → Bool) (reason : Nat) (s : State) : SameStore s (closeWhere p reason s) := by
  simp [closeWhere]

@[simp] theorem dropShared_sameStore (s : State) : SameStore s (dropShared s) := by
  unfold dropShared; split <;> simp

@[simp] theorem setPtp_sameStore (x : Ptp) (s : State) : SameStore s (setPtp x s) := by
  unfold setPtp; split <;> simp

@[simp] theorem ptpFollow_sameStore (s : State) : SameStore s (ptpFollow s) := by
  unfold ptpFollow; repeat' split
  all_goals simp

/-! Flags -/

@[simp] theorem sendVector_sameStore (v : Nat) (s : State) : SameStore s (sendVector v s) := by
  unfold sendVector; split <;> simp

@[simp] theorem signalTarget_sameStore (t : Nat) (s : State) : SameStore s (signalTarget t s) := by
  simp only [signalTarget]; repeat' split
  all_goals simp

@[simp] theorem sampleLevels_sameStore (s : State) : SameStore s (sampleLevels s) := by
  simp [sampleLevels]

@[simp] theorem driveIrqPin_sameStore (s : State) : SameStore s (driveIrqPin s) := by
  simp [driveIrqPin]

@[simp] theorem drivePulses_sameStore (s : State) : SameStore s (drivePulses s) := by
  unfold drivePulses; split <;> simp

@[simp] theorem drivePins_sameStore (s : State) : SameStore s (drivePins s) := by
  simp [drivePins]

@[simp] theorem tellCauses_sameStore (s : State) : SameStore s (tellCauses s) := by
  unfold tellCauses; repeat' split
  all_goals simp

@[simp] theorem settleIrq_sameStore (s : State) : SameStore s (settleIrq s) := by
  simp [settleIrq]

@[simp] theorem holdAlign_sameStore (s : State) : SameStore s (holdAlign s) := by
  unfold holdAlign; repeat' split
  all_goals simp

@[simp] theorem settle_sameStore (s : State) : SameStore s (settle s) := by
  simp [settle]

@[simp] theorem onBar_sameStore (f : State → State) (hf : ∀ s, SameStore s (f s)) (s : State) : SameStore s (onBar f s) := by
  unfold onBar; split <;> simp [hf]

/-! Interrupts -/

@[simp] theorem stackFault_sameStore (t kind offered : Nat) (s : State) : SameStore s (stackFault t kind offered s) := by
  simp only [stackFault]; split <;> simp

@[simp] theorem resignal_sameStore (t : Nat) (s : State) : SameStore s (resignal t s) := by
  simp [resignal]

@[simp] theorem claimPush_sameStore (t src : Nat) (s : State) : SameStore s (claimPush t src s) := by
  simp [claimPush]

@[simp] theorem doIcClaim_sameStore (t src : Nat) (s : State) : SameStore s (doIcClaim t src s) := by
  simp only [doIcClaim]; repeat' split
  all_goals simp

@[simp] theorem endService_sameStore (t src : Nat) (s : State) : SameStore s (endService t src s) := by
  unfold endService; split <;> simp

@[simp] theorem doIcComplete_sameStore (t src : Nat) (s : State) : SameStore s (doIcComplete t src s) := by
  unfold doIcComplete; repeat' split
  all_goals simp

@[simp] theorem doIcPendClear_sameStore (i : Nat) (v : Nat) (s : State) : SameStore s (doIcPendClear i v s) := by
  simp [doIcPendClear]

@[simp] theorem icVanished_sameStore (t : Nat) (s : State) : SameStore s (icVanished t s) := by
  simp [icVanished]

@[simp] theorem icFaultClear_sameStore (v : Nat) (s : State) : SameStore s (icFaultClear v s) := by
  simp [icFaultClear]

@[simp] theorem icMode_sameStore (v : Nat) (s : State) : SameStore s (icMode v s) := by
  simp [icMode]

@[simp] theorem closeWindow_sameStore (n : Nat) (s : State) : SameStore s (closeWindow n s) := by
  unfold closeWindow; split <;> simp

/-! Crc -/

@[simp] theorem crcCfg_sameStore (n v : Nat) (s : State) : SameStore s (crcCfg n v s) := by
  simp only [crcCfg]; split <;> simp

@[simp] theorem crcVal_sameStore (n v : Nat) (s : State) : SameStore s (crcVal n v s) := by
  simp only [crcVal]; split <;> simp

@[simp] theorem crcAlive_sameStore (n v : Nat) (s : State) : SameStore s (crcAlive n v s) := by
  simp [crcAlive]

@[simp] theorem crcDefault_sameStore (n : Nat) (s : State) : SameStore s (crcDefault n s) := by
  simp [crcDefault]

@[simp] theorem crcDefaults_sameStore (s : State) : SameStore s (crcDefaults s) := by
  simp [crcDefaults]

@[simp] theorem crcData_sameStore (n : Nat) (bs : Bytes) (s : State) : SameStore s (crcData n bs s) := by
  simp only [crcData]; split <;> simp

@[simp] theorem crcStat_sameStore (n : Nat) (s : State) : SameStore s (crcStat n s) := by
  simp [crcStat]

/-! Lines -/

@[simp] theorem raiseBlank_sameStore (code source : Nat) (arg : Bytes) (s : State) : SameStore s (raiseBlank code source arg s) := by
  unfold raiseBlank; split <;> simp

@[simp] theorem predictorLost_sameStore (s : State) : SameStore s (predictorLost s) := by
  simp [predictorLost]

@[simp] theorem swapAt_sameStore (m g : Nat) (s : State) : SameStore s (swapAt m g s) := by
  simp only [swapAt]; repeat' split
  all_goals simp

@[simp] theorem switchAt_sameStore (m g : Nat) (s : State) : SameStore s (switchAt m g s) := by
  unfold switchAt; repeat' split
  all_goals simp

@[simp] theorem activateAt_sameStore (m : Nat) (s : State) : SameStore s (activateAt m s) := by
  unfold activateAt; repeat' split
  all_goals simp

@[simp] theorem decideCaption_sameStore (g : Nat) (qi : Nat × Nat) (s : State) : SameStore s (decideCaption g qi s) := by
  simp only [decideCaption]; repeat' split
  all_goals simp

@[simp] theorem finishCaption_sameStore (p : Plan) (g : Nat) (qi : Nat × Nat) (s : State) : SameStore s (finishCaption p g qi s) := by
  simp only [finishCaption]; split <;> simp

@[simp] theorem leavePlan_sameStore (y : Line) (p : Plan) (s : State) : SameStore s (leavePlan y p s) := by
  simp [leavePlan]

@[simp] theorem runout_sameStore (g n : Nat) (s : State) : SameStore s (runout g n s) := by
  unfold runout; repeat' split
  all_goals simp

@[simp] theorem countLadder_sameStore (g n : Nat) (y : Line) (s : State) : SameStore s (countLadder g n y s) := by
  simp only [countLadder]; repeat' split
  all_goals simp

@[simp] theorem noteLost_sameStore (g : Nat) (id : Nat) (s : State) : SameStore s (noteLost g id s) := by
  simp only [noteLost]; repeat' split
  all_goals simp

@[simp] theorem startLine_sameStore (g n : Nat) (s : State) : SameStore s (startLine g n s) := by
  simp only [startLine]; repeat' split
  all_goals simp

@[simp] theorem startAt_sameStore (m g : Nat) (s : State) : SameStore s (startAt m g s) := by
  simp only [startAt]; split <;> simp

@[simp] theorem noteDeadline_sameStore (m g : Nat) (s : State) : SameStore s (noteDeadline m g s) := by
  simp [noteDeadline]

@[simp] theorem masterTick_sameStore (t : Nat) (s : State) : SameStore s (masterTick t s) := by
  simp [masterTick]

/-! Handover -/

@[simp] theorem sendYield_sameStore (l line : Nat) (s : State) : SameStore s (sendYield l line s) := by
  simp [sendYield]

@[simp] theorem finishYield_sameStore (h : HandPlan) (s : State) : SameStore s (finishYield h s) := by
  simp only [finishYield]; split <;> simp

@[simp] theorem yieldSent_sameStore (l : Nat) (s : State) : SameStore s (yieldSent l s) := by
  simp only [yieldSent]; repeat' split
  all_goals simp

@[simp] theorem yieldLane_sameStore (l : Nat) (s : State) : SameStore s (yieldLane l s) := by
  unfold yieldLane; repeat' split
  all_goals simp

@[simp] theorem handConfirmed_sameStore (h : HandPlan) (s : State) : SameStore s (handConfirmed h s) := by
  simp only [handConfirmed]; split <;> simp

@[simp] theorem handRefused_sameStore (h : HandPlan) (s : State) : SameStore s (handRefused h s) := by
  simp [handRefused]

/-! Frames -/

@[simp] theorem leftPlan_sameStore (g : Nat) (y : Line) (x : Option Plan) (s : State) : SameStore s (leftPlan g y x s) := by
  unfold leftPlan; repeat' split
  all_goals simp

@[simp] theorem finishCaptions_sameStore (g : Nat) (y : Line) (s : State) : SameStore s (finishCaptions g y s) := by
  simp only [finishCaptions]; split <;> simp

@[simp] theorem lineLate_sameStore (g : Nat) (y : Line) (s : State) : SameStore s (lineLate g y s) := by
  unfold lineLate; split <;> simp

@[simp] theorem judgeDigest_sameStore (g n : Nat) (same : Bool) (s : State) : SameStore s (judgeDigest g n same s) := by
  simp only [judgeDigest]; repeat' split
  all_goals simp

@[simp] theorem compareDigest_sameStore (g : Nat) (y : Line) (bytes : Bytes) (s : State) : SameStore s (compareDigest g y bytes s) := by
  simp only [compareDigest]; repeat' split
  all_goals simp

@[simp] theorem pathEcc_sameStore (g structure_ line : Nat) (s : State) : SameStore s (pathEcc g structure_ line s) := by
  unfold pathEcc; split <;> simp

@[simp] theorem tableError_sameStore (g : Nat) (y : Line) (s : State) : SameStore s (tableError g y s) := by
  simp [tableError]

@[simp] theorem spareError_sameStore (g : Nat) (y : Line) (s : State) : SameStore s (spareError g y s) := by
  simp only [spareError]; repeat' split
  all_goals simp

@[simp] theorem pathBlank_sameStore (g : Nat) (y : Line) (s : State) : SameStore s (pathBlank g y s) := by
  unfold pathBlank; split <;> simp

@[simp] theorem applyEcc_sameStore (g : Nat) (y : Line) (obs : EccObs) (s : State) : SameStore s (applyEcc g y obs s) := by
  unfold applyEcc; split <;> simp

@[simp] theorem noteClamped_sameStore (g n : Nat) (s : State) : SameStore s (noteClamped g n s) := by
  unfold noteClamped; split <;> simp

@[simp] theorem doLineComplete_sameStore (g n : Nat) (obs : EccObs) (s : State) : SameStore s (doLineComplete g n obs s) := by
  unfold doLineComplete; repeat' split
  all_goals simp

@[simp] theorem doDataLate_sameStore (g n : Nat) (s : State) : SameStore s (doDataLate g n s) := by
  unfold doDataLate; repeat' split
  all_goals simp

@[simp] theorem fireBay_sameStore (g b : Nat) (y : Line) (fire : Int) (blank : Bool) (s : State) : SameStore s (fireBay g b y fire blank s) := by
  simp only [fireBay]; repeat' split
  all_goals simp

@[simp] theorem fixLine_sameStore (g : Nat) (y : Line) (s : State) : SameStore s (fixLine g y s) := by
  unfold fixLine; repeat' split
  all_goals simp

@[simp] theorem sendDigest_sameStore (g : Nat) (y : Line) (s : State) : SameStore s (sendDigest g y s) := by
  unfold sendDigest; split <;> simp

@[simp] theorem startFrame_sameStore (l : Nat) (y : Line) (s : State) : SameStore s (startFrame l y s) := by
  simp only [startFrame]; repeat' split
  all_goals simp

@[simp] theorem readRing_sameStore (l : Nat) (y : Line) (ring : EccObs) (s : State) : SameStore s (readRing l y ring s) := by
  unfold readRing; split <;> simp

@[simp] theorem shadowLine_sameStore (l : Nat) (y : Line) (s : State) : SameStore s (shadowLine l y s) := by
  simp only [shadowLine]; repeat' split
  all_goals simp

@[simp] theorem doLineFrame_sameStore (l n : Nat) (ring : EccObs) (s : State) : SameStore s (doLineFrame l n ring s) := by
  simp only [doLineFrame]; repeat' split
  all_goals simp

@[simp] theorem sendTime_sameStore (l : Nat) (s : State) : SameStore s (sendTime l s) := by
  simp [sendTime]

@[simp] theorem doFrameSent_sameStore (l : Nat) (s : State) : SameStore s (doFrameSent l s) := by
  simp only [doFrameSent]; repeat' split
  all_goals simp

@[simp] theorem doTimePeriodic_sameStore (l : Nat) (s : State) : SameStore s (doTimePeriodic l s) := by
  unfold doTimePeriodic; split <;> simp

@[simp] theorem doTickOverdue_sameStore (s : State) : SameStore s (doTickOverdue s) := by
  unfold doTickOverdue; split <;> simp

@[simp] theorem writePrintRecord_sameStore (g : Nat) (y : Line) (s : State) : SameStore s (writePrintRecord g y s) := by
  simp [writePrintRecord]

@[simp] theorem doPrintRecord_sameStore (g n : Nat) (s : State) : SameStore s (doPrintRecord g n s) := by
  unfold doPrintRecord; repeat' split
  all_goals simp

/-! Thermal -/

@[simp] theorem raiseThermal_sameStore (id : Nat) (old new : SensState) (t : Int) (s : State) : SameStore s (raiseThermal id old new t s) := by
  simp [raiseThermal]

@[simp] theorem thermalAction_sameStore (id : Nat) (new : SensState) (s : State) : SameStore s (thermalAction id new s) := by
  unfold thermalAction; repeat' split
  all_goals simp

@[simp] theorem sampleSensor_sameStore (id : Nat) (t : Int) (s : State) : SameStore s (sampleSensor id t s) := by
  simp only [sampleSensor]; repeat' split
  all_goals simp

@[simp] theorem forgetSensor_sameStore (id : Nat) (s : State) : SameStore s (forgetSensor id s) := by
  simp [forgetSensor]

@[simp] theorem failDie_sameStore (d : Nat) (t : Int) (s : State) : SameStore s (failDie d t s) := by
  simp only [failDie]; repeat' split
  all_goals simp

@[simp] theorem recoverDie_sameStore (d : Nat) (t : Int) (s : State) : SameStore s (recoverDie d t s) := by
  simp only [recoverDie]; split <;> simp

@[simp] theorem convertDie_sameStore (d : Nat) (t : Int) (s : State) : SameStore s (convertDie d t s) := by
  unfold convertDie; repeat' split
  all_goals simp

@[simp] theorem setFactor_sameStore (s : State) : SameStore s (setFactor s) := by
  simp only [setFactor]; repeat' split
  all_goals simp

@[simp] theorem doDieSample_sameStore (readings : List (Option Int)) (s : State) : SameStore s (doDieSample readings s) := by
  unfold doDieSample; split
  · simp
  · simp only [SameStore, setFactor_sameStore]
    refine forEach_sameStore (fun d s => ?_) _ _
    split <;> simp

@[simp] theorem doDieSilent_sameStore (d : Nat) (s : State) : SameStore s (doDieSilent d s) := by
  unfold doDieSilent; split <;> simp

/-! Lanes -/

@[simp] theorem setTrain_sameStore (k : Nat) (t : Training) (s : State) : SameStore s (setTrain k t s) := by
  simp [setTrain]

@[simp] theorem sendTrain_sameStore (k st value preset : Nat) (s : State) : SameStore s (sendTrain k st value preset s) := by
  simp [sendTrain]

@[simp] theorem sendBays_sameStore (l : Nat) (s : State) : SameStore s (sendBays l s) := by
  unfold sendBays; split <;> simp

@[simp] theorem raiseCold_sameStore (b : Nat) (t : Option Int) (s : State) : SameStore s (raiseCold b t s) := by
  unfold raiseCold; split <;> simp

@[simp] theorem enterCold_sameStore (b : Nat) (t : Option Int) (s : State) : SameStore s (enterCold b t s) := by
  simp only [enterCold]; split <;> simp

@[simp] theorem endRetrains_sameStore (l : Nat) (st : LState) (result : Nat) (s : State) : SameStore s (endRetrains l st result s) := by
  simp [endRetrains]

@[simp] theorem failWaveLoads_sameStore (cs : List Ctrl) (code : Nat) (s : State) : SameStore s (failWaveLoads cs code s) := by
  simp only [failWaveLoads]
  refine forEach_sameStore (fun c s => ?_) _ _
  split <;> simp

@[simp] theorem startDetect_sameStore (k : Nat) (s : State) : SameStore s (startDetect k s) := by
  simp [startDetect]

@[simp] theorem enterFailed_sameStore (k last cause : Nat) (s : State) : SameStore s (enterFailed k last cause s) := by
  unfold enterFailed; split <;> simp

@[simp] theorem disableLane_sameStore (k : Nat) (hold : Bool) (s : State) : SameStore s (disableLane k hold s) := by
  simp [disableLane]

@[simp] theorem raiseLaneUp_sameStore (l : Nat) (s : State) : SameStore s (raiseLaneUp l s) := by
  simp [raiseLaneUp]

@[simp] theorem cutFrame_sameStore (l : Nat) (s : State) : SameStore s (cutFrame l s) := by
  unfold cutFrame; repeat' split
  all_goals simp

@[simp] theorem spoilShots_sameStore (p : Shot → Bool) (s : State) : SameStore s (spoilShots p s) := by
  unfold spoilShots; split <;> simp

@[simp] theorem barLines_sameStore (l : Nat) (p : Line → Bool) (s : State) : SameStore s (barLines l p s) := by
  simp [barLines]

@[simp] theorem leaveRun_sameStore (l : Nat) (s : State) : SameStore s (leaveRun l s) := by
  simp [leaveRun]

@[simp] theorem laneDown_sameStore (l cause : Nat) (s : State) : SameStore s (laneDown l cause s) := by
  simp only [laneDown]; repeat' split
  all_goals simp

@[simp] theorem pairLaneDown_sameStore (k : Nat) (s : State) : SameStore s (pairLaneDown k s) := by
  simp only [pairLaneDown]; repeat' split
  all_goals simp

@[simp] theorem linkDown_sameStore (k cause : Nat) (s : State) : SameStore s (linkDown k cause s) := by
  unfold linkDown; split <;> simp

@[simp] theorem readHead_sameStore (b addr n : Nat) (s : State) : SameStore s (readHead b addr n s) := by
  simp [readHead]

@[simp] theorem coldBays_sameStore (l : Nat) (s : State) : SameStore s (coldBays l s) := by
  simp [coldBays]

@[simp] theorem barPassed_sameStore (l : Nat) (s : State) : SameStore s (barPassed l s) := by
  simp [barPassed]

@[simp] theorem enterRun_sameStore (l : Nat) (s : State) : SameStore s (enterRun l s) := by
  simp [enterRun]

@[simp] theorem writeWaveMap_sameStore (l : Nat) (s : State) : SameStore s (writeWaveMap l s) := by
  unfold writeWaveMap; split <;> simp

@[simp] theorem writeModule_sameStore (l : Nat) (s : State) : SameStore s (writeModule l s) := by
  simp only [writeModule]; split <;> simp

@[simp] theorem queueSyncs_sameStore (l n : Nat) (s : State) : SameStore s (queueSyncs l n s) := by
  simp [queueSyncs]

@[simp] theorem finishSetup_sameStore (l : Nat) (s : State) : SameStore s (finishSetup l s) := by
  simp [finishSetup]

@[simp] theorem configureLane_sameStore (l : Nat) (s : State) : SameStore s (configureLane l s) := by
  unfold configureLane; split <;> simp

@[simp] theorem enterPairRun_sameStore (k : Nat) (s : State) : SameStore s (enterPairRun k s) := by
  simp only [enterPairRun]; repeat' split
  all_goals simp

@[simp] theorem linkUp_sameStore (k : Nat) (s : State) : SameStore s (linkUp k s) := by
  unfold linkUp; split <;> simp

@[simp] theorem placeLane_sameStore (l : Nat) (s : State) : SameStore s (placeLane l s) := by
  simp only [placeLane]; repeat' split
  all_goals simp

@[simp] theorem placePairLane_sameStore (k : Nat) (s : State) : SameStore s (placePairLane k s) := by
  simp only [placePairLane]; repeat' split
  all_goals simp

@[simp] theorem placeLanes_sameStore (s : State) : SameStore s (placeLanes s) := by
  unfold placeLanes; split <;> simp

@[simp] theorem checkVerify_sameStore (k : Nat) (s : State) : SameStore s (checkVerify k s) := by
  simp only [checkVerify]; split <;> simp

@[simp] theorem checkEqualised_sameStore (k : Nat) (s : State) : SameStore s (checkEqualised k s) := by
  simp only [checkEqualised]; split <;> simp

@[simp] theorem checkAligned_sameStore (k : Nat) (s : State) : SameStore s (checkAligned k s) := by
  simp only [checkAligned]; split <;> simp

@[simp] theorem doTrain_sameStore (k : Nat) (localOk : Bool) (st value request : Nat) (s : State) : SameStore s (doTrain k localOk st value request s) := by
  simp only [doTrain]; repeat' split
  all_goals simp

@[simp] theorem doEqStep_sameStore (k fom : Nat) (s : State) : SameStore s (doEqStep k fom s) := by
  simp only [doEqStep]; repeat' split
  all_goals simp

@[simp] theorem doVerifyEnd_sameStore (k errors : Nat) (s : State) : SameStore s (doVerifyEnd k errors s) := by
  simp only [doVerifyEnd]; split <;> simp

@[simp] theorem doDetect_sameStore (k : Nat) (s : State) : SameStore s (doDetect k s) := by
  simp only [doDetect]; split <;> simp

@[simp] theorem doTrainTimeout_sameStore (k : Nat) (s : State) : SameStore s (doTrainTimeout k s) := by
  simp only [doTrainTimeout]; repeat' split
  all_goals simp

@[simp] theorem doAutoRetrain_sameStore (k : Nat) (s : State) : SameStore s (doAutoRetrain k s) := by
  simp only [doAutoRetrain]; split <;> simp

@[simp] theorem noteMargin_sameStore (l fom side : Nat) (was : Bool) (s : State) : SameStore s (noteMargin l fom side was s) := by
  unfold noteMargin; split <;> simp

@[simp] theorem doFom_sameStore (l fom : Nat) (s : State) : SameStore s (doFom l fom s) := by
  unfold doFom; split <;> simp

@[simp] theorem doCodeErrors_sameStore (k : Nat) (groups : List (BitVec 10)) (inFrame positive : Bool) (s : State) : SameStore s (doCodeErrors k groups inFrame positive s) := by
  unfold doCodeErrors; split <;> simp

@[simp] theorem doBadRun_sameStore (k : Nat) (s : State) : SameStore s (doBadRun k s) := by
  unfold doBadRun; split <;> simp

@[simp] theorem doUpstreamSilent_sameStore (l : Nat) (s : State) : SameStore s (doUpstreamSilent l s) := by
  unfold doUpstreamSilent; split <;> simp

@[simp] theorem doUnanswered_sameStore (l : Nat) (s : State) : SameStore s (doUnanswered l s) := by
  unfold doUnanswered; repeat' split
  all_goals simp

@[simp] theorem doSyncDue_sameStore (l : Nat) (s : State) : SameStore s (doSyncDue l s) := by
  simp only [doSyncDue]; split <;> simp

@[simp] theorem doStatusMissing_sameStore (b : Nat) (s : State) : SameStore s (doStatusMissing b s) := by
  simp only [doStatusMissing]; split <;> simp

@[simp] theorem retrain_sameStore (l k : Nat) (s : State) : SameStore s (retrain l k s) := by
  simp only [retrain]; repeat' split
  all_goals simp

@[simp] theorem writeTestMode_sameStore (l : Nat) (s : State) : SameStore s (writeTestMode l s) := by
  simp only [writeTestMode]; repeat' split
  all_goals simp

@[simp] theorem doPrbsLock_sameStore (l errors : Nat) (s : State) : SameStore s (doPrbsLock l errors s) := by
  simp only [doPrbsLock]; repeat' split
  all_goals simp

@[simp] theorem writeInject_sameStore (l old : Nat) (s : State) : SameStore s (writeInject l old s) := by
  simp only [writeInject]; split <;> simp

/-! Upstream -/

@[simp] theorem badFrame_sameStore (l : Nat) (s : State) : SameStore s (badFrame l s) := by
  simp [badFrame]

@[simp] theorem countBad_sameStore (l : Nat) (s : State) : SameStore s (countBad l s) := by
  simp [countBad]

@[simp] theorem acceptAlive_sameStore (l a n : Nat) (s : State) : SameStore s (acceptAlive l a n s) := by
  unfold acceptAlive; split <;> simp

@[simp] theorem receive_sameStore (l type : Nat) (bs : Bytes) (s : State) : SameStore s (receive l type bs s).2 := by
  simp only [receive]; repeat' split
  all_goals simp

@[simp] theorem heard_sameStore (l : Nat) (s : State) : SameStore s (heard l s) := by
  simp [heard]

@[simp] theorem onFrame_sameStore (l type : Nat) (bs : Bytes) (f : Bytes → State → State) (hf : ∀ x s, SameStore s (f x s)) (s : State) : SameStore s (onFrame l type bs f s) := by
  simp only [onFrame]; split <;> simp [hf]

@[simp] theorem updateBand_sameStore (b : Nat) (t : Int) (s : State) : SameStore s (updateBand b t s) := by
  simp only [updateBand]; split <;> simp

@[simp] theorem updateTrim_sameStore (b : Nat) (t : Int) (v : Nat) (s : State) : SameStore s (updateTrim b t v s) := by
  simp only [updateTrim]; split <;> simp

@[simp] theorem updateCold_sameStore (b : Nat) (t : Int) (s : State) : SameStore s (updateCold b t s) := by
  simp only [updateCold]; repeat' split
  all_goals simp

@[simp] theorem statusBay_sameStore (p : Bytes) (b i : Nat) (s : State) : SameStore s (statusBay p b i s) := by
  simp [statusBay]

@[simp] theorem noteModuleLost_sameStore (l : Nat) (before : Option Nat) (lost : Nat) (s : State) : SameStore s (noteModuleLost l before lost s) := by
  unfold noteModuleLost; repeat' split
  all_goals simp

@[simp] theorem doStatus_sameStore (l : Nat) (p : Bytes) (s : State) : SameStore s (doStatus l p s) := by
  simp only [doStatus]; repeat' split
  all_goals simp

@[simp] theorem doStatusFrame_sameStore (l : Nat) (bs : Bytes) (s : State) : SameStore s (doStatusFrame l bs s) := by
  simp only [doStatusFrame]; split <;> simp

@[simp] theorem doFault_sameStore (l line : Nat) (p : Bytes) (s : State) : SameStore s (doFault l line p s) := by
  simp only [doFault]; split <;> simp

@[simp] theorem faultShot_sameStore (l line : Nat) (s : State) : SameStore s (faultShot l line s) := by
  unfold faultShot; split <;> simp

@[simp] theorem doDelayResp_sameStore (l : Nat) (p : Bytes) (s : State) : SameStore s (doDelayResp l p s) := by
  simp only [doDelayResp]; repeat' split
  all_goals simp

@[simp] theorem raiseIdInvalid_sameStore (b reason : Nat) (s : State) : SameStore s (raiseIdInvalid b reason s) := by
  simp [raiseIdInvalid]

@[simp] theorem failIdentity_sameStore (b fault : Nat) (r : Bytes) (s : State) : SameStore s (failIdentity b fault r s) := by
  simp only [failIdentity]; split <;> simp

@[simp] theorem takeCoefficients_sameStore (b : Nat) (r : Bytes) (s : State) : SameStore s (takeCoefficients b r s) := by
  simp [takeCoefficients]

@[simp] theorem acceptIdentity_sameStore (b : Nat) (r : Bytes) (s : State) : SameStore s (acceptIdentity b r s) := by
  simp only [acceptIdentity]; split <;> simp

@[simp] theorem finishExtension_sameStore (b : Nat) (bs : Bytes) (s : State) : SameStore s (finishExtension b bs s) := by
  simp [finishExtension]

@[simp] theorem readExtension_sameStore (b : Nat) (s : State) : SameStore s (readExtension b s) := by
  simp only [readExtension]; split <;> simp

@[simp] theorem doIdentity_sameStore (b address : Nat) (p : Bytes) (s : State) : SameStore s (doIdentity b address p s) := by
  simp only [doIdentity]; repeat' split
  all_goals simp

@[simp] theorem answerReg_sameStore (result : Nat) (data : Bytes) (s : State) : SameStore s (answerReg result data s) := by
  unfold answerReg; split <;> simp

@[simp] theorem doIdData_sameStore (l : Nat) (p : Bytes) (s : State) : SameStore s (doIdData l p s) := by
  unfold doIdData; repeat' split
  all_goals simp

@[simp] theorem capsRead_sameStore (l caps : Nat) (s : State) : SameStore s (capsRead l caps s) := by
  unfold capsRead; split <;> simp

@[simp] theorem doCtrlData_sameStore (l : Nat) (p : Bytes) (s : State) : SameStore s (doCtrlData l p s) := by
  unfold doCtrlData; split
  · simp
  · dsimp only
    repeat' split
    all_goals simp

@[simp] theorem sendWave_sameStore (k o : Nat) (s : State) : SameStore s (sendWave k o s) := by
  simp only [sendWave]; repeat' split
  all_goals simp

@[simp] theorem waveAcked_sameStore (k o result : Nat) (s : State) : SameStore s (waveAcked k o result s) := by
  simp only [waveAcked]; repeat' split
  all_goals simp

@[simp] theorem doCtrlAck_sameStore (l : Nat) (p : Bytes) (s : State) : SameStore s (doCtrlAck l p s) := by
  unfold doCtrlAck; repeat' split
  all_goals simp

@[simp] theorem resend_sameStore (l : Nat) (c : Ctrl) (x : Lane) (s : State) : SameStore s (resend l c x s) := by
  simp [resend]

@[simp] theorem ctrlTimeout_sameStore (l : Nat) (c : Ctrl) (s : State) : SameStore s (ctrlTimeout l c s) := by
  simp only [ctrlTimeout]; repeat' split
  all_goals simp

@[simp] theorem doCtrlRetry_sameStore (l tag : Nat) (s : State) : SameStore s (doCtrlRetry l tag s) := by
  unfold doCtrlRetry; repeat' split
  all_goals simp

@[simp] theorem doIdRetry_sameStore (l tag : Nat) (s : State) : SameStore s (doIdRetry l tag s) := by
  unfold doIdRetry; repeat' split
  all_goals simp

/-! Plans -/

@[simp] theorem noteBudget_sameStore (data : Bytes) (s : State) : SameStore s (noteBudget data s) := by
  unfold noteBudget; split <;> simp

@[simp] theorem armPlanNow_sameStore (data : Bytes) (s : State) : SameStore s (armPlanNow data s) := by
  simp [armPlanNow]

@[simp] theorem disarm_sameStore (s : State) : SameStore s (disarm s) := by
  simp [disarm]

@[simp] theorem storeBatch_sameStore (q : Nat) (bs : Bytes) (s : State) : SameStore s (storeBatch q bs s) := by
  simp [storeBatch]

@[simp] theorem finishEnqueue_sameStore (k : Nat) (s : State) : SameStore s (finishEnqueue k s) := by
  simp only [finishEnqueue]; split <;> simp

@[simp] theorem queueChanged_sameStore (q old new : Nat) (s : State) : SameStore s (queueChanged q old new s) := by
  unfold queueChanged; split <;> simp

/-! Nozzle -/

@[simp] theorem setSpare_sameStore (g : Nat) (st : SpareState) (s : State) : SameStore s (setSpare g st s) := by
  simp [setSpare]

@[simp] theorem beginLoad_sameStore (g : Nat) (s : State) : SameStore s (beginLoad g s) := by
  simp [beginLoad]

@[simp] theorem finishLoad_sameStore (k : Nat) (obs : SliceObs) (s : State) : SameStore s (finishLoad k obs s) := by
  unfold finishLoad; split <;> simp

@[simp] theorem editTable_sameStore (g : Nat) (data : Bytes) (s : State) : SameStore s (editTable g data s) := by
  simp [editTable]

@[simp] theorem armSwap_sameStore (g line owner : Nat) (s : State) : SameStore s (armSwap g line owner s) := by
  simp [armSwap]

@[simp] theorem cancelSwap_sameStore (g : Nat) (s : State) : SameStore s (cancelSwap g s) := by
  simp [cancelSwap]

@[simp] theorem loadThreshold_sameStore (g id : Nat) (s : State) : SameStore s (loadThreshold g id s) := by
  unfold loadThreshold; split <;> simp

/-! Reserve -/

@[simp] theorem noteReserve_sameStore (s : State) : SameStore s (noteReserve s) := by
  unfold noteReserve; simp

@[simp] theorem dropDirect_sameStore (id : Nat) (s : State) : SameStore s (dropDirect id s) := by
  simp [dropDirect]

@[simp] theorem accessionFailed_sameStore (id code route : Nat) (s : State) : SameStore s (accessionFailed id code route s) := by
  simp [accessionFailed]

@[simp] theorem purgeOne_sameStore (id : Nat) (s : State) : SameStore s (purgeOne id s) := by
  simp [purgeOne]

@[simp] theorem finishPurge_sameStore (k : Nat) (s : State) : SameStore s (finishPurge k s) := by
  simp only [finishPurge]; repeat' split
  all_goals simp

/-! Prov -/

@[simp] theorem provControl_sameStore (r v : Nat) (s : State) : SameStore s (provControl r v s) := by
  simp only [provControl]; split <;> simp

/-! Accession -/

@[simp] theorem setAccRing_sameStore (r : Nat) (x : Ring) (s : State) : SameStore s (setAccRing r x s) := by
  simp [setAccRing]

@[simp] theorem setEgrRing_sameStore (e : Nat) (x : Ring) (s : State) : SameStore s (setEgrRing e x s) := by
  simp [setEgrRing]

@[simp] theorem completeDescs_sameStore (r base i size result id : Nat) (ds : List Desc) (s : State) :
    SameStore s (completeDescs r base i size result id ds s) := by
  induction ds generalizing i s with
  | nil => simp [completeDescs]
  | cons d ds ih => simp [completeDescs, ih]

@[simp] theorem flushChains_sameStore (r : Nat) (cs : List Chain) (s : State) : SameStore s (flushChains r cs s) := by
  induction cs generalizing s with
  | nil => simp [flushChains]
  | cons c cs ih =>
    unfold flushChains; repeat' split
    all_goals simp [ih]

@[simp] theorem flushRing_sameStore (r : Nat) (s : State) : SameStore s (flushRing r s) := by
  simp [flushRing]

@[simp] theorem haltAcc_sameStore (r code : Nat) (s : State) : SameStore s (haltAcc r code s) := by
  simp [haltAcc]

@[simp] theorem addChain_sameStore (r : Nat) (c : Chain) (s : State) : SameStore s (addChain r c s) := by
  simp [addChain]

@[simp] theorem chainResult_sameStore (r id code : Nat) (s : State) : SameStore s (chainResult r id code s) := by
  simp [chainResult]

@[simp] theorem reportResult_sameStore (f : Flight) (code : Nat) (s : State) : SameStore s (reportResult f code s) := by
  unfold reportResult; repeat' split
  all_goals simp

@[simp] theorem putFlight_sameStore (f : Flight) (s : State) : SameStore s (putFlight f s) := by
  simp [putFlight]

@[simp] theorem passUnit_sameStore (s : State) : SameStore s (passUnit s) := by
  unfold passUnit; split <;> simp

@[simp] theorem dropFlight_sameStore (id : Nat) (s : State) : SameStore s (dropFlight id s) := by
  simp [dropFlight]

@[simp] theorem failFlight_sameStore (f : Flight) (code : Nat) (s : State) : SameStore s (failFlight f code s) := by
  simp [failFlight]

@[simp] theorem beginFlight_sameStore (route : Nat) (bs : Bytes) (w o : Nat) (bad : Option Nat) (peer : Option Nat) (s : State) : SameStore s (beginFlight route bs w o bad peer s) := by
  simp only [beginFlight]; split <;> simp

@[simp] theorem takeContainer_sameStore (route : Nat) (bs : Bytes) (w : Nat) (bad peer : Option Nat) (s : State) :
    SameStore s (takeContainer route bs w bad peer s).2 := by
  simp only [takeContainer]; split <;> simp

@[simp] theorem aliveFault_sameStore (n kind last v : Nat) (s : State) : SameStore s (aliveFault n kind last v s) := by
  simp [aliveFault]

@[simp] theorem checkAlive_sameStore (n : Nat) (bs : Bytes) (s : State) : SameStore s (checkAlive n bs s) := by
  simp only [checkAlive]; repeat' split
  all_goals simp

@[simp] theorem takeFromRing_sameStore (r : Nat) (descs : List Desc) (bs : Bytes) (s : State) : SameStore s (takeFromRing r descs bs s) := by
  simp only [takeFromRing]; repeat' split
  all_goals simp

@[simp] theorem doContainerStart_sameStore (src : ContainerSrc) (descs : List Desc) (bs : Bytes) (s : State) : SameStore s (doContainerStart src descs bs s) := by
  simp only [doContainerStart]; repeat' split
  all_goals simp

@[simp] theorem streamFault_sameStore (f : Flight) (n : Nat) (s : State) : SameStore s (streamFault f n s) := by
  simp [streamFault]

@[simp] theorem readFailed_sameStore (r : Nat) (s : State) : SameStore s (readFailed r s) := by
  simp only [readFailed]; repeat' split
  all_goals simp

@[simp] theorem ringWrite_sameStore (ring : RingId) (o v : Nat) (s : State) : SameStore s (ringWrite ring o v s) := by
  unfold ringWrite; split <;> simp

@[simp] theorem openDirect_sameStore (bs : Bytes) (s : State) : SameStore s (openDirect bs s) := by
  simp [openDirect]

@[simp] theorem putDirect_sameStore (g : Seg) (s : State) : SameStore s (putDirect g s) := by
  simp [putDirect]

@[simp] theorem beginDirect_sameStore (id : Nat) (s : State) : SameStore s (beginDirect id s) := by
  unfold beginDirect; repeat' split
  all_goals simp

@[simp] theorem failDirect_sameStore (id code : Nat) (s : State) : SameStore s (failDirect id code s) := by
  simp [failDirect]

@[simp] theorem confirmDirect_sameStore (n code : Nat) (s : State) : SameStore s (confirmDirect n code s) := by
  unfold confirmDirect; split <;> simp

@[simp] theorem doBarRead_sameStore (a n : Nat) (s : State) : SameStore s (doBarRead a n s) := by
  simp only [doBarRead]; split <;> simp

@[simp] theorem holdNetwork_sameStore (bs : Bytes) (s : State) : SameStore s (holdNetwork bs s) := by
  simp [holdNetwork]

/-! Egress -/

@[simp] theorem setEgr_sameStore (e : Nat) (x : Egress) (s : State) : SameStore s (setEgr e x s) := by
  simp [setEgr]

@[simp] theorem dropRecord_sameStore (e kind : Nat) (s : State) : SameStore s (dropRecord e kind s) := by
  simp [dropRecord]

@[simp] theorem queueRecord_sameStore (kind : Nat) (bs : Bytes) (s : State) : SameStore s (queueRecord kind bs s) := by
  simp only [queueRecord]; repeat' split
  all_goals simp

@[simp] theorem egressIrq_sameStore (e : Nat) (d : Desc) (s : State) : SameStore s (egressIrq e d s) := by
  unfold egressIrq; split <;> simp

@[simp] theorem fillBuffers_sameStore (e kind seq : Nat) (lost : Bool) (i : Nat) (first : Bool) (bs : Bytes) (ds : List Desc)
    (s : State) : SameStore s (fillBuffers e kind seq lost i first bs ds s) := by
  induction ds generalizing i first bs s with
  | nil => simp [fillBuffers]
  | cons d ds ih => simp [fillBuffers, ih]

@[simp] theorem faultBuffers_sameStore (e i : Nat) (ds : List Desc) (s : State) : SameStore s (faultBuffers e i ds s) := by
  induction ds generalizing i s with
  | nil => simp [faultBuffers]
  | cons d ds ih => simp [faultBuffers, ih]

@[simp] theorem passHead_sameStore (e n : Nat) (s : State) : SameStore s (passHead e n s) := by
  simp [passHead]

@[simp] theorem recordSent_sameStore (e : Nat) (r : EgressRec) (s : State) : SameStore s (recordSent e r s) := by
  unfold recordSent; split <;> simp

@[simp] theorem flushEgress_sameStore (e : Nat) (s : State) : SameStore s (flushEgress e s) := by
  simp only [flushEgress]; split <;> simp

@[simp] theorem haltEgress_sameStore (e code : Nat) (ds : List Desc) (s : State) : SameStore s (haltEgress e code ds s) := by
  simp [haltEgress]

@[simp] theorem egressReadFailed_sameStore (e : Nat) (s : State) : SameStore s (egressReadFailed e s) := by
  simp only [egressReadFailed]; split <;> simp

@[simp] theorem writeRecord_sameStore (e : Nat) (r : EgressRec) (descs : List Desc) (s : State) : SameStore s (writeRecord e r descs s) := by
  simp only [writeRecord]; split <;> simp

@[simp] theorem doEgressWrite_sameStore (e : Nat) (descs : List Desc) (s : State) : SameStore s (doEgressWrite e descs s) := by
  simp only [doEgressWrite]; repeat' split
  all_goals simp

@[simp] theorem doExport_sameStore (r : Nat) (s : State) : SameStore s (doExport r s) := by
  unfold doExport; split <;> simp

@[simp] theorem takeDeflate_sameStore (k : Nat) (s : State) : SameStore s (takeDeflate k s) := by
  unfold takeDeflate; split <;> simp

@[simp] theorem dropDeflate_sameStore (k : Nat) (s : State) : SameStore s (dropDeflate k s) := by
  simp [dropDeflate]

@[simp] theorem outputFull_sameStore (k cap : Nat) (s : State) : SameStore s (outputFull k cap s) := by
  simp [outputFull]

@[simp] theorem finishBundle_sameStore (k : Nat) (obs : SliceObs) (s : State) : SameStore s (finishBundle k obs s) := by
  simp only [finishBundle]; repeat' split
  all_goals simp

/-! HostPort -/

@[simp] theorem sendHeld_sameStore (s : State) : SameStore s (sendHeld s) := by
  unfold sendHeld; split <;> simp

@[simp] theorem flushRings_sameStore (s : State) : SameStore s (flushRings s) := by
  simp [flushRings]

@[simp] theorem doConfigWrite_sameStore (bme : Option Bool) (power : Option PowerWrite) (other : Option ConfigWrite) (s : State) : SameStore s (doConfigWrite bme power other s) := by
  unfold doConfigWrite; split <;> simp

@[simp] theorem doHostLink_sameStore (speed width : Nat) (l2 : Bool) (s : State) : SameStore s (doHostLink speed width l2 s) := by
  unfold doHostLink; split <;> simp

@[simp] theorem doReadFailed_sameStore (ring : RingId) (s : State) : SameStore s (doReadFailed ring s) := by
  unfold doReadFailed; split <;> simp

@[simp] theorem doCompletionTimeout_sameStore (ring : RingId) (s : State) : SameStore s (doCompletionTimeout ring s) := by
  unfold doCompletionTimeout; split <;> simp

@[simp] theorem muteMailbox_sameStore (s : State) : SameStore s (muteMailbox s) := by
  simp [muteMailbox]

@[simp] theorem dropRings_sameStore (s : State) : SameStore s (dropRings s) := by
  simp [dropRings]

@[simp] theorem resetBar_sameStore (s : State) : SameStore s (resetBar s) := by
  simp [resetBar]

@[simp] theorem resetPort_sameStore (cause : Nat) (s : State) : SameStore s (resetPort cause s) := by
  simp [resetPort]

@[simp] theorem doHostPortReset_sameStore (cause : Nat) (s : State) : SameStore s (doHostPortReset cause s) := by
  simp [doHostPortReset]

@[simp] theorem snapWrite_sameStore (v : Nat) (s : State) : SameStore s (snapWrite v s) := by
  unfold snapWrite; split <;> simp

/-! Archive -/

@[simp] theorem countWords_sameStore (n : Nat) (s : State) : SameStore s (countWords n s) := by
  simp [countWords]

@[simp] theorem arcWrite_sameStore (type : Nat) (payload : Bytes) (s : State) : SameStore s (arcWrite type payload s) := by
  simp [arcWrite]

@[simp] theorem applyItem_sameStore (it : Nat × Nat × Bytes) (s : State) : SameStore s (applyItem it s) := by
  unfold applyItem; repeat' split
  all_goals simp

@[simp] theorem loadParams_sameStore (s : State) : SameStore s (loadParams s) := by
  unfold loadParams; split <;> simp

@[simp] theorem beginCommit_sameStore (k : Nat) (s : State) : SameStore s (beginCommit k s) := by
  simp [beginCommit]

@[simp] theorem finishCommit_sameStore (k : Nat) (s : State) : SameStore s (finishCommit k s) := by
  unfold finishCommit; split <;> simp

@[simp] theorem dropCommit_sameStore (s : State) : SameStore s (dropCommit s) := by
  simp [dropCommit]

@[simp] theorem doPfailAssert_sameStore (s : State) : SameStore s (doPfailAssert s) := by
  simp only [doPfailAssert]; repeat' split
  all_goals simp

@[simp] theorem writeBoot_sameStore (b : BootControl) (s : State) : SameStore s (writeBoot b s) := by
  simp [writeBoot]

@[simp] theorem writeExclude_sameStore (mask : Nat) (s : State) : SameStore s (writeExclude mask s) := by
  simp [writeExclude]

/-! Dram -/

@[simp] theorem setRankState_sameStore (c r : Nat) (st : RankState) (s : State) : SameStore s (setRankState c r st s) := by
  simp [setRankState]

@[simp] theorem loseSegment_sameStore (c : Nat) (g : Seg) (s : State) : SameStore s (loseSegment c g s) := by
  simp [loseSegment]

@[simp] theorem loseRange_sameStore (c lo hi : Nat) (s : State) : SameStore s (loseRange c lo hi s) := by
  simp [loseRange]

@[simp] theorem staleOnLoss_sameStore (c lo hi : Nat) (s : State) : SameStore s (staleOnLoss c lo hi s) := by
  unfold staleOnLoss; split <;> simp

@[simp] theorem endMigration_sameStore (c code : Nat) (s : State) : SameStore s (endMigration c code s) := by
  simp only [endMigration]; repeat' split
  all_goals simp

@[simp] theorem dropPair_sameStore (c r : Nat) (s : State) : SameStore s (dropPair c r s) := by
  simp only [dropPair]; repeat' split
  all_goals simp

@[simp] theorem raiseRetired_sameStore (c r cause : Nat) (spare : Bool) (s : State) : SameStore s (raiseRetired c r cause spare s) := by
  simp [raiseRetired]

@[simp] theorem retire_sameStore (c r cause : Nat) (s : State) : SameStore s (retire c r cause s) := by
  unfold retire; split
  · split <;> simp
  · simp only []
    split <;> simp
  · simp only []
    split <;> simp
  · simp

@[simp] theorem correct_sameStore (c r device offset : Nat) (s : State) : SameStore s (correct c r device offset s) := by
  simp only [correct]; split <;> simp

@[simp] theorem blankRead_sameStore (user : DramUser) (s : State) : SameStore s (blankRead user s) := by
  unfold blankRead; repeat' split
  all_goals simp

@[simp] theorem uncorrectable_sameStore (c r offset : Nat) (user : DramUser) (s : State) : SameStore s (uncorrectable c r offset user s) := by
  simp [uncorrectable]

@[simp] theorem doReadError_sameStore (c r offset : Nat) (device : Option (Fin 20)) (user : DramUser) (s : State) : SameStore s (doReadError c r offset device user s) := by
  unfold doReadError; repeat' split
  all_goals simp

@[simp] theorem doReread_sameStore (c : Nat) (decodes : Bool) (s : State) : SameStore s (doReread c decodes s) := by
  unfold doReread; repeat' split
  all_goals simp

@[simp] theorem doMigrationStart_sameStore (c : Nat) (s : State) : SameStore s (doMigrationStart c s) := by
  unfold doMigrationStart; repeat' split
  all_goals simp

@[simp] theorem migrateSlice_sameStore (c k progress : Nat) (s : State) : SameStore s (migrateSlice c k progress s) := by
  unfold migrateSlice; repeat' split
  all_goals simp

@[simp] theorem doRankMigrated_sameStore (c : Nat) (s : State) : SameStore s (doRankMigrated c s) := by
  unfold doRankMigrated; repeat' split
  all_goals simp

@[simp] theorem undoMigrate_sameStore (c k : Nat) (s : State) : SameStore s (undoMigrate c k s) := by
  unfold undoMigrate; repeat' split
  all_goals simp

@[simp] theorem beginMigrate_sameStore (v k : Nat) (s : State) : SameStore s (beginMigrate v k s) := by
  simp only [beginMigrate]; split <;> simp

@[simp] theorem setBand_sameStore (c band : Nat) (s : State) : SameStore s (setBand c band s) := by
  simp only [setBand]; split <;> simp

@[simp] theorem holdBand_sameStore (c : Nat) (s : State) : SameStore s (holdBand c s) := by
  unfold holdBand; repeat' split
  all_goals simp

@[simp] theorem doTempPoll_sameStore (c : Nat) (reports : List (Option Int)) (s : State) : SameStore s (doTempPoll c reports s) := by
  simp only [doTempPoll]; repeat' split
  all_goals simp

@[simp] theorem doBandFall_sameStore (c : Nat) (s : State) : SameStore s (doBandFall c s) := by
  simp only [doBandFall]; repeat' split
  all_goals simp

@[simp] theorem doHammer_sameStore (c bank row : Nat) (s : State) : SameStore s (doHammer c bank row s) := by
  unfold doHammer; split <;> simp

@[simp] theorem doPatrol_sameStore (c : Nat) (corrected : Option (Fin 20)) (s : State) : SameStore s (doPatrol c corrected s) := by
  simp only [doPatrol]; repeat' split
  all_goals simp

@[simp] theorem finishTrain_sameStore (k : Nat) (obs : SliceObs) (s : State) : SameStore s (finishTrain k obs s) := by
  simp [finishTrain]

@[simp] theorem raiseUntrained_sameStore (trained : List Bool) (s : State) : SameStore s (raiseUntrained trained s) := by
  simp [raiseUntrained]

@[simp] theorem trainBoot_sameStore (trained : List Bool) (s : State) : SameStore s (trainBoot trained s) := by
  simp [trainBoot]

/-! Gates -/

@[simp] theorem enterGate_sameStore (n : Nat) (st : GateState) (s : State) : SameStore s (enterGate n st s) := by
  simp [enterGate]

@[simp] theorem raiseGate_sameStore (code : Nat) (arg : Bytes) (s : State) : SameStore s (raiseGate code arg s) := by
  unfold raiseGate; split <;> simp

@[simp] theorem gateAction_sameStore (n : Nat) (s : State) : SameStore s (gateAction n s) := by
  unfold gateAction; repeat' split
  all_goals simp

@[simp] theorem withdrawGate_sameStore (n : Nat) (s : State) : SameStore s (withdrawGate n s) := by
  simp [withdrawGate]

@[simp] theorem firstGateState_sameStore (n : Nat) (s : State) : SameStore s (firstGateState n s) := by
  simp only [firstGateState]; repeat' split
  all_goals simp

@[simp] theorem enableGate_sameStore (n : Nat) (s : State) : SameStore s (enableGate n s) := by
  unfold enableGate; repeat' split
  all_goals simp

@[simp] theorem judgeGate_sameStore (n : Nat) (s : State) : SameStore s (judgeGate n s) := by
  unfold judgeGate; repeat' split
  all_goals simp

@[simp] theorem doGateInput_sameStore (n : Nat) (p c : Bool) (s : State) : SameStore s (doGateInput n p c s) := by
  simp [doGateInput]

@[simp] theorem doGateFault_sameStore (n : Nat) (s : State) : SameStore s (doGateFault n s) := by
  simp only [doGateFault]; repeat' split
  all_goals simp

@[simp] theorem faultClear_sameStore (mask : Nat) (s : State) : SameStore s (faultClear mask s) := by
  simp [faultClear]

/-! Motion -/

@[simp] theorem setPulse_sameStore (m : Nat) (on : Bool) (s : State) : SameStore s (setPulse m on s) := by
  unfold setPulse; repeat' split
  all_goals simp

@[simp] theorem recordTrigger_sameStore (u : Nat) (target : Int) (t : Nat) (s : State) : SameStore s (recordTrigger u target t s) := by
  simp [recordTrigger]

@[simp] theorem fireCmp_sameStore (u t n : Nat) (s : State) : SameStore s (fireCmp u t n s) := by
  simp only [fireCmp]; split <;> simp

@[simp] theorem compareAll_sameStore (old new : Int) (t : Nat) (s : State) : SameStore s (compareAll old new t s) := by
  simp [compareAll]

@[simp] theorem checkCmp_sameStore (u : Nat) (s : State) : SameStore s (checkCmp u s) := by
  simp only [checkCmp]; repeat' split
  all_goals simp

@[simp] theorem disarmAll_sameStore (s : State) : SameStore s (disarmAll s) := by
  simp [disarmAll]

@[simp] theorem indexError_sameStore (c kind raw : Nat) (s : State) : SameStore s (indexError c kind raw s) := by
  simp [indexError]

@[simp] theorem checkPassed_sameStore (c : Nat) (d : Int) (raw : Nat) (s : State) : SameStore s (checkPassed c d raw s) := by
  simp only [checkPassed]; repeat' split
  all_goals simp

@[simp] theorem indexEdge_sameStore (c raw : Nat) (s : State) : SameStore s (indexEdge c raw s) := by
  simp only [indexEdge]; repeat' split
  all_goals simp

@[simp] theorem doIndexEdge_sameStore (c : Nat) (s : State) : SameStore s (doIndexEdge c s) := by
  simp only [doIndexEdge]; split <;> simp

@[simp] theorem startWindow_sameStore (s : State) : SameStore s (startWindow s) := by
  simp [startWindow]

@[simp] theorem enterReversed_sameStore (raw : Nat) (s : State) : SameStore s (enterReversed raw s) := by
  simp [enterReversed]

@[simp] theorem webReversed_sameStore (raw : Nat) (s : State) : SameStore s (webReversed raw s) := by
  unfold webReversed; split <;> simp

@[simp] theorem clearReversed_sameStore (raw : Nat) (s : State) : SameStore s (clearReversed raw s) := by
  simp [clearReversed]

@[simp] theorem reverseStep_sameStore (raw : Nat) (s : State) : SameStore s (reverseStep raw s) := by
  simp only [reverseStep]; repeat' split
  all_goals simp

@[simp] theorem tickWhile_sameStore (n raw : Nat) (s : State) : SameStore s (tickWhile n raw s) := by
  induction n generalizing s with
  | zero => simp [tickWhile]
  | succ n ih => unfold tickWhile; split <;> simp [ih]

@[simp] theorem clockEdge_sameStore (d : Int) (raw prev : Nat) (s : State) : SameStore s (clockEdge d raw prev s) := by
  simp only [clockEdge]; split <;> simp

@[simp] theorem emuCount_sameStore (d : Int) (s : State) : SameStore s (emuCount d s) := by
  simp [emuCount]

@[simp] theorem countEdge_sameStore (c : Nat) (a b : Bool) (d : Int) (raw : Nat) (s : State) : SameStore s (countEdge c a b d raw s) := by
  simp only [countEdge]; repeat' split
  all_goals simp

@[simp] theorem illegalEdge_sameStore (c : Nat) (a b : Bool) (raw : Nat) (s : State) : SameStore s (illegalEdge c a b raw s) := by
  simp [illegalEdge]

@[simp] theorem doEdge_sameStore (c : Nat) (a b : Bool) (s : State) : SameStore s (doEdge c a b s) := by
  simp only [doEdge]; repeat' split
  all_goals simp

@[simp] theorem doWindowEnd_sameStore (s : State) : SameStore s (doWindowEnd s) := by
  simp only [doWindowEnd]; repeat' split
  all_goals simp

@[simp] theorem doWebStill_sameStore (c : Nat) (s : State) : SameStore s (doWebStill c s) := by
  simp only [doWebStill]; repeat' split
  all_goals simp

@[simp] theorem doSynthTick_sameStore (s : State) : SameStore s (doSynthTick s) := by
  unfold doSynthTick; repeat' split
  all_goals simp

@[simp] theorem haltClock_sameStore (s : State) : SameStore s (haltClock s) := by
  simp only [haltClock]; split <;> simp

@[simp] theorem resumeClock_sameStore (s : State) : SameStore s (resumeClock s) := by
  simp only [resumeClock]; split <;> simp

@[simp] theorem startClock_sameStore (s : State) : SameStore s (startClock s) := by
  simp [startClock]

@[simp] theorem origin_sameStore (v : Nat) (s : State) : SameStore s (origin v s) := by
  simp only [origin]; split <;> simp

@[simp] theorem enableEnc0_sameStore (s : State) : SameStore s (enableEnc0 s) := by
  unfold enableEnc0; split <;> simp

@[simp] theorem restartIndex_sameStore (c : Nat) (s : State) : SameStore s (restartIndex c s) := by
  simp [restartIndex]

@[simp] theorem enableEmu_sameStore (e : Nat) (s : State) : SameStore s (enableEmu e s) := by
  unfold enableEmu; split <;> simp

@[simp] theorem doPulseEnd_sameStore (m : Nat) (s : State) : SameStore s (doPulseEnd m s) := by
  unfold doPulseEnd; split <;> simp

@[simp] theorem doProbeEdge_sameStore (p : Nat) (level : Bool) (s : State) : SameStore s (doProbeEdge p level s) := by
  simp only [doProbeEdge]; repeat' split
  all_goals simp

@[simp] theorem latchProbe_sameStore (p : Nat) (y : Latch) (s : State) : SameStore s (latchProbe p y s) := by
  simp only [latchProbe]; split <;> simp

@[simp] theorem doProbeLatch_sameStore (p : Nat) (s : State) : SameStore s (doProbeLatch p s) := by
  simp only [doProbeLatch]; repeat' split
  all_goals simp

@[simp] theorem noteLag_sameStore (e : Nat) (s : State) : SameStore s (noteLag e s) := by
  simp only [noteLag]; split <;> simp

@[simp] theorem doEmuStep_sameStore (e : Nat) (s : State) : SameStore s (doEmuStep e s) := by
  simp only [doEmuStep]; split <;> simp

/-! Lamps -/

@[simp] theorem refreshLamp_sameStore (ch : Nat) (closing : Bool) (n : Nat) (s : State) : SameStore s (refreshLamp ch closing n s) := by
  simp only [refreshLamp]; split <;> simp

@[simp] theorem doLampRefresh_sameStore (ch : Nat) (s : State) : SameStore s (doLampRefresh ch s) := by
  unfold doLampRefresh; split <;> simp

@[simp] theorem lampFault_sameStore (ch n driverFlags : Nat) (s : State) : SameStore s (lampFault ch n driverFlags s) := by
  simp [lampFault]

@[simp] theorem takeChannel_sameStore (ch : Nat) (isNative : Bool) (bs : Bytes) (flags i n : Nat) (s : State) : SameStore s (takeChannel ch isNative bs flags i n s) := by
  simp only [takeChannel]; repeat' split
  all_goals simp

@[simp] theorem setLost_sameStore (ch d : Nat) (b : Bool) (s : State) : SameStore s (setLost ch d b s) := by
  simp [setLost]

@[simp] theorem passDriver_sameStore (ch d : Nat) (bs : Bytes) (s : State) : SameStore s (passDriver ch d bs s) := by
  simp only [passDriver]; repeat' split
  all_goals simp

@[simp] theorem failDriver_sameStore (ch d : Nat) (s : State) : SameStore s (failDriver ch d s) := by
  simp only [failDriver]; repeat' split
  all_goals simp

@[simp] theorem checkDriver_sameStore (ch d : Nat) (prev bs : Bytes) (s : State) : SameStore s (checkDriver ch d prev bs s) := by
  unfold checkDriver; repeat' split
  all_goals simp

@[simp] theorem forgetChain_sameStore (ch : Nat) (s : State) : SameStore s (forgetChain ch s) := by
  simp [forgetChain]

@[simp] theorem doLampLatch_sameStore (ch : Nat) (status : List Bytes) (s : State) : SameStore s (doLampLatch ch status s) := by
  simp only [doLampLatch]; repeat' split
  all_goals simp

@[simp] theorem enableChain_sameStore (ch : Nat) (s : State) : SameStore s (enableChain ch s) := by
  simp only [enableChain]; repeat' split
  all_goals simp

@[simp] theorem retypeChain_sameStore (ch : Nat) (s : State) : SameStore s (retypeChain ch s) := by
  simp [retypeChain]

@[simp] theorem enableLamp_sameStore (n : Nat) (s : State) : SameStore s (enableLamp n s) := by
  unfold enableLamp; split <;> simp

/-! Modes -/

@[simp] theorem requestMode_sameStore (v : Nat) (s : State) : SameStore s (requestMode v s) := by
  unfold requestMode; repeat' split
  all_goals simp

@[simp] theorem printGalleries_sameStore (v : Nat) (s : State) : SameStore s (printGalleries v s) := by
  unfold printGalleries; split <;> simp

@[simp] theorem safeClear_sameStore (s : State) : SameStore s (safeClear s) := by
  unfold safeClear; split <;> simp

@[simp] theorem doHeadPowerOff_sameStore (s : State) : SameStore s (doHeadPowerOff s) := by
  unfold doHeadPowerOff; repeat' split
  all_goals simp

@[simp] theorem noteRail_sameStore (rail mv : Nat) (s : State) : SameStore s (noteRail rail mv s) := by
  simp [noteRail]

@[simp] theorem doSupplyRestored_sameStore (rail mv : Nat) (s : State) : SameStore s (doSupplyRestored rail mv s) := by
  simp [doSupplyRestored]

/-! Net -/

@[simp] theorem netCount_sameStore (p sub w : Nat) (s : State) : SameStore s (netCount p sub w s) := by
  simp [netCount]

@[simp] theorem noteLeft_sameStore (p : Nat) (o : NetOut) (s : State) : SameStore s (noteLeft p o s) := by
  simp only [noteLeft]; repeat' split
  all_goals simp

@[simp] theorem leaveFrame_sameStore (p q : Nat) (f : TxFrame) (s : State) : SameStore s (leaveFrame p q f s) := by
  unfold leaveFrame; repeat' split
  all_goals simp

@[simp] theorem pumpPort_sameStore (p n : Nat) (s : State) : SameStore s (pumpPort p n s) := by
  induction n generalizing s with
  | zero => simp [pumpPort]
  | succ n ih =>
    unfold pumpPort; repeat' split
    all_goals simp [ih]

@[simp] theorem pumpAll_sameStore (p : Nat) (s : State) : SameStore s (pumpAll p s) := by
  simp [pumpAll]

@[simp] theorem dropLaunch_sameStore (p q : Nat) (f : TxFrame) (s : State) : SameStore s (dropLaunch p q f s) := by
  unfold dropLaunch; split <;> simp

@[simp] theorem enqueueTx_sameStore (p q : Nat) (f : TxFrame) (s : State) : SameStore s (enqueueTx p q f s) := by
  unfold enqueueTx; repeat' split
  all_goals simp

@[simp] theorem sendNow_sameStore (p : Nat) (o : NetOut) (s : State) : SameStore s (sendNow p o s) := by
  simp [sendNow]

@[simp] theorem doFrameLaunch_sameStore (p q : Nat) (s : State) : SameStore s (doFrameLaunch p q s) := by
  unfold doFrameLaunch; repeat' split
  all_goals simp

@[simp] theorem doLaunchDropped_sameStore (p q : Nat) (s : State) : SameStore s (doLaunchDropped p q s) := by
  unfold doLaunchDropped; repeat' split
  all_goals simp

@[simp] theorem sendArp_sameStore (p ip : Nat) (s : State) : SameStore s (sendArp p ip s) := by
  simp [sendArp]

@[simp] theorem announceIp_sameStore (p : Nat) (s : State) : SameStore s (announceIp p s) := by
  unfold announceIp; split <;> simp

@[simp] theorem waitArp_sameStore (p q h : Nat) (f : TxFrame) (s : State) : SameStore s (waitArp p q h f s) := by
  unfold waitArp; split <;> simp

@[simp] theorem sendUdp_sameStore (p q : Nat) (launch : Option Nat) (dst dport : Nat) (payload : Bytes) (pub : Option (Nat × Nat)) (s : State) : SameStore s (sendUdp p q launch dst dport payload pub s) := by
  unfold sendUdp; repeat' split
  all_goals simp

@[simp] theorem replyUdp_sameStore (src : NetSrc) (payload : Bytes) (s : State) : SameStore s (replyUdp src payload s) := by
  simp [replyUdp]

@[simp] theorem arpAnswered_sameStore (p ip mac : Nat) (s : State) : SameStore s (arpAnswered p ip mac s) := by
  unfold arpAnswered; split <;> simp

@[simp] theorem doArp_sameStore (p : Nat) (a : ArpFrame) (s : State) : SameStore s (doArp p a s) := by
  simp only [doArp]; repeat' split
  all_goals simp

@[simp] theorem doArpRetry_sameStore (p ip : Nat) (s : State) : SameStore s (doArpRetry p ip s) := by
  unfold doArpRetry; repeat' split
  all_goals simp

@[simp] theorem doArpUnresolved_sameStore (p ip : Nat) (s : State) : SameStore s (doArpUnresolved p ip s) := by
  unfold doArpUnresolved; repeat' split
  all_goals simp

@[simp] theorem doArpAge_sameStore (p ip : Nat) (s : State) : SameStore s (doArpAge p ip s) := by
  simp only [doArpAge]; repeat' split
  all_goals simp

@[simp] theorem announceShared_sameStore (s : State) : SameStore s (announceShared s) := by
  unfold announceShared; split <;> simp

@[simp] theorem sharedUp_sameStore (s : State) : SameStore s (sharedUp s) := by
  simp [sharedUp]

@[simp] theorem doSharedArp_sameStore (s : State) : SameStore s (doSharedArp s) := by
  simp only [doSharedArp]; repeat' split
  all_goals simp

@[simp] theorem netLink_sameStore (p link : Nat) (s : State) : SameStore s (netLink p link s) := by
  unfold netLink; repeat' split
  all_goals simp

@[simp] theorem doFiltered_sameStore (p : Nat) (frame : Bytes) (fcsOk : Bool) (s : State) : SameStore s (doFiltered p frame fcsOk s) := by
  simp only [doFiltered]; repeat' split
  all_goals simp

@[simp] theorem doEcho_sameStore (src : NetSrc) (echo : Nat) (data : Bytes) (s : State) : SameStore s (doEcho src echo data s) := by
  simp only [doEcho]; repeat' split
  all_goals simp

@[simp] theorem onDatagram_sameStore (src : NetSrc) (f : State → State) (hf : ∀ s, SameStore s (f s)) (s : State) : SameStore s (onDatagram src f s) := by
  unfold onDatagram; split <;> simp [hf]

/-! Protocol -/

@[simp] theorem reject_sameStore (src : NetSrc) (kind code : Nat) (s : State) : SameStore s (reject src kind code s) := by
  simp [reject]

@[simp] theorem setSource_sameStore (x : Source) (s : State) : SameStore s (setSource x s) := by
  unfold setSource; split <;> simp

@[simp] theorem withToken_sameStore (src : NetSrc) (f : State → State) (hf : ∀ s, SameStore s (f s)) (s : State) : SameStore s (withToken src f s) := by
  simp only [withToken]; repeat' split
  all_goals simp [hf]

@[simp] theorem authFail_sameStore (src : NetSrc) (kind code : Nat) (s : State) : SameStore s (authFail src kind code s) := by
  simp only [authFail]; split <;> simp

@[simp] theorem onMessage_sameStore (kind : Nat) (src : NetSrc) (bs : Bytes) (f : Msg → State → State) (hf : ∀ x s, SameStore s (f x s)) (s : State) : SameStore s (onMessage kind src bs f s) := by
  simp [onMessage, hf]

@[simp] theorem doChallenge_sameStore (src : NetSrc) (s : State) : SameStore s (doChallenge src s) := by
  simp [doChallenge]

@[simp] theorem openIn_sameStore (k : Nat) (src : NetSrc) (msg : Bytes) (m : Msg) (n : Nonce) (s : State) : SameStore s (openIn k src msg m n s) := by
  simp [openIn]

@[simp] theorem doOpen_sameStore (src : NetSrc) (msg : Bytes) (m : Msg) (s : State) : SameStore s (doOpen src msg m s) := by
  unfold doOpen; repeat' split
  all_goals simp

@[simp] theorem onSession_sameStore (kind : Nat) (src : NetSrc) (msg : Bytes) (m : Msg) (f : Nat → Session → State → State) (hf : ∀ x y s, SameStore s (f x y s)) (s : State) : SameStore s (onSession kind src msg m f s) := by
  unfold onSession; repeat' split
  all_goals simp [hf]

@[simp] theorem doClose_sameStore (src : NetSrc) (k : Nat) (x : Session) (s : State) : SameStore s (doClose src k x s) := by
  simp [doClose]

@[simp] theorem doLockoutEnd_sameStore (ip : Nat) (s : State) : SameStore s (doLockoutEnd ip s) := by
  simp only [doLockoutEnd]; repeat' split
  all_goals simp

@[simp] theorem doAuthExpiry_sameStore (ip : Nat) (s : State) : SameStore s (doAuthExpiry ip s) := by
  simp only [doAuthExpiry]; repeat' split
  all_goals simp

@[simp] theorem keyWrite_sameStore (key : Bytes) (s : State) : SameStore s (keyWrite key s) := by
  simp [keyWrite]

@[simp] theorem ipChanged_sameStore (p : Nat) (s : State) : SameStore s (ipChanged p s) := by
  simp [ipChanged]

@[simp] theorem closeSessions_sameStore (v : Nat) (s : State) : SameStore s (closeSessions v s) := by
  simp [closeSessions]

@[simp] theorem doEventPush_sameStore (s : State) : SameStore s (doEventPush s) := by
  simp only [doEventPush]; split <;> simp

/-! Time -/

@[simp] theorem resyncLanes_sameStore (s : State) : SameStore s (resyncLanes s) := by
  simp [resyncLanes]

@[simp] theorem moveClock_sameStore (d : Int) (epoch : Nat) (s : State) : SameStore s (moveClock d epoch s) := by
  simp [moveClock]

@[simp] theorem stepTo_sameStore (d : Int) (epoch : Nat) (s : State) : SameStore s (stepTo d epoch s) := by
  simp [stepTo]

@[simp] theorem stepTime_sameStore (d : Int) (s : State) : SameStore s (stepTime d s) := by
  simp only [stepTime]; split <;> simp

@[simp] theorem firstLock_sameStore (s : State) : SameStore s (firstLock s) := by
  unfold firstLock; repeat' split
  all_goals simp

@[simp] theorem doDeferredStep_sameStore (s : State) : SameStore s (doDeferredStep s) := by
  unfold doDeferredStep; split <;> simp

@[simp] theorem setTime_sameStore (v : Nat) (s : State) : SameStore s (setTime v s) := by
  unfold setTime; split <;> simp

@[simp] theorem servo_sameStore (o t : Int) (s : State) : SameStore s (servo o t s) := by
  unfold servo; split <;> simp

@[simp] theorem noteDiverged_sameStore (o : Int) (s : State) : SameStore s (noteDiverged o s) := by
  unfold noteDiverged; repeat' split
  all_goals simp

@[simp] theorem onPtp_sameStore (f : State → State) (hf : ∀ s, SameStore s (f s)) (s : State) : SameStore s (onPtp f s) := by
  unfold onPtp; split <;> simp [hf]

@[simp] theorem useOffset_sameStore (o : Int) (prev : Option Int) (t : Int) (s : State) : SameStore s (useOffset o prev t s) := by
  simp only [useOffset]; repeat' split
  all_goals simp

@[simp] theorem doSync_sameStore (master : Int) (s : State) : SameStore s (doSync master s) := by
  unfold doSync; split <;> simp

@[simp] theorem doPtpDelayResp_sameStore (received : Int) (s : State) : SameStore s (doPtpDelayResp received s) := by
  simp only [doPtpDelayResp]; repeat' split
  all_goals simp

@[simp] theorem sendPtp_sameStore (launch : Option Nat) (kind seq time requester : Nat) (s : State) : SameStore s (sendPtp launch kind seq time requester s) := by
  simp [sendPtp]

@[simp] theorem sendCounted_sameStore (launch : Option Nat) (kind time : Nat) (s : State) : SameStore s (sendCounted launch kind time s) := by
  simp [sendCounted]

@[simp] theorem doDelayReq_sameStore (requester seq : Nat) (s : State) : SameStore s (doDelayReq requester seq s) := by
  unfold doDelayReq; split <;> simp

@[simp] theorem doDelayReqSend_sameStore (s : State) : SameStore s (doDelayReqSend s) := by
  simp only [doDelayReqSend]; split <;> simp

@[simp] theorem doSyncSend_sameStore (s : State) : SameStore s (doSyncSend s) := by
  simp only [doSyncSend]; repeat' split
  all_goals simp

@[simp] theorem doAnnounceSend_sameStore (s : State) : SameStore s (doAnnounceSend s) := by
  unfold doAnnounceSend; split <;> simp

@[simp] theorem decideState_sameStore (s : State) : SameStore s (decideState s) := by
  simp only [decideState]; repeat' split
  all_goals simp

@[simp] theorem doAnnounce_sameStore (a : Announce) (s : State) : SameStore s (doAnnounce a s) := by
  unfold doAnnounce; split <;> simp

@[simp] theorem doAnnounceTimeout_sameStore (s : State) : SameStore s (doAnnounceTimeout s) := by
  simp only [doAnnounceTimeout]; repeat' split
  all_goals simp

@[simp] theorem ptpConfigured_sameStore (s : State) : SameStore s (ptpConfigured s) := by
  unfold ptpConfigured; repeat' split
  all_goals simp

/-! Cameras -/

@[simp] theorem ctxCount_sameStore (c sub : Nat) (s : State) : SameStore s (ctxCount c sub s) := by
  simp [ctxCount]

@[simp] theorem portCount_sameStore (p sub : Nat) (s : State) : SameStore s (portCount p sub s) := by
  simp [portCount]

@[simp] theorem sendExposure_sameStore (p c : Nat) (s : State) : SameStore s (sendExposure p c s) := by
  unfold sendExposure; repeat' split
  all_goals simp

@[simp] theorem startExposure_sameStore (p c : Nat) (s : State) : SameStore s (startExposure p c s) := by
  simp only [startExposure]; split <;> simp

@[simp] theorem startRaw_sameStore (p : Nat) (req : Bytes) (s : State) : SameStore s (startRaw p req s) := by
  simp [startRaw]

@[simp] theorem pumpCci_sameStore (p : Nat) (s : State) : SameStore s (pumpCci p s) := by
  simp only [pumpCci]; repeat' split
  all_goals simp

@[simp] theorem offerExposure_sameStore (c : Nat) (s : State) : SameStore s (offerExposure c s) := by
  simp only [offerExposure]; split <;> simp

@[simp] theorem commitExposure_sameStore (c : Nat) (s : State) : SameStore s (commitExposure c s) := by
  simp only [commitExposure]; split <;> simp

@[simp] theorem cciFailed_sameStore (p ctx status reg : Nat) (s : State) : SameStore s (cciFailed p ctx status reg s) := by
  simp [cciFailed]

@[simp] theorem exposureEnded_sameStore (p c status : Nat) (s : State) : SameStore s (exposureEnded p c status s) := by
  simp only [exposureEnded]; repeat' split
  all_goals simp

@[simp] theorem rawEnded_sameStore (p status : Nat) (data : Bytes) (s : State) : SameStore s (rawEnded p status data s) := by
  simp only [rawEnded]; repeat' split
  all_goals simp

@[simp] theorem cciEnded_sameStore (p status : Nat) (data : Bytes) (s : State) : SameStore s (cciEnded p status data s) := by
  unfold cciEnded; split <;> simp

@[simp] theorem requestCci_sameStore (p k : Nat) (req : Bytes) (s : State) : SameStore s (requestCci p k req s) := by
  simp [requestCci]

@[simp] theorem frameDamaged_sameStore (c reason flags frame : Nat) (s : State) : SameStore s (frameDamaged c reason flags frame s) := by
  simp [frameDamaged]

@[simp] theorem discardFrame_sameStore (c : Nat) (tell : Bool) (s : State) : SameStore s (discardFrame c tell s) := by
  simp only [discardFrame]; repeat' split
  all_goals simp

@[simp] theorem slipExposure_sameStore (c : Nat) (s : State) : SameStore s (slipExposure c s) := by
  simp only [slipExposure]; repeat' split
  all_goals simp

@[simp] theorem frameStart_sameStore (c n : Nat) (s : State) : SameStore s (frameStart c n s) := by
  simp only [frameStart]; repeat' split
  all_goals simp

@[simp] theorem ignorePacket_sameStore (p : Nat) (s : State) : SameStore s (ignorePacket p s) := by
  simp [ignorePacket]

@[simp] theorem onPacket_sameStore (p : Nat) (corrected : Bool) (f : State → State) (hf : ∀ s, SameStore s (f s)) (s : State) : SameStore s (onPacket p corrected f s) := by
  unfold onPacket; split <;> simp [hf]

@[simp] theorem toContext_sameStore (p vc : Nat) (f : Nat → State → State) (hf : ∀ x s, SameStore s (f x s)) (s : State) : SameStore s (toContext p vc f s) := by
  unfold toContext; split <;> simp [hf]

@[simp] theorem doDiscard_sameStore (p : Nat) (why : CsiDiscard) (s : State) : SameStore s (doDiscard p why s) := by
  unfold doDiscard; split <;> simp

@[simp] theorem doFrameTimeout_sameStore (c : Nat) (s : State) : SameStore s (doFrameTimeout c s) := by
  unfold doFrameTimeout; repeat' split
  all_goals simp

@[simp] theorem enableCtx_sameStore (c v old : Nat) (s : State) : SameStore s (enableCtx c v old s) := by
  unfold enableCtx; split <;> simp

@[simp] theorem enablePort_sameStore (p : Nat) (s : State) : SameStore s (enablePort p s) := by
  simp [enablePort]

@[simp] theorem dropFrames_sameStore (s : State) : SameStore s (dropFrames s) := by
  simp [dropFrames]

@[simp] theorem pipeWritten_sameStore (c : Nat) (s : State) : SameStore s (pipeWritten c s) := by
  simp [pipeWritten]

@[simp] theorem freezeCtx_sameStore (c v : Nat) (s : State) : SameStore s (freezeCtx c v s) := by
  unfold freezeCtx; split <;> simp

@[simp] theorem doPipeStart_sameStore (s : State) : SameStore s (doPipeStart s) := by
  unfold doPipeStart; repeat' split
  all_goals simp

@[simp] theorem deliverReport_sameStore (c frame : Nat) (r : Bytes) (s : State) : SameStore s (deliverReport c frame r s) := by
  simp only [deliverReport]; repeat' split
  all_goals simp

@[simp] theorem feedPhoto_sameStore (c : Nat) (r : Bytes) (s : State) : SameStore s (feedPhoto c r s) := by
  unfold feedPhoto; repeat' split
  all_goals simp

@[simp] theorem doPipeDone_sameStore (s : State) : SameStore s (doPipeDone s) := by
  simp only [doPipeDone]; repeat' split
  all_goals simp

/-! Loop -/

@[simp] theorem enableLoop_sameStore (g : Nat) (s : State) : SameStore s (enableLoop g s) := by
  unfold enableLoop; split <;> simp

@[simp] theorem loopEvent_sameStore (code g : Nat) (arg : Bytes) (s : State) : SameStore s (loopEvent code g arg s) := by
  simp [loopEvent]

@[simp] theorem judgeNozzle_sameStore (g ref : Nat) (p : Nat × Nat) (w : LoopWork × State) :
    SameStore w.2 (judgeNozzle g ref p w).2 := by
  simp only [judgeNozzle]; repeat' split
  all_goals simp

@[simp] theorem stepNozzle_sameStore (g ref : Nat) (p : Nat × Nat) (w : LoopWork × State) :
    SameStore w.2 (stepNozzle g ref p w).2 := by
  simp only [stepNozzle]; repeat' split
  all_goals simp

/-- What steps a work list and a state over a list, keeping the state's queue and Reserve at each element, keeps them over the list. -/
theorem forEach_work_sameStore {α : Type} {f : α → LoopWork × State → LoopWork × State} (hf : ∀ x w, SameStore w.2 (f x w).2)
    (xs : List α) (w : LoopWork × State) : SameStore w.2 (forEach xs f w).2 := by
  induction xs generalizing w with
  | nil => exact ⟨rfl, rfl⟩
  | cons x xs ih => exact ⟨(ih (f x w)).1.trans (hf x w).1, (ih (f x w)).2.trans (hf x w).2⟩

@[simp] theorem useResult_sameStore (g ref : Nat) (vs : List (Nat × Nat)) (w : LoopWork × State) :
    SameStore w.2 (useResult g ref vs w).2 := by
  simp [useResult, forEach_work_sameStore]

@[simp] theorem otherEpoch_sameStore (d : Delivered) (x : Ladder) (s : State) : SameStore s (otherEpoch d x s) := by
  simp [otherEpoch]

@[simp] theorem takeResult_sameStore (d : Delivered) (x : Ladder) (w : LoopWork × State) :
    SameStore w.2 (takeResult d x w).2 := by
  simp only [takeResult]; repeat' split
  all_goals simp

@[simp] theorem beginUpdate_sameStore (g : Nat) (changes : Tab Nat) (s : State) : SameStore s (beginUpdate g changes s) := by
  unfold beginUpdate; repeat' split
  all_goals simp

@[simp] theorem takeResults_sameStore (d : Delivered) (g : Nat) (s : State) : SameStore s (takeResults d g s) := by
  simp only [takeResults]; repeat' split
  all_goals simp [forEach_work_sameStore]

@[simp] theorem doLoopReport_sameStore (s : State) : SameStore s (doLoopReport s) := by
  simp only [doLoopReport]; repeat' split
  all_goals simp

@[simp] theorem editSpare_sameStore (g : Nat) (s : State) : SameStore s (editSpare g s) := by
  simp [editSpare]

@[simp] theorem doLoopUpdate_sameStore (g : Nat) (s : State) : SameStore s (doLoopUpdate g s) := by
  simp only [doLoopUpdate]; repeat' split
  all_goals simp

/-! Takeover -/

@[simp] theorem trainShadow_sameStore (p : Lane → Bool) (s : State) : SameStore s (trainShadow p s) := by
  simp [trainShadow]

@[simp] theorem trainOthers_sameStore (s : State) : SameStore s (trainOthers s) := by
  simp [trainOthers]

@[simp] theorem dateLines_sameStore (s : State) : SameStore s (dateLines s) := by
  unfold dateLines; split <;> simp

@[simp] theorem enterActive_sameStore (s : State) : SameStore s (enterActive s) := by
  simp [enterActive]

@[simp] theorem markGap_sameStore (g n : Nat) (s : State) : SameStore s (markGap g n s) := by
  unfold markGap; split <;> simp

@[simp] theorem finishTake_sameStore (g : Nat) (p : TakePlan) (s : State) : SameStore s (finishTake g p s) := by
  simp [finishTake]

@[simp] theorem noteTaken_sameStore (s : State) : SameStore s (noteTaken s) := by
  unfold noteTaken; split <;> simp

@[simp] theorem finishTakes_sameStore (s : State) : SameStore s (finishTakes s) := by
  unfold finishTakes; split <;> simp

@[simp] theorem takeLane_sameStore (l n : Nat) (s : State) : SameStore s (takeLane l n s) := by
  simp [takeLane]

@[simp] theorem doTakeoverLane_sameStore (l : Nat) (s : State) : SameStore s (doTakeoverLane l s) := by
  simp only [doTakeoverLane]; repeat' split
  all_goals simp

@[simp] theorem doTickTimeout_sameStore (s : State) : SameStore s (doTickTimeout s) := by
  unfold doTickTimeout; split <;> simp

@[simp] theorem takeOver_sameStore (s : State) : SameStore s (takeOver s) := by
  simp [takeOver]

@[simp] theorem closeHand_sameStore (s : State) : SameStore s (closeHand s) := by
  unfold closeHand; repeat' split
  all_goals simp

@[simp] theorem endHandover_sameStore (h : HandPlan) (s : State) : SameStore s (endHandover h s) := by
  simp [endHandover]

@[simp] theorem doHandLane_sameStore (l : Nat) (s : State) : SameStore s (doHandLane l s) := by
  simp only [doHandLane]; repeat' split
  all_goals simp

@[simp] theorem contend_sameStore (s : State) : SameStore s (contend s) := by
  simp only [contend]; split <;> simp

@[simp] theorem peerRises_sameStore (s : State) : SameStore s (peerRises s) := by
  unfold peerRises; repeat' split
  all_goals simp

@[simp] theorem peerGone_sameStore (s : State) : SameStore s (peerGone s) := by
  unfold peerGone; repeat' split
  all_goals simp

@[simp] theorem peerFalls_sameStore (s : State) : SameStore s (peerFalls s) := by
  unfold peerFalls; split <;> simp

@[simp] theorem doPeerActive_sameStore (asserted : Bool) (s : State) : SameStore s (doPeerActive asserted s) := by
  unfold doPeerActive; repeat' split
  all_goals simp

@[simp] theorem doArbitration_sameStore (s : State) : SameStore s (doArbitration s) := by
  unfold doArbitration; split <;> simp

/-! Boot -/

@[simp] theorem romLine_sameStore (code : Nat) (s : State) : SameStore s (romLine code s) := by
  simp [romLine]

@[simp] theorem romCheck_sameStore (n : Nat) (s : State) : SameStore s (romCheck n s) := by
  simp [romCheck]

@[simp] theorem runImage_sameStore (n : Nat) (fallback : Bool) (s : State) : SameStore s (runImage n fallback s) := by
  simp [runImage]

@[simp] theorem romHalt_sameStore (s : State) : SameStore s (romHalt s) := by
  simp [romHalt]

@[simp] theorem romOnly_sameStore (n : Nat) (s : State) : SameStore s (romOnly n s) := by
  simp only [romOnly]; split <;> simp

@[simp] theorem romTrial_sameStore (s : State) : SameStore s (romTrial s) := by
  simp only [romTrial]; repeat' split
  all_goals simp

@[simp] theorem romSelect_sameStore (s : State) : SameStore s (romSelect s) := by
  simp only [romSelect]; repeat' split
  all_goals simp

@[simp] theorem runRom_sameStore (s : State) : SameStore s (runRom s) := by
  unfold runRom; repeat' split
  all_goals simp

@[simp] theorem doRecovery_sameStore (image : Bytes) (crc : Nat) (s : State) : SameStore s (doRecovery image crc s) := by
  unfold doRecovery; repeat' split
  all_goals simp

@[simp] theorem fatal_sameStore (bit giveUpCause resetCause : Nat) (s : State) : SameStore s (fatal bit giveUpCause resetCause s) := by
  simp only [fatal]; repeat' split
  all_goals simp

@[simp] theorem loadRecords_sameStore (s : State) : SameStore s (loadRecords s) := by
  simp only [loadRecords]; repeat' split
  all_goals simp

@[simp] theorem applyParams_sameStore (s : State) : SameStore s (applyParams s) := by
  simp [applyParams]

@[simp] theorem arbitrate_sameStore (s : State) : SameStore s (arbitrate s) := by
  unfold arbitrate; repeat' split
  all_goals simp

@[simp] theorem bootCauses_sameStore (s : State) : SameStore s (bootCauses s) := by
  simp only [bootCauses]; repeat' split
  all_goals simp

@[simp] theorem raiseHeld_sameStore (evs : List HeldEvent) (s : State) : SameStore s (raiseHeld evs s) := by
  simp [raiseHeld]

@[simp] theorem bootEvents_sameStore (trained : List Bool) (s : State) : SameStore s (bootEvents trained s) := by
  simp [bootEvents]

@[simp] theorem enterIdle_sameStore (trained : List Bool) (s : State) : SameStore s (enterIdle trained s) := by
  simp [enterIdle]

@[simp] theorem releasePins_sameStore (s : State) : SameStore s (releasePins s) := by
  unfold releasePins; split <;> simp

@[simp] theorem doBootComplete_sameStore (trained : List Bool) (s : State) : SameStore s (doBootComplete trained s) := by
  simp only [doBootComplete]; repeat' split
  all_goals simp

@[simp] theorem beginFwUpdate_sameStore (s : State) : SameStore s (beginFwUpdate s) := by
  simp [beginFwUpdate]

@[simp] theorem finishFwUpdate_sameStore (k : Nat) (obs : SliceObs) (s : State) : SameStore s (finishFwUpdate k obs s) := by
  unfold finishFwUpdate; split <;> simp

@[simp] theorem fwConfirm_sameStore (s : State) : SameStore s (fwConfirm s) := by
  simp [fwConfirm]

@[simp] theorem doClockRestored_sameStore (which : ClockFault) (s : State) : SameStore s (doClockRestored which s) := by
  simp [doClockRestored]

/-! Calib -/

@[simp] theorem sliceAnalogue_sameStore (k : Nat) (obs : SliceObs) (s : State) : SameStore s (sliceAnalogue k obs s) := by
  simp only [sliceAnalogue]; repeat' split
  all_goals simp

@[simp] theorem finishPhoto_sameStore (p : PhotoCal) (s : State) : SameStore s (finishPhoto p s) := by
  simp only [finishPhoto]; split <;> simp

@[simp] theorem slicePhoto_sameStore (k : Nat) (s : State) : SameStore s (slicePhoto k s) := by
  unfold slicePhoto; repeat' split
  all_goals simp

@[simp] theorem dropPhoto_sameStore (s : State) : SameStore s (dropPhoto s) := by
  simp [dropPhoto]

@[simp] theorem doPhotoTimeout_sameStore (s : State) : SameStore s (doPhotoTimeout s) := by
  unfold doPhotoTimeout; repeat' split
  all_goals simp

@[simp] theorem doSensorStale_sameStore (id : Nat) (s : State) : SameStore s (doSensorStale id s) := by
  unfold doSensorStale; repeat' split
  all_goals simp

/-! Pair -/

@[simp] theorem doHeartbeat_sameStore (i : Nat) (s : State) : SameStore s (doHeartbeat i s) := by
  simp only [doHeartbeat]; split <;> simp

@[simp] theorem sendImage_sameStore (s : State) : SameStore s (sendImage s) := by
  simp [sendImage]

@[simp] theorem peerBecomes_sameStore (old new : Nat) (s : State) : SameStore s (peerBecomes old new s) := by
  unfold peerBecomes; repeat' split
  all_goals simp

@[simp] theorem doHeard_sameStore (role reign mode tick confirmed : Nat) (s : State) : SameStore s (doHeard role reign mode tick confirmed s) := by
  unfold doHeard; split <;> simp

@[simp] theorem doHeartbeatLost_sameStore (s : State) : SameStore s (doHeartbeatLost s) := by
  unfold doHeartbeatLost; split <;> simp

@[simp] theorem doLinkDownTimeout_sameStore (s : State) : SameStore s (doLinkDownTimeout s) := by
  unfold doLinkDownTimeout; repeat' split
  all_goals simp

@[simp] theorem onPair_sameStore (f : State → State) (hf : ∀ s, SameStore s (f s)) (s : State) : SameStore s (onPair f s) := by
  unfold onPair; split <;> simp [hf]

@[simp] theorem takeReport_sameStore (r : Bytes) (s : State) : SameStore s (takeReport r s) := by
  simp [takeReport]

@[simp] theorem takeBay_sameStore (b : Nat) (t : Sys2Proof.BayState) (s : State) : SameStore s (takeBay b t s) := by
  unfold takeBay; repeat' split
  all_goals simp

@[simp] theorem takeDecision_sameStore (q i : Nat) (starved : Bool) (s : State) : SameStore s (takeDecision q i starved s) := by
  unfold takeDecision; split <;> simp

@[simp] theorem takeDigest_sameStore (g n crc : Nat) (s : State) : SameStore s (takeDigest g n crc s) := by
  unfold takeDigest; repeat' split
  all_goals simp

@[simp] theorem takeNotice_sameStore (reign : Nat) (s : State) : SameStore s (takeNotice reign s) := by
  unfold takeNotice; split <;> simp

@[simp] theorem takeHandover_sameStore (mh : Nat) (s : State) : SameStore s (takeHandover mh s) := by
  unfold takeHandover; split <;> simp

@[simp] theorem takeYielded_sameStore (s : State) : SameStore s (takeYielded s) := by
  unfold takeYielded; repeat' split
  all_goals simp

@[simp] theorem takeOffset_sameStore (o : Int) (epoch : Nat) (s : State) : SameStore s (takeOffset o epoch s) := by
  unfold takeOffset; repeat' split
  all_goals simp

@[simp] theorem takeTimeSync_sameStore (t1 : Nat) (delay : Option Nat) (epoch : Nat) (s : State) : SameStore s (takeTimeSync t1 delay epoch s) := by
  unfold takeTimeSync; repeat' split
  all_goals simp

@[simp] theorem doAlignSend_sameStore (s : State) : SameStore s (doAlignSend s) := by
  unfold doAlignSend; split <;> simp

@[simp] theorem doAlignPoint_sameStore (s : State) : SameStore s (doAlignPoint s) := by
  simp only [doAlignPoint]; repeat' split
  all_goals simp

@[simp] theorem alignEmu_sameStore (i : Nat) (acc out acc0 out0 : Int) (s : State) : SameStore s (alignEmu i acc out acc0 out0 s) := by
  simp [alignEmu]

@[simp] theorem shiftPositions_sameStore (d : Int) (s : State) : SameStore s (shiftPositions d s) := by
  unfold shiftPositions; split <;> simp

@[simp] theorem reconvert_sameStore (d : Int) (s : State) : SameStore s (reconvert d s) := by
  unfold reconvert; split <;> simp

@[simp] theorem align_sameStore (v own : AlignValues) (s : State) : SameStore s (align v own s) := by
  simp [align]

@[simp] theorem takeAlign_sameStore (ta : Nat) (v : AlignValues) (s : State) : SameStore s (takeAlign ta v s) := by
  unfold takeAlign; repeat' split
  all_goals simp

@[simp] theorem doAlign_sameStore (m : AlignMsg) (s : State) : SameStore s (doAlign m s) := by
  unfold doAlign; repeat' split
  all_goals simp

/-! SelfTest -/

@[simp] theorem startSelftest_sameStore (mask : Nat) (s : State) : SameStore s (startSelftest mask s) := by
  simp [startSelftest]

@[simp] theorem stopForTest_sameStore (s : State) : SameStore s (stopForTest s) := by
  simp only [stopForTest]; repeat' split
  all_goals simp

@[simp] theorem doTestEnter_sameStore (s : State) : SameStore s (doTestEnter s) := by
  unfold doTestEnter; repeat' split
  all_goals simp

@[simp] theorem takeResults13_sameStore (r : TestRun) (results : List DomainResult) (s : State) : SameStore s (takeResults13 r results s) := by
  simp [takeResults13]

@[simp] theorem tapBypass_sameStore (s : State) : SameStore s (tapBypass s) := by
  simp [tapBypass]

@[simp] theorem tapTake_sameStore (ir : TapIr) (pins : PinOwner) (shiftOut : Bytes) (s : State) : SameStore s (tapTake ir pins shiftOut s) := by
  unfold tapTake; split <;> simp

@[simp] theorem resetTap_sameStore (porstRise : Bool) (s : State) : SameStore s (resetTap porstRise s) := by
  simp only [resetTap]; split <;> simp

/-! Sweep -/

@[simp] theorem beginSweep_sameStore (k : Nat) (s : State) : SameStore s (beginSweep k s) := by
  simp [beginSweep]

@[simp] theorem sendShot_sameStore (w : Sweep) (i n t l : Nat) (s : State) : SameStore s (sendShot w i n t l s) := by
  unfold sendShot; split <;> simp

@[simp] theorem doSweepSlot_sameStore (s : State) : SameStore s (doSweepSlot s) := by
  unfold doSweepSlot; repeat' split
  all_goals simp

@[simp] theorem doDgatePulse_sameStore (g : Nat) (s : State) : SameStore s (doDgatePulse g s) := by
  simp only [doDgatePulse]; split <;> simp

@[simp] theorem failGallery_sameStore (g st : Nat) (s : State) : SameStore s (failGallery g st s) := by
  simp [failGallery]

@[simp] theorem applyBatch_sameStore (g : Nat) (batch : List (Nat × Nat)) (s : State) : SameStore s (applyBatch g batch s) := by
  simp [applyBatch]

@[simp] theorem endBatch_sameStore (g : Nat) (s : State) : SameStore s (endBatch g s) := by
  simp only [endBatch]; repeat' split
  all_goals simp

@[simp] theorem doShotDecide_sameStore (g : Nat) (s : State) : SameStore s (doShotDecide g s) := by
  simp only [doShotDecide]; repeat' split
  all_goals simp

@[simp] theorem doDgateStuck_sameStore (g : Nat) (s : State) : SameStore s (doDgateStuck g s) := by
  unfold doDgateStuck; repeat' split
  all_goals simp

@[simp] theorem closeGalleries_sameStore (w : Sweep) (st : Nat) (s : State) : SameStore s (closeGalleries w st s) := by
  simp [closeGalleries]

@[simp] theorem sliceSweep_sameStore (k : Nat) (s : State) : SameStore s (sliceSweep k s) := by
  simp only [sliceSweep]; repeat' split
  all_goals simp

@[simp] theorem abortSweep_sameStore (k : Nat) (s : State) : SameStore s (abortSweep k s) := by
  unfold abortSweep; repeat' split
  all_goals simp

/-! Apply -/

@[simp] theorem beginHandover_sameStore (k : Nat) (s : State) : SameStore s (beginHandover k s) := by
  simp [beginHandover]

@[simp] theorem beginOp_sameStore (k idx sub v : Nat) (bs : Bytes) (s : State) : SameStore s (beginOp k idx sub v bs s) := by
  unfold beginOp; repeat' split
  all_goals simp

@[simp] theorem dropCommitDirect_sameStore (id : Nat) (s : State) : SameStore s (dropCommitDirect id s) := by
  simp [dropCommitDirect]

@[simp] theorem dropCci_sameStore (p : Nat) (s : State) : SameStore s (dropCci p s) := by
  simp only [dropCci]; split <;> simp

@[simp] theorem cleanOp_sameStore (k : Nat) (s : State) : SameStore s (cleanOp k s) := by
  simp only [cleanOp]; repeat' split
  all_goals simp

@[simp] theorem endAborted_sameStore (k : Nat) (s : State) : SameStore s (endAborted k s) := by
  simp [endAborted]

@[simp] theorem abortSlot_sameStore (k : Nat) (s : State) : SameStore s (abortSlot k s) := by
  simp only [abortSlot]; split <;> simp

@[simp] theorem declareDegraded_sameStore (s : State) : SameStore s (declareDegraded s) := by
  simp only [declareDegraded]; split <;> simp

@[simp] theorem mdioFrame_sameStore (p : Nat) (bs : Bytes) (s : State) : SameStore s (mdioFrame p bs s) := by
  simp only [mdioFrame]; split <;> simp

@[simp] theorem netModeChanged_sameStore (p : Nat) (s : State) : SameStore s (netModeChanged p s) := by
  unfold netModeChanged; split <;> simp

@[simp] theorem publicationSet_sameStore (p v : Nat) (s : State) : SameStore s (publicationSet p v s) := by
  unfold publicationSet; split <;> simp

@[simp] theorem actLow_sameStore (idx sub v : Nat) (bs : Bytes) (host : Bool) (s : State) : SameStore s (actLow idx sub v bs host s) := by
  unfold actLow; repeat' split
  all_goals simp

@[simp] theorem originWritten_sameStore (v : Nat) (s : State) : SameStore s (originWritten v s) := by
  simp [originWritten]

@[simp] theorem actMotion_sameStore (idx sub v old : Nat) (s : State) : SameStore s (actMotion idx sub v old s) := by
  unfold actMotion; repeat' split
  all_goals simp

@[simp] theorem actGallery_sameStore (g part sub v : Nat) (bs : Bytes) (host : Bool) (s : State) : SameStore s (actGallery g part sub v bs host s) := by
  unfold actGallery; split <;> simp

@[simp] theorem overrideHead_sameStore (b v : Nat) (s : State) : SameStore s (overrideHead b v s) := by
  simp only [overrideHead]; repeat' split
  all_goals simp

@[simp] theorem actLink_sameStore (idx sub v old : Nat) (s : State) : SameStore s (actLink idx sub v old s) := by
  unfold actLink; repeat' split
  all_goals simp

@[simp] theorem actReserve_sameStore (idx sub v old : Nat) (bs : Bytes) (s : State) : SameStore s (actReserve idx sub v old bs s) := by
  unfold actReserve; repeat' split
  all_goals simp

@[simp] theorem actCamera_sameStore (idx sub v old : Nat) (s : State) : SameStore s (actCamera idx sub v old s) := by
  unfold actCamera; repeat' split
  all_goals simp

@[simp] theorem actHigh_sameStore (idx sub v : Nat) (s : State) : SameStore s (actHigh idx sub v s) := by
  unfold actHigh; repeat' split
  all_goals simp

@[simp] theorem actOwn_sameStore (idx sub old : Nat) (bs : Bytes) (host : Bool) (s : State) : SameStore s (actOwn idx sub old bs host s) := by
  unfold actOwn; repeat' split
  all_goals simp

@[simp] theorem actEntry_sameStore (idx sub old : Nat) (bs : Bytes) (host : Bool) (s : State) : SameStore s (actEntry idx sub old bs host s) := by
  unfold actEntry; split <;> simp

@[simp] theorem storeValue_sameStore (idx : Nat) (r : Row) (bs : Bytes) (s : State) : SameStore s (storeValue idx r bs s) := by
  unfold storeValue; split <;> simp

@[simp] theorem storeDomain_sameStore (idx : Nat) (r : Row) (bs : Bytes) (s : State) : SameStore s (storeDomain idx r bs s) := by
  unfold storeDomain; split <;> simp

@[simp] theorem applyEntry_sameStore (idx : Nat) (r : Row) (bs : Bytes) (host : Bool) (s : State) :
    SameStore s (applyEntry idx r bs host s).2.2 := by
  unfold applyEntry; repeat' split
  all_goals simp

/-! Respond -/

@[simp] theorem answerMailbox_sameStore (tag : Nat) (body : Bytes) (s : State) : SameStore s (answerMailbox tag body s) := by
  simp [answerMailbox]

@[simp] theorem answerSession_sameStore (k seq : Nat) (body : Bytes) (s : State) : SameStore s (answerSession k seq body s) := by
  unfold answerSession; split <;> simp

@[simp] theorem respond_sameStore (t : Trans) (result : Nat) (data : Bytes) (s : State) : SameStore s (respond t result data s) := by
  unfold respond; split <;> simp

@[simp] theorem refuseWith_sameStore (t : Trans) (code : Nat) (s : State) : SameStore s (refuseWith t code s) := by
  simp [refuseWith]

/-! Serve -/

@[simp] theorem finishWrite_sameStore (t : Trans) (idx : Nat) (r : Row) (bs : Bytes) (s : State) : SameStore s (finishWrite t idx r bs s) := by
  simp [finishWrite]

@[simp] theorem commitWrite_sameStore (t : Trans) (idx : Nat) (r : Row) (bs : Bytes) (s : State) : SameStore s (commitWrite t idx r bs s) := by
  unfold commitWrite; repeat' split
  all_goals simp

@[simp] theorem noteArm_sameStore (idx sub code : Nat) (bs : Bytes) (s : State) : SameStore s (noteArm idx sub code bs s) := by
  unfold noteArm; split <;> simp

@[simp] theorem regWrite_sameStore (t : Trans) (l : Nat) (s : State) : SameStore s (regWrite t l s) := by
  simp [regWrite]

@[simp] theorem serveWrite_sameStore (t : Trans) (r : Row) (s : State) : SameStore s (serveWrite t r s) := by
  simp only [serveWrite]; repeat' split
  all_goals simp

@[simp] theorem serveRead_sameStore (t : Trans) (r : Row) (s : State) : SameStore s (serveRead t r s) := by
  simp only [serveRead]; repeat' split
  all_goals simp

@[simp] theorem putXfer_sameStore (key : Nat) (x : Xfer) (s : State) : SameStore s (putXfer key x s) := by
  unfold putXfer; split <;> simp

@[simp] theorem endXfer_sameStore (key : Nat) (s : State) : SameStore s (endXfer key s) := by
  simp [endXfer]

@[simp] theorem dropIdle_sameStore (s : State) : SameStore s (dropIdle s) := by
  simp [dropIdle]

@[simp] theorem serveReadStart_sameStore (t : Trans) (r : Row) (s : State) : SameStore s (serveReadStart t r s) := by
  simp only [serveReadStart]; repeat' split
  all_goals simp

@[simp] theorem completeWrite_sameStore (t : Trans) (r : Row) (crc : Nat) (bs : Bytes) (s : State) : SameStore s (completeWrite t r crc bs s) := by
  simp only [completeWrite]; repeat' split
  all_goals simp

@[simp] theorem serveWriteStart_sameStore (t : Trans) (r : Row) (s : State) : SameStore s (serveWriteStart t r s) := by
  simp only [serveWriteStart]; repeat' split
  all_goals simp

@[simp] theorem serveWriteSegment_sameStore (t : Trans) (r : Row) (s : State) : SameStore s (serveWriteSegment t r s) := by
  simp only [serveWriteSegment]; repeat' split
  all_goals simp

@[simp] theorem serveReadSegment_sameStore (t : Trans) (r : Row) (s : State) : SameStore s (serveReadSegment t r s) := by
  simp only [serveReadSegment]; repeat' split
  all_goals simp

@[simp] theorem serveVendor_sameStore (t : Trans) (s : State) : SameStore s (serveVendor t s) := by
  unfold serveVendor; split <;> simp

@[simp] theorem serveEntry_sameStore (t : Trans) (r : Row) (s : State) : SameStore s (serveEntry t r s) := by
  unfold serveEntry; split <;> simp

@[simp] theorem serveNow_sameStore (t : Trans) (s : State) : SameStore s (serveNow t s) := by
  simp only [serveNow]; repeat' split
  all_goals simp

@[simp] theorem answerRegWait_sameStore (s : State) : SameStore s (answerRegWait s) := by
  unfold answerRegWait; repeat' split
  all_goals simp

@[simp] theorem serveQueue_sameStore (n : Nat) (s : State) : SameStore s (serveQueue n s) := by
  induction n generalizing s with
  | zero => simp [serveQueue]
  | succ n ih =>
    unfold serveQueue; repeat' split
    all_goals simp [ih]

@[simp] theorem serveWaiting_sameStore (s : State) : SameStore s (serveWaiting s) := by
  simp [serveWaiting]

@[simp] theorem serve_sameStore (t : Trans) (s : State) : SameStore s (serve t s) := by
  simp [serve]

@[simp] theorem touchSession_sameStore (r : Route) (s : State) : SameStore s (touchSession r s) := by
  unfold touchSession; split <;> simp

@[simp] theorem command_sameStore (r : Route) (service idx sub : Nat) (data : Bytes) (s : State) : SameStore s (command r service idx sub data s) := by
  unfold command; split <;> simp

@[simp] theorem catWrite_sameStore (r : Route) (idx sub : Nat) (data : Bytes) (s : State) : SameStore s (catWrite r idx sub data s) := by
  simp [catWrite]

@[simp] theorem doTransferTimeout_sameStore (route : Nat) (s : State) : SameStore s (doTransferTimeout route s) := by
  unfold doTransferTimeout; repeat' split
  all_goals simp

/-! Commands -/

@[simp] theorem doMdioRequest_sameStore (r : Route) (p : Nat) (data : Bytes) (phy : Nat) (s : State) : SameStore s (doMdioRequest r p data phy s) := by
  simp only [doMdioRequest]; split <;> simp

/-! LongOps -/

@[simp] theorem flushExports_sameStore (r n : Nat) (s : State) : SameStore s (flushExports r n s) := by
  induction n generalizing s with
  | zero => simp [flushExports]
  | succ n ih => simp only [flushExports]; split <;> simp [ih]

@[simp] theorem flushProvenance_sameStore (s : State) : SameStore s (flushProvenance s) := by
  simp [flushProvenance]

@[simp] theorem idleLane_sameStore (l : Nat) (s : State) : SameStore s (idleLane l s) := by
  unfold idleLane; repeat' split
  all_goals simp

@[simp] theorem finishShutdown_sameStore (k : Nat) (s : State) : SameStore s (finishShutdown k s) := by
  simp [finishShutdown]

@[simp] theorem sliceResync_sameStore (k : Nat) (s : State) : SameStore s (sliceResync k s) := by
  simp only [sliceResync]; repeat' split
  all_goals simp

@[simp] theorem beginSlices_sameStore (k : Nat) (s : State) : SameStore s (beginSlices k s) := by
  simp only [beginSlices]; repeat' split
  all_goals simp

/-! Registers -/

@[simp] theorem doDoorbell_sameStore (v : Nat) (s : State) : SameStore s (doDoorbell v s) := by
  simp only [doDoorbell]; repeat' split
  all_goals simp

@[simp] theorem writeRequest_sameStore (i : Nat) (b : Byte) (s : State) : SameStore s (writeRequest i b s) := by
  simp only [writeRequest]; split <;> simp

@[simp] theorem enableWrite_sameStore (t i v : Nat) (s : State) : SameStore s (enableWrite t i v s) := by
  simp [enableWrite]

@[simp] theorem prioWrite_sameStore (i v : Nat) (s : State) : SameStore s (prioWrite i v s) := by
  simp [prioWrite]

@[simp] theorem coalWrite_sameStore (src v : Nat) (s : State) : SameStore s (coalWrite src v s) := by
  unfold coalWrite; split <;> simp

@[simp] theorem icWrite_sameStore (o v : Nat) (s : State) : SameStore s (icWrite o v s) := by
  unfold icWrite; repeat' split
  all_goals simp

@[simp] theorem crcWrite_sameStore (o v : Nat) (s : State) : SameStore s (crcWrite o v s) := by
  unfold crcWrite; split <;> simp

@[simp] theorem msixWrite_sameStore (o v : Nat) (s : State) : SameStore s (msixWrite o v s) := by
  simp [msixWrite]

@[simp] theorem registerWrite_sameStore (a v : Nat) (s : State) : SameStore s (registerWrite a v s) := by
  unfold registerWrite; repeat' split
  all_goals simp

@[simp] theorem wordWrite_sameStore (a : Nat) (bs : Bytes) (s : State) : SameStore s (wordWrite a bs s) := by
  unfold wordWrite; repeat' split
  all_goals simp

@[simp] theorem barWrite_sameStore (n a : Nat) (bs : Bytes) (s : State) : SameStore s (barWrite n a bs s) := by
  induction n generalizing a bs s with
  | zero => simp [barWrite]
  | succ n ih => unfold barWrite; split <;> simp [ih]

/-! NetServe -/

@[simp] theorem acceptRequest_sameStore (k : Nat) (src : NetSrc) (m : Msg) (x : Session) (s : State) : SameStore s (acceptRequest k src m x s) := by
  simp [acceptRequest]

@[simp] theorem repeatRequest_sameStore (k : Nat) (src : NetSrc) (m : Msg) (x : Session) (s : State) : SameStore s (repeatRequest k src m x s) := by
  unfold repeatRequest; repeat' split
  all_goals simp

@[simp] theorem doRequest_sameStore (src : NetSrc) (m : Msg) (k : Nat) (x : Session) (s : State) : SameStore s (doRequest src m k x s) := by
  simp only [doRequest]; repeat' split
  all_goals simp

@[simp] theorem doIdentRead_sameStore (src : NetSrc) (m : Msg) (s : State) : SameStore s (doIdentRead src m s) := by
  unfold doIdentRead; split <;> simp

@[simp] theorem doPublication_sameStore (p : Nat) (s : State) : SameStore s (doPublication p s) := by
  unfold doPublication; repeat' split
  all_goals simp

/-! PairServe -/

@[simp] theorem inSequence_sameStore (n : Nat) (f : State → State) (hf : ∀ s, SameStore s (f s)) (s : State) : SameStore s (inSequence n f s) := by
  unfold inSequence; repeat' split
  all_goals simp [hf]

@[simp] theorem takeCauses_sameStore (causes : Nat) (s : State) : SameStore s (takeCauses causes s) := by
  simp [takeCauses]

@[simp] theorem applyMirror_sameStore (n : Nat) (b : MirrorBody) (s : State) : SameStore s (applyMirror n b s) := by
  simp only [applyMirror]; repeat' split
  all_goals simp

@[simp] theorem takeMirrored_sameStore (n : Nat) (bs : Bytes) (s : State) : SameStore s (takeMirrored n bs s) := by
  simp only [takeMirrored]; split <;> simp

@[simp] theorem confirmWrite_sameStore (t : Trans) (code : Nat) (s : State) : SameStore s (confirmWrite t code s) := by
  simp only [confirmWrite]; repeat' split
  all_goals simp

@[simp] theorem releaseDirects_sameStore (s : State) : SameStore s (releaseDirects s) := by
  simp [releaseDirects]

@[simp] theorem imageEntry_sameStore (idx sub : Nat) (data : Bytes) (s : State) : SameStore s (imageEntry idx sub data s) := by
  simp only [imageEntry]; repeat' split
  all_goals simp

@[simp] theorem imageMode_sameStore (mode printing causes : Nat) (s : State) : SameStore s (imageMode mode printing causes s) := by
  simp only [imageMode]; repeat' split
  all_goals simp

@[simp] theorem imageTable_sameStore (g : Nat) (spare : Bool) (st : Nat) (t : NozTable) (swaps : Nat) (s : State) : SameStore s (imageTable g spare st t swaps s) := by
  simp [imageTable]

@[simp] theorem imagePlan_sameStore (armed : Bool) (id base switch : Nat) (s : State) : SameStore s (imagePlan armed id base switch s) := by
  simp only [imagePlan]; split <;> simp

end Sys2Proof.Machine
end

section
/-! The operations that write the Reserve's memory or reset it: they leave the queue of waiting commands as it is and the memory in
canonical form. From them, and from those that change neither, the same of every command. -/

namespace Sys2Proof.Machine

set_option Elab.async false -- one proof at a time: the checks of many at once take more memory than the check of this file allows

/-- t has the queue of s, and its Reserve's memory is in canonical form where that of s is. -/
@[simp, reducible] def KeepsForm (s t : State) : Prop :=
  t.pending = s.pending ∧ (Memory.wf s.res.mem = true → Memory.wf t.res.mem = true)

theorem SameStore.keepsForm {s t : State} (h : SameStore s t) : KeepsForm s t := ⟨h.1, fun hm => by rwa [h.2]⟩

theorem KeepsForm.trans {s t u : State} (h : KeepsForm s t) (h' : KeepsForm t u) : KeepsForm s u :=
  ⟨h'.1.trans h.1, h'.2 ∘ h.2⟩

theorem forEach_keepsForm {α : Type} {f : α → State → State} (hf : ∀ x s, KeepsForm s (f x s)) (xs : List α) (s : State) :
    KeepsForm s (forEach xs f s) := by
  induction xs generalizing s with
  | nil => exact ⟨rfl, id⟩
  | cons x xs ih => exact (hf x s).trans (ih (f x s))

/-! Writes of the Reserve -/

@[simp] theorem resWrite_keepsForm (a : Nat) (bs : Bytes) (s : State) : KeepsForm s (resWrite a bs s) :=
  ⟨rfl, fun h => Memory.wf_write h a bs⟩

@[simp] theorem commitSegment_keepsForm (id type len crc off route : Nat) (bs : Option Bytes) (s : State) :
    KeepsForm s (commitSegment id type len crc off route bs s) := by
  simp only [commitSegment]; split <;> simp +contextual

@[simp] theorem commitFlight_keepsForm (f : Flight) (s : State) : KeepsForm s (commitFlight f s) := by
  simp +contextual [commitFlight]

@[simp] theorem settleFlight_keepsForm (f : Flight) (s : State) : KeepsForm s (settleFlight f s) := by
  unfold settleFlight; split <;> simp +contextual

@[simp] theorem transferDone_keepsForm (f : Flight) (s : State) : KeepsForm s (transferDone f s) := by
  simp only [transferDone]; repeat' split
  all_goals simp +contextual

@[simp] theorem doTransferDone_keepsForm (id : Nat) (s : State) : KeepsForm s (doTransferDone id s) := by
  unfold doTransferDone; split <;> simp +contextual

@[simp] theorem confirmFlight_keepsForm (n code : Nat) (s : State) : KeepsForm s (confirmFlight n code s) := by
  simp only [confirmFlight]; repeat' split
  all_goals simp +contextual

@[simp] theorem finishDirect_keepsForm (k : Nat) (s : State) : KeepsForm s (finishDirect k s) := by
  simp only [finishDirect]; repeat' split
  all_goals simp +contextual

@[simp] theorem landDirect_keepsForm (a : Nat) (bs : Bytes) (s : State) : KeepsForm s (landDirect a bs s) := by
  simp only [landDirect]; repeat' split
  all_goals simp +contextual

@[simp] theorem directWrite_keepsForm (id o : Nat) (bs : Bytes) (s : State) : KeepsForm s (directWrite id o bs s) := by
  unfold directWrite; repeat' split
  all_goals simp +contextual

@[simp] theorem directEnds_keepsForm (n id : Nat) (s : State) : KeepsForm s (directEnds n id s) := by
  simp only [directEnds]; repeat' split
  all_goals simp +contextual

@[simp] theorem takePart_keepsForm (n : Nat) (part : SegmentPart) (s : State) : KeepsForm s (takePart n part s) := by
  unfold takePart; repeat' split
  all_goals simp +contextual

@[simp] theorem doConfirm_keepsForm (n code : Nat) (s : State) : KeepsForm s (doConfirm n code s) := by
  simp only [doConfirm]; repeat' split
  all_goals simp +contextual

@[simp] theorem releaseFlights_keepsForm (s : State) : KeepsForm s (releaseFlights s) := by
  refine forEach_keepsForm (fun f s => ?_) _ _
  dsimp only
  split <;> simp +contextual

@[simp] theorem standAlone_keepsForm (s : State) : KeepsForm s (standAlone s) := by
  simp only [standAlone]; split <;> simp +contextual

/-- The place found for the segment is named before the match on it is opened: the kernel would compute it from the state otherwise. -/
@[simp] theorem imageSegment_keepsForm (n type : Nat) (bs : Bytes) (s : State) : KeepsForm s (imageSegment n type bs s) := by
  have unfolded : imageSegment = imageSegment := rfl
  conv at unfolded => rhs; delta imageSegment
  rw [unfolded]
  generalize State.place = place
  revert place
  refine id fun place => ?_
  dsimp only
  split <;> simp +contextual

@[simp] theorem takeItem_keepsForm (item : ResyncItem) (s : State) : KeepsForm s (takeItem item s) := by
  cases item <;> simp +contextual [takeItem]

@[simp] theorem doResyncData_keepsForm (item : ResyncItem) (s : State) : KeepsForm s (doResyncData item s) := by
  unfold doResyncData; split <;> simp +contextual

@[simp] theorem frameLine_keepsForm (c : Nat) (px : List (BitVec 12)) (crcOk : Bool) (s : State) :
    KeepsForm s (frameLine c px crcOk s) := by
  simp only [frameLine]; repeat' split
  all_goals simp +contextual

@[simp] theorem longPacket_keepsForm (p dataType : Nat) (px : List (BitVec 12)) (crcOk : Bool) (c : Nat) (s : State) :
    KeepsForm s (longPacket p dataType px crcOk c s) := by
  unfold longPacket; repeat' split
  all_goals simp +contextual

@[simp] theorem frameEnd_keepsForm (c n : Nat) (s : State) : KeepsForm s (frameEnd c n s) := by
  simp only [frameEnd]; repeat' split
  all_goals simp +contextual

@[simp] theorem endPacket_keepsForm (p n c : Nat) (s : State) : KeepsForm s (endPacket p n c s) := by
  unfold endPacket; split <;> simp +contextual

@[simp] theorem lastSlice_keepsForm (k : Nat) (obs : SliceObs) (s : State) : KeepsForm s (lastSlice k obs s) := by
  simp only [lastSlice]; repeat' split
  all_goals simp +contextual

@[simp] theorem workSlice_keepsForm (k p : Nat) (obs : SliceObs) (s : State) : KeepsForm s (workSlice k p obs s) := by
  simp only [workSlice]; repeat' split
  all_goals simp +contextual

@[simp] theorem doSlice_keepsForm (k p : Nat) (obs : SliceObs) (s : State) : KeepsForm s (doSlice k p obs s) := by
  simp only [doSlice]; repeat' split
  all_goals simp +contextual

/-! Resets, after which the memory lists nothing -/

@[simp] theorem resetBase_keepsForm (cause straps : Nat) (s : State) : KeepsForm s (resetBase cause straps s) := ⟨rfl, fun _ => rfl⟩

@[simp] theorem warmReset_keepsForm (cause : Nat) (s : State) : KeepsForm s (warmReset cause s) := by
  simp +contextual [warmReset]

@[simp] theorem coldReset_keepsForm (straps : Nat) (s : State) : KeepsForm s (coldReset straps s) := by
  simp +contextual [coldReset]

@[simp] theorem doResetTakes_keepsForm (s : State) : KeepsForm s (doResetTakes s) := by
  unfold doResetTakes; repeat' split
  all_goals simp +contextual

@[simp] theorem doFatalReset_keepsForm (s : State) : KeepsForm s (doFatalReset s) := by
  unfold doFatalReset; repeat' split
  all_goals simp +contextual

@[simp] theorem endTest_keepsForm (r : TestRun) (status stop cause : Nat) (s : State) : KeepsForm s (endTest r status stop cause s) := by
  simp only [endTest]
  exact warmReset_keepsForm cause _

@[simp] theorem doPhaseEnd_keepsForm (results : List DomainResult) (s : State) : KeepsForm s (doPhaseEnd results s) := by
  simp only [doPhaseEnd]; repeat' split
  all_goals simp +contextual

theorem orStop_keepsForm (stop cause : Nat) {f : State → State} (hf : ∀ s, KeepsForm s (f s)) (s : State) :
    KeepsForm s (orStop stop cause f s) := by
  unfold orStop; repeat' split
  · exact endTest_keepsForm _ 2 stop cause s
  · exact hf s
  · exact hf s

@[simp] theorem doSupplyFault_keepsForm (rail mv : Nat) (s : State) : KeepsForm s (doSupplyFault rail mv s) := by
  simp only [doSupplyFault]; split
  · simp
  · refine KeepsForm.trans (SameStore.keepsForm ?_) (orStop_keepsForm 1 2 (fun s => SameStore.keepsForm ?_) _) <;> simp

@[simp] theorem doClockFault_keepsForm (which : ClockFault) (s : State) : KeepsForm s (doClockFault which s) := by
  simp only [doClockFault]; split
  · simp
  · simp
  · split
    · simp
    · refine KeepsForm.trans (SameStore.keepsForm ?_) (orStop_keepsForm 2 2 (fun s => SameStore.keepsForm ?_) _) <;> simp

/-! What is done only where a condition stands -/

theorem ite_keepsForm {s t u : State} {c : Prop} [Decidable c] (ht : KeepsForm s t) (hu : KeepsForm s u) :
    KeepsForm s (if c then t else u) := by
  split
  · exact ht
  · exact hu

theorem onBar_keepsForm {f : State → State} (hf : ∀ s, KeepsForm s (f s)) (s : State) : KeepsForm s (onBar f s) := by
  unfold onBar; split
  · exact hf s
  · simp

theorem onPair_keepsForm {f : State → State} (hf : ∀ s, KeepsForm s (f s)) (s : State) : KeepsForm s (onPair f s) := by
  unfold onPair; split
  · simp
  · exact hf s

theorem inSequence_keepsForm (n : Nat) {f : State → State} (hf : ∀ s, KeepsForm s (f s)) (s : State) :
    KeepsForm s (inSequence n f s) := by
  unfold inSequence; repeat' split
  · simp
  · simp
  · exact hf _

theorem onPacket_keepsForm (p : Nat) (corrected : Bool) {f : State → State} (hf : ∀ s, KeepsForm s (f s)) (s : State) :
    KeepsForm s (onPacket p corrected f s) := by
  unfold onPacket; split
  · simp
  · exact KeepsForm.trans (SameStore.keepsForm (by simp)) (hf _)

theorem toContext_keepsForm (p vc : Nat) {f : Nat → State → State} (hf : ∀ c s, KeepsForm s (f c s)) (s : State) :
    KeepsForm s (toContext p vc f s) := by
  unfold toContext; split
  · simp
  · exact hf _ s

/-! The commands -/

theorem advance_sameStore (dt : Nat) (s : State) : SameStore s (advance dt s) := ⟨rfl, rfl⟩

theorem next_keepsForm {s u : State} (h : KeepsForm s u) : ∃ v, next u = next v ∧ KeepsForm s v := ⟨u, rfl, h⟩

/-- Every command answers a next state, settled, with the queue as it is and the memory in canonical form where it was so. -/
theorem exec_keepsForm (c : Instr) (s : State) : ∃ u, exec c s = next u ∧ KeepsForm s u := by
  have timed : ∀ dt {f : State → State}, (∀ s, KeepsForm s (f s)) → ∃ u, next (f (advance dt s)) = next u ∧ KeepsForm s u :=
    fun dt f hf => next_keepsForm ((advance_sameStore dt s).keepsForm.trans (hf _))
  cases c with
  | reserveBarWrite dt offset data => exact timed dt (onBar_keepsForm fun s => landDirect_keepsForm _ data s)
  | csiLongPacket dt port header dataType pixels crcOk =>
    exact timed dt (onPacket_keepsForm _ _ (toContext_keepsForm _ _ (longPacket_keepsForm _ _ pixels crcOk)))
  | csiFrameEnd dt port header number => exact timed dt (onPacket_keepsForm _ _ (toContext_keepsForm _ _ (endPacket_keepsForm _ _)))
  | segmentReceived dt seq part => exact timed dt (onPair_keepsForm (inSequence_keepsForm _ (takePart_keepsForm _ part)))
  | confirmReceived dt seq result => exact timed dt (onPair_keepsForm (doConfirm_keepsForm _ _))
  | resyncDataReceived dt item => exact timed dt (onPair_keepsForm (doResyncData_keepsForm item))
  | resetPin dt => exact timed dt (orStop_keepsForm 3 1 (warmReset_keepsForm 1))
  | mirrorTimeout dt =>
    exact timed dt (f := fun s => if s.mirrorLate then standAlone s else s) fun s => ite_keepsForm (standAlone_keepsForm s) ⟨rfl, id⟩
  | hostHeartbeatTick dt =>
    simp only [exec_hostHeartbeatTick, execHostHeartbeatTick]
    split <;> exact next_keepsForm (by simp)
  | sessionIdleTimeout dt slot => exact next_keepsForm (by split <;> simp)
  | pfailRelease dt => exact next_keepsForm (by split <;> simp)
  | _ => exact next_keepsForm (by simp +contextual)

/-- Settles O2, by what every command leaves: a next state with the queue as it is. -/
theorem everyCommandCompletes : Obligations.EveryCommandCompletes := by
  intro c s
  obtain ⟨u, hexec, hqueue, -⟩ := exec_keepsForm c s
  exact ⟨settle u, hexec, (settle_sameStore u).1.trans hqueue⟩

/-- A step either idles, or answers the settled outcome of a command that keeps the memory's form. -/
theorem step_cases {s t : State} (hstep : step s = .next t) :
    t = s ∨ ∃ u, t = settle u ∧ (Memory.wf s.res.mem = true → Memory.wf u.res.mem = true) := by
  unfold step at hstep
  split at hstep
  · cases hstep
    exact .inl rfl
  · rename_i c rest hqueue
    obtain ⟨u, hexec, -, hform⟩ := exec_keepsForm c { s with pending := rest }
    rw [hexec, next] at hstep
    exact .inr ⟨u, (Host.Outcome.next.inj hstep).symm, hform⟩

/-- Settles O4: settling leaves the memory as the command did, and that in canonical form. -/
theorem stepKeepsMemory : Obligations.StepKeepsMemory := by
  intro s t hmem hstep
  obtain rfl | ⟨u, rfl, hform⟩ := step_cases hstep
  · exact hmem
  · rw [(settle_sameStore u).2]
    exact hform hmem

end Sys2Proof.Machine
end

section
/-! What follows by itself at the end of a command, operation by operation: the parts of the state that it never changes. -/

namespace Sys2Proof.Machine

set_option Elab.async false -- one proof at a time: the checks of many at once take more memory than the check of this file allows

/-- t has every part of s that settling a block never changes, besides the system's own. -/
@[simp, reducible] def SameGround (s t : State) : Prop :=
  t.pending = s.pending ∧ t.free = s.free ∧ t.clk = s.clk ∧ t.crc = s.crc ∧ t.res = s.res ∧ t.dram = s.dram ∧
  t.therm = s.therm ∧ t.cal = s.cal ∧ t.arc = s.arc ∧ t.encs = s.encs ∧ t.cmps = s.cmps ∧ t.pulses = s.pulses ∧
  t.emus = s.emus ∧ t.gates = s.gates ∧ t.pred = s.pred ∧ t.ctxs = s.ctxs ∧ t.ports = s.ports ∧ t.pipe = s.pipe ∧
  t.reports = s.reports ∧ t.lastContext = s.lastContext ∧ t.sweeps = s.sweeps ∧ t.dgateAt = s.dgateAt ∧ t.lamps = s.lamps ∧
  t.chains = s.chains ∧ t.test = s.test ∧ t.tap = s.tap ∧ t.porstLow = s.porstLow ∧ t.pair.role = s.pair.role ∧
  t.ic.stack = s.ic.stack

theorem SameGround.trans {s t u : State} (h : SameGround s t) (h' : SameGround t u) : SameGround s u := by
  simp_all

@[simp] theorem forEach_sameGround {α : Type} {f : α → State → State} (hf : ∀ x s, SameGround s (f x s) ∧ (f x s).sys = s.sys)
    (xs : List α) (s : State) : SameGround s (forEach xs f s) ∧ (forEach xs f s).sys = s.sys := by
  induction xs generalizing s with
  | nil => simp [forEach]
  | cons x xs ih => exact ⟨(hf x s).1.trans (ih (f x s)).1, (ih (f x s)).2.trans (hf x s).2⟩

@[simp] theorem bump_sameGround (idx sub w : Nat) (s : State) : SameGround s (bump idx sub w s) ∧ (bump idx sub w s).sys = s.sys := by
  simp only [bump]
  simp

@[simp] theorem bumpBy_sameGround (idx sub w n : Nat) (s : State) : SameGround s (bumpBy idx sub w n s) ∧ (bumpBy idx sub w n s).sys = s.sys := by
  simp only [bumpBy]
  simp

@[simp] theorem mirrorSend_sameGround (mk : Nat → PairOut) (s : State) : SameGround s (mirrorSend mk s) ∧ (mirrorSend mk s).sys = s.sys := by
  simp only [mirrorSend]
  simp

@[simp] theorem mirrorEntry_sameGround (idx sub : Nat) (bs : Bytes) (s : State) : SameGround s (mirrorEntry idx sub bs s) ∧ (mirrorEntry idx sub bs s).sys = s.sys := by
  simp only [mirrorEntry]; repeat' split
  all_goals simp

@[simp] theorem ringPut_sameGround (r : Nat) (x : Slot) (s : State) : SameGround s (ringPut r x s) ∧ (ringPut r x s).sys = s.sys := by
  simp only [ringPut]; repeat' split
  all_goals simp

@[simp] theorem countRec_sameGround (time source : Nat) (s : State) : SameGround s (countRec time source s) ∧ (countRec time source s).sys = s.sys := by
  simp only [countRec]
  simp

@[simp] theorem pushRec_sameGround (r : Rec) (s : State) : SameGround s (pushRec r s) ∧ (pushRec r s).sys = s.sys := by
  simp only [pushRec]; repeat' split
  all_goals simp

/-- An edge of a source changes pending bits and counts, and no stack. -/
@[simp] theorem pendIrq_stack (src : Nat) (s : State) : (pendIrq src s).ic.stack = s.ic.stack := by
  simp only [pendIrq, Ic.raiseEdge]; repeat' split
  all_goals rfl

@[simp] theorem putEvent_sameGround (t code source : Nat) (arg : Bytes) (s : State) : SameGround s (putEvent t code source arg s) ∧ (putEvent t code source arg s).sys = s.sys := by
  simp only [putEvent]; repeat' split
  all_goals simp

@[simp] theorem noteOverwritten_sameGround (r : Nat) (s : State) : SameGround s (noteOverwritten r s) ∧ (noteOverwritten r s).sys = s.sys := by
  simp only [noteOverwritten]; repeat' split
  all_goals simp

@[simp] theorem raiseAt_sameGround (t code source : Nat) (arg : Bytes) (s : State) : SameGround s (raiseAt t code source arg s) ∧ (raiseAt t code source arg s).sys = s.sys := by
  simp only [raiseAt]; repeat' split
  all_goals simp

@[simp] theorem raise_sameGround (code source : Nat) (arg : Bytes) (s : State) : SameGround s (raise code source arg s) ∧ (raise code source arg s).sys = s.sys := by
  simp only [raise]
  simp

@[simp] theorem raiseLimitedAt_sameGround (t gap code object source : Nat) (arg : Bytes) (s : State) : SameGround s (raiseLimitedAt t gap code object source arg s) ∧ (raiseLimitedAt t gap code object source arg s).sys = s.sys := by
  simp only [raiseLimitedAt]; repeat' split
  all_goals simp

@[simp] theorem loseTiles_sameGround (q : Nat) (c : CapQ) (s : State) : SameGround s (loseTiles q c s) ∧ (loseTiles q c s).sys = s.sys := by
  simp only [loseTiles]; repeat' split
  all_goals simp

@[simp] theorem retireTile_sameGround (q i : Nat) (s : State) : SameGround s (retireTile q i s) ∧ (retireTile q i s).sys = s.sys := by
  simp only [retireTile]; repeat' split
  all_goals simp

@[simp] theorem retireTouched_sameGround (q : Nat) (s : State) : SameGround s (retireTouched q s) ∧ (retireTouched q s).sys = s.sys := by
  simp only [retireTouched]
  simp

@[simp] theorem endOp_sameGround (k : Nat) (st : LState) (result : Nat) (s : State) : SameGround s (endOp k st result s) ∧ (endOp k st result s).sys = s.sys := by
  simp only [endOp]; repeat' split
  all_goals simp

@[simp] theorem abortOp_sameGround (k code : Nat) (s : State) : SameGround s (abortOp k code s) ∧ (abortOp k code s).sys = s.sys := by
  simp only [abortOp]; repeat' split
  all_goals simp

@[simp] theorem forceAborts_sameGround (m : Mode) (s : State) : SameGround s (forceAborts m s) ∧ (forceAborts m s).sys = s.sys := by
  refine forEach_sameGround (fun k s => ?_) _ _
  dsimp only
  split <;> simp

@[simp] theorem sendLink_sameGround (k : Nat) (o : LinkOut) (s : State) : SameGround s (sendLink k o s) ∧ (sendLink k o s).sys = s.sys := by
  simp only [sendLink]; repeat' split
  all_goals simp

@[simp] theorem sendFrame_sameGround (l : Nat) (f : Frame) (s : State) : SameGround s (sendFrame l f s) ∧ (sendFrame l f s).sys = s.sys := by
  simp only [sendFrame]; repeat' split
  all_goals simp

@[simp] theorem sendResync_sameGround (l : Nat) (s : State) : SameGround s (sendResync l s) ∧ (sendResync l s).sys = s.sys := by
  simp only [sendResync]
  simp

@[simp] theorem sendCancel_sameGround (l line : Nat) (service : Bool) (s : State) : SameGround s (sendCancel l line service s) ∧ (sendCancel l line service s).sys = s.sys := by
  simp only [sendCancel]; repeat' split
  all_goals simp

@[simp] theorem sendTimeSync_sameGround (l : Nat) (s : State) : SameGround s (sendTimeSync l s) ∧ (sendTimeSync l s).sys = s.sys := by
  simp only [sendTimeSync]; repeat' split
  all_goals simp

@[simp] theorem sendCtrl_sameGround (l : Nat) (c : Ctrl) (rest : List Ctrl) (s : State) : SameGround s (sendCtrl l c rest s) ∧ (sendCtrl l c rest s).sys = s.sys := by
  simp only [sendCtrl]; repeat' split
  all_goals simp

@[simp] theorem pumpLane_sameGround (l : Nat) (s : State) : SameGround s (pumpLane l s) ∧ (pumpLane l s).sys = s.sys := by
  simp only [pumpLane]; repeat' split
  all_goals simp

@[simp] theorem queueCtrl_sameGround (l type : Nat) (payload : Nat → Bytes) (user : CtrlUser) (s : State) : SameGround s (queueCtrl l type payload user s) ∧ (queueCtrl l type payload user s).sys = s.sys := by
  simp only [queueCtrl]
  simp

@[simp] theorem ctrlWrite_sameGround (l addr : Nat) (bs : Bytes) (user : CtrlUser) (s : State) : SameGround s (ctrlWrite l addr bs user s) ∧ (ctrlWrite l addr bs user s).sys = s.sys := by
  simp only [ctrlWrite]
  simp

@[simp] theorem writeHeadPower_sameGround (l mask : Nat) (s : State) : SameGround s (writeHeadPower l mask s) ∧ (writeHeadPower l mask s).sys = s.sys := by
  simp only [writeHeadPower]; repeat' split
  all_goals simp

@[simp] theorem headPowerAll_sameGround (on : Bool) (s : State) : SameGround s (headPowerAll on s) ∧ (headPowerAll on s).sys = s.sys := by
  simp only [headPowerAll]; repeat' split
  all_goals simp

@[simp] theorem cancelLane_sameGround (t : Int) (l : Nat) (s : State) : SameGround s (cancelLane t l s) ∧ (cancelLane t l s).sys = s.sys := by
  unfold cancelLane; repeat' split
  all_goals simp

@[simp] theorem markCancelled_sameGround (bit : Nat) (t : Int) (g : Nat) (s : State) : SameGround s (markCancelled bit t g s) ∧ (markCancelled bit t g s).sys = s.sys := by
  simp only [markCancelled]; split <;> simp

@[simp] theorem cancelGalleries_sameGround (bit : Nat) (t : Int) (gs : List Nat) (s : State) : SameGround s (cancelGalleries bit t gs s) ∧ (cancelGalleries bit t gs s).sys = s.sys := by
  refine forEach_sameGround (fun g s => ?_) _ _
  have lanes := forEach_sameGround (cancelLane_sameGround t) (lanesOf g) (markCancelled bit t g s)
  exact ⟨SameGround.trans (by simp) lanes.1, lanes.2.trans (by simp)⟩

@[simp] theorem forEach_cancelLane_sameGround (n : Nat) (ls : List Nat) (s : State) :
    SameGround s (forEach ls (fun l s => if s.running l then pumpLane l (setLane l { s.lane l with cancelShot := some n } s) else s) s) ∧
      (forEach ls (fun l s => if s.running l then pumpLane l (setLane l { s.lane l with cancelShot := some n } s) else s) s).sys = s.sys := by
  refine forEach_sameGround (fun l s => ?_) _ _
  split <;> simp

@[simp] theorem cancelShots_sameGround (t : Int) (s : State) : SameGround s (cancelShots t s) ∧ (cancelShots t s).sys = s.sys := by
  unfold cancelShots; repeat' split
  · simp
  · simp
  · exact forEach_sameGround (fun g s => forEach_cancelLane_sameGround _ (lanesOf g) s) _ _

@[simp] theorem speedWarnAt_sameGround (t : Nat) (s : State) : SameGround s (speedWarnAt t s) ∧ (speedWarnAt t s).sys = s.sys := by
  simp only [speedWarnAt]; repeat' split
  all_goals simp

@[simp] theorem speedWarn_sameGround (s : State) : SameGround s (speedWarn s) ∧ (speedWarn s).sys = s.sys := by
  simp only [speedWarn]
  simp

@[simp] theorem raiseMode_sameGround (old : Mode) (cause : Nat) (s : State) : SameGround s (raiseMode old cause s) ∧ (raiseMode old cause s).sys = s.sys := by
  simp only [raiseMode]
  simp

theorem retireTouched_of_queues_sameGround (q : Nat) (s : State) :
    SameGround s (if thas s.queues q then retireTouched q s else s) ∧
      (if thas s.queues q then retireTouched q s else s).sys = s.sys := by
  split <;> simp

@[simp] theorem releasePlans_sameGround (s : State) : SameGround s (releasePlans s) ∧ (releasePlans s).sys = s.sys := by
  simp only [releasePlans]
  split <;> split <;> simp [retireTouched_of_queues_sameGround]

@[simp] theorem freeHeldOut_sameGround (s : State) : SameGround s (freeHeldOut s) ∧ (freeHeldOut s).sys = s.sys := by
  simp only [freeHeldOut]
  simp

@[simp] theorem enterMode_sameGround (old new : Mode) (s : State) :
    SameGround s (enterMode old new s) ∧ (enterMode old new s).sys.latch = s.sys.latch ∧ (enterMode old new s).sys.causes = s.sys.causes := by
  simp only [enterMode]; repeat' split
  all_goals simp

@[simp] theorem changeMode_sameGround (new : Mode) (printing cause : Nat) (s : State) :
    SameGround s (changeMode new printing cause s) ∧ (changeMode new printing cause s).sys.latch = s.sys.latch ∧ (changeMode new printing cause s).sys.causes = s.sys.causes := by
  simp only [changeMode]
  simp

@[simp] theorem stopFiring_sameGround (t : Int) (s : State) : SameGround s (stopFiring t s) ∧ (stopFiring t s).sys = s.sys := by
  simp [stopFiring]

@[simp] theorem takeCause_sameGround (bit : Nat) (s : State) : SameGround s (takeCause bit s) := by
  unfold takeCause; repeat' split
  all_goals simp

@[simp] theorem safeSet_sameGround (bit : Nat) (s : State) : SameGround s (safeSet bit s) := by
  unfold safeSet; split <;> simp

@[simp] theorem forceIdle_sameGround (s : State) :
    SameGround s (forceIdle s) ∧ (forceIdle s).sys.latch = s.sys.latch ∧ (forceIdle s).sys.causes = s.sys.causes := by
  simp only [forceIdle]; repeat' split
  all_goals simp

@[simp] theorem releaseSwap_sameGround (g : Nat) (s : State) : SameGround s (releaseSwap g s) ∧ (releaseSwap g s).sys = s.sys := by
  simp only [releaseSwap]; repeat' split
  all_goals simp

@[simp] theorem releaseSwaps_sameGround (s : State) : SameGround s (releaseSwaps s) ∧ (releaseSwaps s).sys = s.sys := by
  simp only [releaseSwaps]
  simp

@[simp] theorem lanesToShadow_sameGround (s : State) : SameGround s (lanesToShadow s) ∧ (lanesToShadow s).sys = s.sys := by
  simp [lanesToShadow]

@[simp] theorem followLoop_sameGround (g : Nat) (s : State) : SameGround s (followLoop g s) ∧ (followLoop g s).sys = s.sys := by
  simp only [followLoop]; repeat' split
  all_goals simp

@[simp] theorem followLoops_sameGround (s : State) : SameGround s (followLoops s) ∧ (followLoops s).sys = s.sys := by
  simp only [followLoops]
  simp

@[simp] theorem resumeSweep_sameGround (holds : Bool) (s : State) : SameGround s (resumeSweep holds s) ∧ (resumeSweep holds s).sys = s.sys := by
  simp only [resumeSweep]; repeat' split
  all_goals simp

@[simp] theorem regMatch_sameGround (t g : Nat) (e : Int) (s : State) : SameGround s (regMatch t g e s) ∧ (regMatch t g e s).sys = s.sys := by
  simp only [regMatch]; repeat' split
  all_goals simp

@[simp] theorem regLatch_sameGround (p t : Nat) (x : Int) (s : State) : SameGround s (regLatch p t x s) ∧ (regLatch p t x s).sys = s.sys := by
  simp only [regLatch]; repeat' split
  all_goals simp

@[simp] theorem drainLatch_sameGround (p : Nat) (x : Latch) (s : State) : SameGround s (drainLatch p x s) ∧ (drainLatch p x s).sys = s.sys := by
  simp only [drainLatch]
  simp

@[simp] theorem drainProbe_sameGround (p : Nat) (s : State) : SameGround s (drainProbe p s) ∧ (drainProbe p s).sys = s.sys := by
  simp only [drainProbe]; repeat' split
  all_goals simp

@[simp] theorem drainProbes_sameGround (s : State) : SameGround s (drainProbes s) ∧ (drainProbes s).sys = s.sys := by
  simp only [drainProbes]
  simp

@[simp] theorem muteSession_sameGround (k : Nat) (s : State) : SameGround s (muteSession k s) ∧ (muteSession k s).sys = s.sys := by
  simp only [muteSession]
  simp

@[simp] theorem closeSession_sameGround (k reason : Nat) (s : State) : SameGround s (closeSession k reason s) ∧ (closeSession k reason s).sys = s.sys := by
  simp only [closeSession]; repeat' split
  all_goals simp

@[simp] theorem closeWhere_sameGround (p : Session → Bool) (reason : Nat) (s : State) : SameGround s (closeWhere p reason s) ∧ (closeWhere p reason s).sys = s.sys := by
  refine forEach_sameGround (fun k s => ?_) _ _
  split <;> simp

@[simp] theorem dropShared_sameGround (s : State) : SameGround s (dropShared s) ∧ (dropShared s).sys = s.sys := by
  simp only [dropShared]; repeat' split
  all_goals simp

@[simp] theorem setPtp_sameGround (x : Ptp) (s : State) : SameGround s (setPtp x s) ∧ (setPtp x s).sys = s.sys := by
  simp only [setPtp]; repeat' split
  all_goals simp

@[simp] theorem ptpFollow_sameGround (s : State) : SameGround s (ptpFollow s) ∧ (ptpFollow s).sys = s.sys := by
  simp only [ptpFollow]; repeat' split
  all_goals simp

@[simp] theorem sendVector_sameGround (v : Nat) (s : State) : SameGround s (sendVector v s) ∧ (sendVector v s).sys = s.sys := by
  simp only [sendVector]; repeat' split
  all_goals simp

@[simp] theorem signalTarget_sameGround (t : Nat) (s : State) : SameGround s (signalTarget t s) ∧ (signalTarget t s).sys = s.sys := by
  simp only [signalTarget]; repeat' split
  all_goals simp

@[simp] theorem sampleLevels_sameGround (s : State) : SameGround s (sampleLevels s) ∧ (sampleLevels s).sys = s.sys := by
  simp only [sampleLevels]
  simp

@[simp] theorem driveIrqPin_sameGround (s : State) : SameGround s (driveIrqPin s) ∧ (driveIrqPin s).sys = s.sys := by
  simp only [driveIrqPin]
  simp

@[simp] theorem drivePulses_sameGround (s : State) : SameGround s (drivePulses s) ∧ (drivePulses s).sys = s.sys := by
  unfold drivePulses; split
  · refine forEach_sameGround (fun m s => ?_) _ _
    split <;> simp
  · simp

@[simp] theorem drivePins_sameGround (s : State) :
    SameGround s (drivePins s) ∧ (drivePins s).sys.latch = s.sys.latch ∧ (drivePins s).sys.causes = s.sys.causes := by
  simp only [drivePins]
  simp

@[simp] theorem tellCauses_sameGround (s : State) : SameGround s (tellCauses s) ∧ (tellCauses s).sys = s.sys := by
  simp only [tellCauses]; repeat' split
  all_goals simp

@[simp] theorem settleIrq_sameGround (s : State) : SameGround s (settleIrq s) ∧ (settleIrq s).sys = s.sys := by
  simp only [settleIrq]
  simp

@[simp] theorem holdAlign_sameGround (s : State) : SameGround s (holdAlign s) ∧ (holdAlign s).sys = s.sys := by
  simp only [holdAlign]; repeat' split
  all_goals simp

end Sys2Proof.Machine
end

section
/-! The block settled (log entry 4): what settling never changes, that it does nothing but drive the pins and signal where nothing
follows by itself, and that it leaves the protective outputs and the mode in agreement with the SAFE latch. -/

namespace Sys2Proof.Machine

set_option Elab.async false -- one proof at a time: the checks of many at once take more memory than the check of this file allows

/-! Too few lanes in RUN (R286) -/

theorem watchLanes_of_not_tooFewLanes {s : State} (h : s.tooFewLanes = false) : watchLanes s = s := by
  simp [watchLanes, h]

/-- A unit that gives up for want of lanes is no longer ACTIVE. -/
theorem giveUp_pair_role_of_active {cause : Nat} {s : State} (hmode : s.sys.mode ≠ .test) (hrole : s.pair.role = .active) :
    (giveUp cause s).pair.role = .relinquished := by
  simp only [giveUp, beq_iff_eq, hmode, hrole, if_true, if_false]
  repeat' split
  all_goals simp

theorem giveUp_not_tooFewLanes {s : State} (h : s.tooFewLanes = true) : (giveUp 7 s).tooFewLanes = false := by
  simp only [State.tooFewLanes, Bool.and_eq_true, Bool.or_eq_true, beq_iff_eq] at h
  obtain ⟨⟨⟨hrole, hmode⟩, -⟩, -⟩ := h
  have hrun : s.sys.mode ≠ .test := by rcases hmode with hmode | hmode <;> simp [hmode]
  simp [State.tooFewLanes, giveUp_pair_role_of_active hrun hrole]

theorem settle_of_tooFewLanes {s : State} (h : s.tooFewLanes = true) : settle s = settle (giveUp 7 s) := by
  have hleft := watchLanes_of_not_tooFewLanes (giveUp_not_tooFewLanes h)
  simp only [settle, hleft]
  simp [watchLanes, h]

/-- Settles O6, by what each operation of settling keeps. -/
theorem settleFrame : Obligations.SettleFrame := by
  unfold Obligations.SettleFrame
  intro s
  refine ⟨settle_of_tooFewLanes, fun h => ?_⟩
  simp [settle, watchLanes_of_not_tooFewLanes h]

/-! Where nothing follows by itself -/

theorem forEach_id {α σ : Type} {f : α → σ → σ} {xs : List α} {s : σ} (h : ∀ x ∈ xs, f x s = s) : forEach xs f s = s := by
  induction xs with
  | nil => rfl
  | cons x xs ih =>
    obtain ⟨hx, hxs⟩ := List.forall_mem_cons.1 h
    show forEach xs f (f x s) = s
    rw [hx, ih hxs]

theorem holdAlign_of_none {s : State} (h : s.pair.alignDue = none) : holdAlign s = s := by
  simp [holdAlign, h]

theorem drainProbes_of_empty {s : State} (h : ∀ p, p < 4 → (tget {} s.probes p : Probe).queue = []) : drainProbes s = s :=
  forEach_id fun p hp => by simp [drainProbe, h p (List.mem_range.1 hp)]

theorem forceIdle_of_no_latch {s : State} (h : s.sys.latch = false) : forceIdle s = s := by
  simp [forceIdle, h]

theorem releaseSwaps_of_none {s : State} (h : ∀ g, g < 8 → (s.gal g).noz.swap = none) : releaseSwaps s = s :=
  forEach_id fun g hg => by simp [releaseSwap, h g (List.mem_range.1 hg)]

theorem followLoops_of_nil {s : State} (h : s.loops = []) : followLoops s = s :=
  forEach_id fun g _ => by simp [followLoop, h, thas]

theorem resumeSweep_of_none {s : State} (holds : Bool) (h : s.sweep = none) : resumeSweep holds s = s := by
  simp [resumeSweep, h]

theorem dropShared_of_no_session {s : State} (h : s.net.sessions = []) : dropShared s = s := by
  have hnone : closeWhere (fun x => x.src.shared) 5 s = s := forEach_id fun k _ => by simp [h]
  simp [dropShared, hnone]

theorem ptpFollow_of_inControl {s : State} (h : s.inControl = true) : ptpFollow s = s := by
  simp [ptpFollow, h]

theorem tellCauses_of_told {s : State} (h : s.sys.causes = s.pair.causesTold) : tellCauses s = s := by
  simp [tellCauses, h]

/-- Settles O7: in a quiet state every operation before the pins' changes nothing. -/
theorem settleQuiet : Obligations.SettleQuiet := by
  intro s h
  simp only [settle, watchLanes_of_not_tooFewLanes h.lanes, holdAlign_of_none h.align, drainProbes_of_empty h.probes,
    forceIdle_of_no_latch h.latch, releaseSwaps_of_none h.swaps, followLoops_of_nil h.loops, resumeSweep_of_none _ h.sweep,
    dropShared_of_no_session h.sessions, ptpFollow_of_inControl h.control, tellCauses_of_told h.told]

/-! The guard -/

@[simp] theorem enterMode_mode (old new : Mode) (s : State) : (enterMode old new s).sys.mode = s.sys.mode := by
  simp only [enterMode]; repeat' split
  all_goals simp

@[simp] theorem changeMode_mode (new : Mode) (printing cause : Nat) (s : State) : (changeMode new printing cause s).sys.mode = new := by
  simp [changeMode]

theorem forceIdle_latch_not_live {s : State} (hlatch : (forceIdle s).sys.latch = true) : (forceIdle s).sys.mode.live = false := by
  rw [(forceIdle_sameGround s).2.1] at hlatch
  unfold forceIdle
  split
  · simp [Mode.live]
  · rename_i hmode
    revert hmode
    cases s.sys.mode <;> simp [hlatch, Mode.live]

/-- What SAFE_N and LMP_BLANK_N follow: the mode, the latch, the role, and the gates with their entries. -/
theorem safeNow_congr {s t : State} (hmode : t.sys.mode = s.sys.mode) (hlatch : t.sys.latch = s.sys.latch)
    (hrole : t.pair.role = s.pair.role) (hgates : t.gates = s.gates) (hcat : t.cat = s.cat) :
    t.safeNow = s.safeNow ∧ t.blankNow = s.blankNow := by
  simp [State.safeNow, State.blankNow, State.drivesShared, State.inControl, State.gateHolds, State.gateDown, State.gateActs,
    State.flag, State.val, hmode, hlatch, hrole, hgates, hcat]

@[simp] theorem sendVector_cat (v : Nat) (s : State) : (sendVector v s).cat = s.cat := by
  simp only [sendVector]; split <;> simp

@[simp] theorem signalTarget_cat (t : Nat) (s : State) : (signalTarget t s).cat = s.cat := by
  simp only [signalTarget]; repeat' split
  all_goals simp

@[simp] theorem settleIrq_cat (s : State) : (settleIrq s).cat = s.cat := by
  simp [settleIrq, driveIrqPin, sampleLevels]

theorem forEach_cat {α : Type} {f : α → State → State} (hf : ∀ x s, (f x s).cat = s.cat) (xs : List α) (s : State) :
    (forEach xs f s).cat = s.cat := by
  induction xs generalizing s with
  | nil => rfl
  | cons x xs ih => exact (ih (f x s)).trans (hf x s)

@[simp] theorem drivePins_cat (s : State) : (drivePins s).cat = s.cat := by
  simp only [drivePins, drivePulses]
  split
  · refine forEach_cat (fun m s => ?_) _ _
    split <;> simp
  · rfl

theorem driveIrqPin_irqN (s : State) : (driveIrqPin s).ic.irqN = ((driveIrqPin s).ic.pinEn && (driveIrqPin s).ic.condition 0 &&
    (driveIrqPin s).sys.mode != .boot && bitOf (driveIrqPin s).sys.straps 2) := rfl

/-- The pins driven and the controller settled agree with the state they were driven from. -/
theorem settleIrq_drivePins_guarded {s : State} (h : s.sys.latch = true → s.sys.mode.live = false) :
    (settleIrq (drivePins s)).Guarded := by
  have hmode : (drivePins s).sys.mode = s.sys.mode := by simp [drivePins]
  have hpins := safeNow_congr (s := s) (t := settleIrq (drivePins s)) (by simp [hmode]) (by simp) (by simp) (by simp) (by simp)
  exact {
    latch := by simpa [hmode] using h
    safeN := by rw [hpins.1]; simp [drivePins]
    blank := by rw [hpins.2]; simp [drivePins]
    irqN := driveIrqPin_irqN _ }

theorem settle_guarded (s : State) : (settle s).Guarded := by
  refine settleIrq_drivePins_guarded fun hlatch => ?_
  have hsys : ∀ u : State, (tellCauses (ptpFollow (dropShared (resumeSweep u.gateHolds u)))).sys = u.sys := fun u => by simp
  rw [hsys, (followLoops_sameGround _).2, (releaseSwaps_sameGround _).2] at hlatch ⊢
  exact forceIdle_latch_not_live hlatch

/-- Settles O3: a step that runs a command ends by settling, and an idle one changes nothing. -/
theorem stepKeepsGuard : Obligations.StepKeepsGuard := by
  intro s t hguard hstep
  obtain rfl | ⟨u, rfl, -⟩ := step_cases hstep
  · exact hguard
  · exact settle_guarded u

/-! Steps and reset -/

/-- Settles O1, by what a step does on each form of the queue. -/
theorem stepRunsFront : Obligations.StepRunsFront :=
  ⟨fun c rest s hqueue => by simp [step, hqueue], fun s hqueue => by simp [step, hqueue]⟩

/-- Settles O5: the state after reset is one state, and each clause is read off it. -/
theorem resetLeaves : Obligations.ResetLeaves := by
  have guarded : State.reset.Guarded := ⟨by decide, by decide, by decide, by decide⟩
  exact ⟨⟨guarded, rfl⟩, by decide⟩

end Sys2Proof.Machine
end

section
/-! The Catalogue's services on a route of the unit's own (R36, R41-R47): a service that reaches its entry is served at once, and
what READ, an accepted WRITE and the block services then do. -/

namespace Sys2Proof.Machine

set_option Elab.async false -- one proof at a time: the checks of many at once take more memory than the check of this file allows

/-- A command does what its arm does, with the block settled. -/
theorem does_next {c : Instr} {s u v : State} (hexec : exec c s = next v) (h : v = u) : Does c s u := by
  rw [Does, hexec, h, next]

/-! A service that reaches its entry -/

/-- The transaction that a service on a route is. -/
@[reducible] def ownTrans (r : Route) (service idx sub : Nat) (bs : Bytes) : Trans := ⟨.direct (routeNo r), service, idx, sub, bs⟩

theorem routeNo_le (r : Route) : routeNo r ≤ 8 := by
  cases r with
  | mailbox => exact Nat.zero_le 8
  | session k => simp only [routeNo, xferKey]; omega

theorem respond_own (r : Route) (service idx sub result : Nat) (bs data : Bytes) (s : State) :
    respond (ownTrans r service idx sub bs) result data s = emit (.response (routeNo r) service idx sub result data) s := rfl

/-- With nothing before it, a service on an entry that its route may reach is served at once. -/
theorem command_of_reaches {r : Route} {service idx sub dt : Nat} {bs : Bytes} {row : Row} {s : State}
    (h : Reaches r service idx sub bs row dt s) (hservice : service ≠ 0) (hlast : service ≤ 7) :
    command r service idx sub bs (advance dt s) = serveEntry (ownTrans r service idx sub bs) row (s.arrived r dt) := by
  obtain ⟨hopen, ⟨hwaiting, hmirror, hreg⟩, ⟨hvendor, hentry⟩, hroute⟩ := h
  have served : command r service idx sub bs (advance dt s) =
      serveNow (ownTrans r service idx sub bs) (touchSession r (advance dt s)) := by
    rw [command, if_pos hopen]
    exact serve_idle _ _ (by simpa using hwaiting) (by simpa using hmirror) (by simpa using hreg)
  have own : (ownTrans r service idx sub bs).isIdent = false := rfl
  rw [served]
  simp only [serveNow, own, hvendor, hentry, State.arrived] at hroute ⊢
  simp [hroute, hservice, Nat.not_lt.mpr hlast]

/-! READ -/

/-- READ of an entry that is no DOMAIN, waits for no module and draws no free value. -/
theorem serveRead_plain {t : Trans} {row : Row} {s : State} (hacc : row.acc ≠ .wo) (hplain : row.ty.isDomain = false)
    (hreg : (among t.index 0x5800 32 && t.sub == 5) = false) (hfree : readsFree t.index t.sub = false) :
    serveRead t row s = respond t 0 (s.readBytes t.index row) s := by
  simp [serveRead, hacc, hplain, hreg, hfree]

/-- Settles O8: the service is served at once, and READ of a plain entry answers. -/
theorem readAnswers : Obligations.ReadAnswers := by
  intro dt r i sub bs row s h hacc hplain hreg hfree
  exact does_next rfl ((command_of_reaches h (by decide) (by decide)).trans (serveRead_plain hacc hplain hreg hfree))

/-! WRITE -/

theorem noteArm_of_ne {idx sub code : Nat} {bs : Bytes} {s : State} (h : idx ≠ 0x6100) : noteArm idx sub code bs s = s := by
  simp [noteArm, h]

/-- A value written to an entry that starts no long operation is stored and has its action. -/
theorem applyEntry_plain {idx : Nat} {row : Row} {bs : Bytes} {host : Bool} {s : State} (hplain : row.ty.isDomain = false)
    (hop : opRes idx row.sub (ofLe bs) = none) :
    applyEntry idx row bs host s = (0, [], actEntry idx row.sub (s.val idx row.sub) bs host (storeValue idx row bs s)) := by
  simp [applyEntry, hplain, hop]

/-- An accepted WRITE of a plain entry that starts no long operation. -/
theorem catWrite_plain {r : Route} {idx sub dt : Nat} {bs : Bytes} {row : Row} {s : State} (h : Accepts r idx sub bs row dt s)
    (hplain : row.ty.isDomain = false) (hsub : row.sub = sub) (hop : opRes idx sub (ofLe bs) = none)
    (hreg : (among idx 0x5800 32 && sub == 5) = false) :
    let u := noteArm idx sub 0 bs (s.arrived r dt)
    catWrite r idx sub bs (advance dt s) =
      answered r idx sub [] (actEntry idx sub (u.val idx sub) bs true (storeValue idx row bs u)) := by
  subst hsub
  rw [catWrite_accepts r idx row.sub bs row dt s h hreg]
  simp only [finishWrite, host_direct, applyEntry_plain hplain hop]
  rfl

/-- Settles O10: an accepted WRITE is stored, acts and is answered. -/
theorem writeApplies : Obligations.WriteApplies := by
  intro dt r i sub bs row s h hplain hsub hop harm hreg
  have written := catWrite_plain h hplain hsub hop hreg
  rw [noteArm_of_ne harm] at written
  exact does_next rfl written

/-! Block transfers (R44, R45) -/

theorem putXfer_route (r : Route) (x : Xfer) (s : State) :
    putXfer (routeNo r) x s = { s with cat := { s.cat with xfers := tset s.cat.xfers (routeNo r) x } } :=
  if_neg (Nat.not_lt.mpr (routeNo_le r))

/-- The transfer that is open on a route is the one that a segment of its direction and entry continues. -/
theorem xferFor_own {r : Route} {service idx sub : Nat} {bs : Bytes} {write : Bool} {x : Xfer} {s : State}
    (hopen : s.xfer (routeNo r) = some x) (hwrite : x.write = write) (hindex : x.index = idx) (hsub : x.sub = sub) :
    s.xferFor (ownTrans r service idx sub bs) write = some x := by
  simp [State.xferFor, Trans.route, hopen, hwrite, hindex, hsub]

theorem serveReadStart_opens {r : Route} {service idx sub : Nat} {bs : Bytes} {row : Row} {s : State} (hacc : row.acc ≠ .wo)
    (hdomain : row.ty.isDomain = true) (hnone : s.xfer (routeNo r) = none) (hvalue : s.readDomain idx sub ≠ []) :
    let v := s.readDomain idx sub
    serveReadStart (ownTrans r service idx sub bs) row s =
      respond (ownTrans r service idx sub bs) 0 (le 4 v.length ++ le 4 (crc32c v))
        (putXfer (routeNo r) ⟨false, idx, sub, v.length, crc32c v, v, s.clk.core⟩ s) := by
  simp [serveReadStart, firstCode, Trans.route, hacc, hdomain, hnone, hvalue]

theorem serveWriteStart_opens {r : Route} {service idx sub : Nat} {bs : Bytes} {row : Row} {s : State} (hacc : row.acc ≠ .ro)
    (hdomain : row.ty.isDomain = true) (hlen : bs.length = 8) (hallowed : lengthAllowed row (leAt bs 0 4) = true)
    (hmode : row.modes = 0 ∨ bitOf row.modes s.sys.mode.code = true) (hfree : s.resBusy (resOfEntry idx sub) = false)
    (hnone : s.xfer (routeNo r) = none) (hbusy : s.entryBusy idx sub = false)
    (hactive : s.inControl = true ∨ activeOnly idx row = false) (htotal : leAt bs 0 4 ≠ 0) :
    serveWriteStart (ownTrans r service idx sub bs) row s =
      respond (ownTrans r service idx sub bs) 0 []
        (putXfer (routeNo r) ⟨true, idx, sub, leAt bs 0 4, leAt bs 4 4, [], s.clk.core⟩ s) := by
  have modeOk : (row.modes != 0 && !bitOf row.modes s.sys.mode.code) = false := by rcases hmode with h | h <;> simp [h]
  have activeOk : (!s.inControl && activeOnly idx row) = false := by rcases hactive with h | h <;> simp [h]
  simp [serveWriteStart, firstCode, Trans.route, hacc, hdomain, hlen, hallowed, modeOk, activeOk, hfree, hnone, hbusy, htotal]

/-- A segment of the next bytes, with more to come, is kept. -/
theorem serveWriteSegment_keeps {r : Route} {service idx sub : Nat} {bs : Bytes} {row : Row} {x : Xfer} {s : State}
    (hacc : row.acc ≠ .ro) (hlen : 5 ≤ bs.length) (hfor : s.xferFor (ownTrans r service idx sub bs) true = some x)
    (hoffset : leAt bs 0 4 = x.data.length) (hmore : x.data.length + (bs.length - 4) < x.total) :
    serveWriteSegment (ownTrans r service idx sub bs) row s =
      respond (ownTrans r service idx sub bs) 0 []
        (putXfer (routeNo r) { x with data := x.data ++ bs.drop 4, lastAt := s.clk.core } s) := by
  simp [serveWriteSegment, Trans.route, hacc, Nat.not_lt.mpr hlen, hfor, hoffset, hmore, Nat.le_of_lt hmore]

/-- The segment of the last bytes ends the transfer, and the value is complete. -/
theorem serveWriteSegment_completes {r : Route} {service idx sub : Nat} {bs : Bytes} {row : Row} {x : Xfer} {s : State}
    (hacc : row.acc ≠ .ro) (hlen : 5 ≤ bs.length) (hfor : s.xferFor (ownTrans r service idx sub bs) true = some x)
    (hoffset : leAt bs 0 4 = x.data.length) (hlast : x.data.length + (bs.length - 4) = x.total) :
    serveWriteSegment (ownTrans r service idx sub bs) row s =
      completeWrite (ownTrans r service idx sub bs) row x.crc (x.data ++ bs.drop 4) (endXfer (routeNo r) s) := by
  simp [serveWriteSegment, Trans.route, hacc, Nat.not_lt.mpr hlen, hfor, hoffset, hlast]

theorem serveReadSegment_answers {r : Route} {service idx sub : Nat} {bs : Bytes} {row : Row} {x : Xfer} {s : State}
    (hacc : row.acc ≠ .wo) (hlen : bs.length = 6) (hwant : 0 < leAt bs 4 2) (hlimit : leAt bs 4 2 ≤ segmentLimit (routeNo r))
    (hfor : s.xferFor (ownTrans r service idx sub bs) false = some x) (hmore : leAt bs 0 4 + leAt bs 4 2 < x.total) :
    serveReadSegment (ownTrans r service idx sub bs) row s =
      respond (ownTrans r service idx sub bs) 0 (sliceB x.data (leAt bs 0 4) (leAt bs 4 2))
        (putXfer (routeNo r) { x with lastAt := s.clk.core } s) := by
  have inside : leAt bs 0 4 < x.total := by omega
  simp [serveReadSegment, Trans.route, hacc, hlen, Nat.pos_iff_ne_zero.mp hwant, Nat.not_lt.mpr hlimit, hfor, Nat.not_le.mpr inside,
    Nat.not_le.mpr hmore]

theorem completeWrite_badCheck {t : Trans} {row : Row} {crc : Nat} {bs : Bytes} {s : State} (h : crc32c bs ≠ crc) :
    completeWrite t row crc bs s = refuseWith t 0xAB01000C s := by
  simp [completeWrite, h]

/-- A whole value with the right check value and content replaces the entry's, and acts. -/
theorem completeWrite_applies {r : Route} {service idx sub crc : Nat} {bs v : Bytes} {row : Row} {s : State}
    (hcheck : crc32c v = crc) (hcontent : s.contentCode idx row v = 0) (halone : row.mirrored = false ∨ s.mirrors = false)
    (hdomain : row.ty.isDomain = true) (hrow : row.sub = sub) :
    completeWrite (ownTrans r service idx sub bs) row crc v s =
      respond (ownTrans r service idx sub bs) 0 [] (actEntry idx sub 0 v true (storeDomain idx row v s)) := by
  subst hrow
  have unconfirmed : (!row.mirrored || !s.mirrors) = true := by rcases halone with h | h <;> simp [h]
  simp only [completeWrite, hcheck, hcontent, commitWrite, Bool.or_assoc, unconfirmed, finishWrite, applyEntry, hdomain,
    host_direct, Bool.or_true, if_true, ne_eq, not_true_eq_false, if_false]

/-- Settles O12: each service by the lemma of its own, the last segment by what completes the write. -/
theorem blockTransfers : Obligations.BlockTransfers := by
  refine ⟨fun dt r i sub bs row x s => ⟨?_, ?_, ?_, ?_, ?_, ?_⟩, ?_⟩
  · intro h hacc hdomain hnone v hvalue
    refine does_next rfl ((command_of_reaches h (by decide) (by decide)).trans ?_)
    exact (serveReadStart_opens hacc hdomain hnone hvalue).trans (by rw [putXfer_route]; rfl)
  · intro h hacc hdomain hlen hallowed hmode hfree hnone hbusy hactive htotal
    refine does_next rfl ((command_of_reaches h (by decide) (by decide)).trans ?_)
    exact (serveWriteStart_opens hacc hdomain hlen hallowed hmode hfree hnone hbusy hactive htotal).trans
      (by rw [putXfer_route]; rfl)
  · intro h hacc hlen hopen hwrite hindex hsub hoffset hmore
    refine does_next rfl ((command_of_reaches h (by decide) (by decide)).trans ?_)
    exact (serveWriteSegment_keeps hacc hlen (xferFor_own hopen hwrite hindex hsub) hoffset hmore).trans
      (by rw [putXfer_route]; rfl)
  · intro h hacc hlen hwant hlimit hopen hwrite hindex hsub hmore
    refine does_next rfl ((command_of_reaches h (by decide) (by decide)).trans ?_)
    exact (serveReadSegment_answers hacc hlen hwant hlimit (xferFor_own hopen hwrite hindex hsub) hmore).trans
      (by rw [putXfer_route]; rfl)
  · intro h
    exact does_next rfl (command_of_reaches h (by decide) (by decide))
  · intro hopen hidle
    exact does_next rfl (by simp [doTransferTimeout, hopen, hidle, endXfer])
  · intro dt r i sub bs row x s u k h hacc hdomain hrow hlen hopen hwrite hindex hsub hoffset hlast v w
    have completes := (command_of_reaches h (by decide) (by decide)).trans
      (serveWriteSegment_completes (service := 5) hacc hlen (xferFor_own hopen hwrite hindex hsub) hoffset hlast)
    refine ⟨fun hcheck => does_next rfl (completes.trans (completeWrite_badCheck hcheck)), fun hcheck hcontent halone => ?_⟩
    exact does_next rfl (completes.trans (completeWrite_applies hcheck hcontent halone hdomain hrow))

end Sys2Proof.Machine
end

section
/-! Long operations (R48-R51): the slot that a start takes, what each kind's start does beside taking it, and the commands and
slices that act on a slot. -/

namespace Sys2Proof.Machine

set_option Elab.async false -- one proof at a time: the checks of many at once take more memory than the check of this file allows

/-! The slot of a start -/

theorem startOp_slot (k idx sub res : Nat) (bs : Bytes) (s : State) :
    (startOp k idx sub res bs s).slot k = newSlot s k idx sub res bs := setSlot_slot (k := k) s

/-- Settles O13: a start writes a slot of its own and the next sequence number. -/
theorem startTakesSlot : Obligations.StartTakesSlot := by
  intro k idx sub res bs s t
  have other (j : Nat) (h : j ≠ k) : t.slot j = s.slot j := setSlot_slot_ne s h
  have own : t.slot k = newSlot s k idx sub res bs := startOp_slot k idx sub res bs s
  simp only [own]
  exact ⟨rfl, rfl, rfl, rfl, rfl, rfl, rfl, rfl, other⟩

/-! What an accepted WRITE tells of its entry -/

theorem Reaches.row_sub {r : Route} {service idx sub dt : Nat} {bs : Bytes} {row : Row} {s : State}
    (h : Reaches r service idx sub bs row dt s) : row.sub = sub := by
  obtain ⟨-, hentry⟩ := h.entry
  unfold findEntry at hentry
  split at hentry
  · simp at hentry
  · next g =>
    split at hentry
    · simp at hentry
    · next r' hrow =>
      obtain rfl : r' = row := by simpa using hentry
      simpa using List.find?_some hrow

/-- No check of a list fails whose first code is 0. -/
theorem firstCode_cons_eq_zero {fails : Bool} {code : Nat} {rest : List (Bool × Nat)} (hcode : code ≠ 0) :
    firstCode ((fails, code) :: rest) = 0 ↔ fails = false ∧ firstCode rest = 0 := by
  cases fails <;> simp [firstCode, hcode]

/-- A plain WRITE of a DOMAIN entry is refused on a route of the unit's own. -/
theorem Accepts.plain {r : Route} {idx sub dt : Nat} {bs : Bytes} {row : Row} {s : State}
    (h : Accepts r idx sub bs row dt s) : row.ty.isDomain = false := by
  have code := h.code
  rw [State.writeCode, firstCode_cons_eq_zero (by decide), firstCode_cons_eq_zero (by decide)] at code
  simpa using code.2.1

/-! The start of a long operation by a WRITE -/

/-- An accepted WRITE that starts a long operation takes a slot and is answered with its handle; then the operation begins. -/
theorem catWrite_starts {r : Route} {idx sub res k dt : Nat} {bs : Bytes} {row : Row} {s : State}
    (h : Accepts r idx sub bs row dt s) (hslot : (s.arrived r dt).freeSlot = some k) (hop : opRes idx sub (ofLe bs) = some res)
    (harm : idx ≠ 0x6100) (hreg : (among idx 0x5800 32 && sub == 5) = false) :
    catWrite r idx sub bs (advance dt s) = answered r idx sub (le 4 (s.cat.nextSeq * 256 + k))
      (beginOp k idx sub (ofLe bs) bs (s.started r k idx sub res bs row dt)) := by
  have rowSub := h.reaches.row_sub
  subst rowSub
  have handle : ((s.started r k idx row.sub res bs row dt).slot k).handle = s.cat.nextSeq * 256 + k := by
    rw [State.started, startOp_slot]
    simp only [newSlot, State.stored, storeValue]
    split <;> simp [setVal, State.arrived, dropIdle]
  rw [catWrite_accepts r idx row.sub bs row dt s h hreg, noteArm_of_ne harm]
  simp only [finishWrite, host_direct, applyEntry, h.plain, hop, hslot]
  rw [← handle]
  rfl

/-! The entries of a range of indices -/

theorem among_of_lt {idx base n : Nat} (h : idx < base) : among idx base n = false := by simp [among, h]

theorem among_of_ge {idx base n : Nat} (h : base + n ≤ idx) : among idx base n = false := by simp [among, h]

theorem among_of_mem {idx base n : Nat} (hbase : base ≤ idx) (hend : idx < base + n) : among idx base n = true := by
  simp [among, hbase, hend]

theorem galleryAt_of_lt {idx part : Nat} (h : idx < 0x3000) : galleryAt idx part = none := by
  simp [galleryAt, among_of_lt h]

theorem galleryAt_of_ge {idx part : Nat} (h : 0x3800 ≤ idx) : galleryAt idx part = none := by
  simp [galleryAt, among_of_ge (base := 0x3000) (n := 0x800) h]

/-- The index of gallery g's object part names the gallery. -/
theorem galleryAt_own {g part : Nat} (hg : g < 8) (hpart : part < 256) : galleryAt (0x3000 + part + 0x100 * g) part = some g := by
  have inside : among (0x3000 + part + 0x100 * g) 0x3000 0x800 = true := among_of_mem (by omega) (by omega)
  simp only [galleryAt, inside, Bool.true_and, beq_iff_eq]
  rw [if_pos (by omega)]
  congr 1
  omega

theorem galleryAt_other {g part other : Nat} (hpart : part < 256) (hne : part ≠ other) :
    galleryAt (0x3000 + part + 0x100 * g) other = none := by
  simp only [galleryAt, Bool.and_eq_true, beq_iff_eq]
  exact if_neg (by omega)

/-- What a start of a kind of its own object does. -/
def beginIndexed (k idx : Nat) (bs : Bytes) (s : State) : State :=
  match galleryAt idx 0x21 with
  | some g => beginLoad g s
  | none =>
    if among idx 0x4000 512 then sendWave k 0 s
    else if among idx 0x5000 32 then retrain (idx - 0x5000) k s
    else if among idx 0x7110 4 then requestCci (idx - 0x7110) k bs s
    else s

theorem beginOp_indexed {k idx sub v : Nat} {bs : Bytes} {s : State} (h11 : idx ≠ 0x1100) (h12 : idx ≠ 0x1200)
    (h60 : idx ≠ 0x6000) (h90 : idx ≠ 0x9000) : beginOp k idx sub v bs s = beginIndexed k idx bs s := by
  unfold beginOp
  split
  · exact absurd rfl h11
  · exact absurd rfl h12
  · exact absurd rfl h12
  · exact absurd rfl h60
  · exact absurd rfl h90
  · rfl

/-- A kind whose object stands in none of these ranges only takes its slot. -/
theorem beginIndexed_none {k idx : Nat} {bs : Bytes} {s : State} (hgal : galleryAt idx 0x21 = none)
    (hbay : among idx 0x4000 512 = false) (hlane : among idx 0x5000 32 = false) (hport : among idx 0x7110 4 = false) :
    beginIndexed k idx bs s = s := by
  simp [beginIndexed, hgal, hbay, hlane, hport]

/-- The resources of a kind of its own object, if there is one at the subindex. -/
def indexedRes (idx sub : Nat) : Option Nat :=
  match galleryAt idx 0x21 with
  | some g => if sub = 1 then some (2 ^ (8 + g)) else none
  | none =>
    if among idx 0x4000 512 && sub == 0x1C then some 0
    else if among idx 0x5000 32 && sub == 0x0A then some 0
    else if among idx 0x6210 64 && sub == 8 then some 0
    else if among idx 0x7110 4 && sub == 5 then some 0
    else none

/-- Only these indices start an operation of a kind that has one object. -/
theorem opRes_indexed {idx sub v : Nat}
    (h : idx ∉ [0x1100, 0x1120, 0x1200, 0x1700, 0x1840, 0x1850, 0x6000, 0x6800, 0x7C00, 0x9000]) :
    opRes idx sub v = indexedRes idx sub := by
  simp only [List.mem_cons, List.not_mem_nil, or_false, not_or] at h
  obtain ⟨h11, hfw, h12, h17, h184, h185, h60, h68, h7C, h90⟩ := h
  unfold opRes
  split
  case h_15 => rfl
  all_goals contradiction

theorem indexedRes_table {g : Nat} (hg : g < 8) : indexedRes (0x3021 + 0x100 * g) 1 = some (2 ^ (8 + g)) := by
  simp [indexedRes, galleryAt_own (part := 0x21) hg (by decide)]

theorem indexedRes_gallery {g part sub : Nat} (hg : g < 8) (hpart : part < 256) (hother : part = 0x21 → sub ≠ 1) :
    indexedRes (0x3000 + part + 0x100 * g) sub = none := by
  unfold indexedRes
  by_cases h : part = 0x21
  · subst h
    simp [galleryAt_own (part := 0x21) hg, hother]
  · simp (disch := omega) [galleryAt_other (g := g) hpart h, among_of_lt]

theorem indexedRes_bay {b : Nat} (hb : b < 512) : indexedRes (0x4000 + b) 0x1C = some 0 := by
  simp (disch := omega) [indexedRes, galleryAt_of_ge, among_of_mem]

theorem indexedRes_lane {l : Nat} (hl : l < 32) : indexedRes (0x5000 + l) 0x0A = some 0 := by
  simp (disch := omega) [indexedRes, galleryAt_of_ge, among_of_mem]

theorem indexedRes_port {p : Nat} (hp : p < 4) : indexedRes (0x7110 + p) 0x05 = some 0 := by
  simp (disch := omega) [indexedRes, galleryAt_of_ge, among_of_mem]

theorem indexedRes_queue {q : Nat} (hq : q < 64) : indexedRes (0x6210 + q) 0x08 = some 0 := by
  simp (disch := omega) [indexedRes, galleryAt_of_ge, among_of_mem]

theorem beginOp_queue {k sub v q : Nat} {bs : Bytes} {s : State} (hq : q < 64) : beginOp k (0x6210 + q) sub v bs s = s := by
  rw [beginOp_indexed (by omega) (by omega) (by omega) (by omega)]
  simp (disch := omega) [beginIndexed, galleryAt_of_ge, among_of_ge, among_of_lt]

theorem beginOp_load {k sub v g : Nat} {bs : Bytes} {s : State} (hg : g < 8) :
    beginOp k (0x3021 + 0x100 * g) sub v bs s = setSpare g .loading s := by
  rw [beginOp_indexed (by omega) (by omega) (by omega) (by omega)]
  simp [beginIndexed, galleryAt_own (part := 0x21) hg, beginLoad]

theorem beginOp_waveLoad {k sub v b : Nat} {bs : Bytes} {s : State} (hb : b < 512) :
    beginOp k (0x4000 + b) sub v bs s = sendWave k 0 s := by
  rw [beginOp_indexed (by omega) (by omega) (by omega) (by omega)]
  simp (disch := omega) [beginIndexed, galleryAt_of_ge, among_of_mem]

theorem beginOp_retrain {k sub v l : Nat} {bs : Bytes} {s : State} (hl : l < 32) :
    beginOp k (0x5000 + l) sub v bs s = retrain l k s := by
  rw [beginOp_indexed (by omega) (by omega) (by omega) (by omega)]
  simp (disch := omega) [beginIndexed, galleryAt_of_ge, among_of_mem, among_of_ge]

theorem beginOp_cciRequest {k sub v p : Nat} {bs : Bytes} {s : State} (hp : p < 4) :
    beginOp k (0x7110 + p) sub v bs s = requestCci p k bs s := by
  rw [beginOp_indexed (by omega) (by omega) (by omega) (by omega)]
  simp (disch := omega) [beginIndexed, galleryAt_of_ge, among_of_mem, among_of_ge]

/-- A command that is the WRITE of one entry, accepted, starts that entry's operation. -/
theorem does_start {c : Instr} {r : Route} {idx sub res k dt : Nat} {bs : Bytes} {row : Row} {s : State} {begins : State → State}
    (hexec : exec c s = next (catWrite r idx sub bs (advance dt s))) (hslot : (s.arrived r dt).freeSlot = some k)
    (hop : opRes idx sub (ofLe bs) = some res) (hbegin : ∀ u, beginOp k idx sub (ofLe bs) bs u = begins u)
    (harm : idx ≠ 0x6100) (hreg : (among idx 0x5800 32 && sub == 5) = false) (h : Accepts r idx sub bs row dt s) :
    Does c s (answered r idx sub (le 4 (s.cat.nextSeq * 256 + k)) (begins (s.started r k idx sub res bs row dt))) := by
  refine does_next hexec ?_
  rw [catWrite_starts h hslot hop harm hreg, hbegin]

/-- Settles O15: every start is a WRITE that takes its slot; the kinds differ in what they begin. -/
theorem operationsRun : Obligations.OperationsRun := by
  refine ⟨fun dt r bs q row k s hslot => ?_, fun dt r bs g l b p row k s hslot => ?_⟩
  · refine ⟨?_, ?_, ?_, ?_, ?_, ?_, ?_, ?_, ?_, ?_, ?_⟩
    case refine_11 =>
      exact does_start (begins := id) rfl hslot ((opRes_indexed (by simp; omega)).trans (indexedRes_queue q.isLt)) (fun _ => beginOp_queue q.isLt)
        (by omega) (by simp)
    all_goals exact does_start (begins := id) rfl hslot rfl (fun _ => rfl) (by decide) (by decide)
  · refine ⟨?_, ?_, ?_, ?_, ?_, ?_, ?_, ?_, ?_⟩
    case refine_6 =>
      exact does_start rfl hslot ((opRes_indexed (by simp; omega)).trans (indexedRes_table g.isLt)) (fun _ => beginOp_load g.isLt)
        (by omega) (by simp)
    case refine_7 =>
      exact does_start rfl hslot ((opRes_indexed (by simp; omega)).trans (indexedRes_bay b.isLt)) (fun _ => beginOp_waveLoad b.isLt)
        (by omega) (by simp)
    case refine_8 =>
      exact does_start rfl hslot ((opRes_indexed (by simp; omega)).trans (indexedRes_lane l.isLt)) (fun _ => beginOp_retrain l.isLt)
        (by omega) (by simp)
    case refine_9 =>
      exact does_start rfl hslot ((opRes_indexed (by simp; omega)).trans (indexedRes_port p.isLt)) (fun _ => beginOp_cciRequest p.isLt)
        (by omega) (by simp (disch := omega) [among_of_ge])
    all_goals intro h
    · exact does_start (begins := beginOp k 0x1100 0x0D (ofLe bs) bs) rfl hslot rfl (fun _ => rfl) (by decide) (by decide) h
    · exact does_start (begins := beginOp k 0x1200 0x0A (ofLe bs) bs) rfl hslot rfl (fun _ => rfl) (by decide) (by decide) h
    · exact does_start (begins := beginOp k 0x1200 0x0B (ofLe bs) bs) rfl hslot rfl (fun _ => rfl) (by decide) (by decide) h
    · exact does_start (begins := beginOp k 0x6000 0x0B (ofLe bs) bs) rfl hslot rfl (fun _ => rfl) (by decide) (by decide) h
    · exact does_start (begins := beginOp k 0x9000 0x0B (ofLe bs) bs) rfl hslot rfl (fun _ => rfl) (by decide) (by decide) h

/-! WRITEs that start no operation -/

/-- A command that is the WRITE of one entry, accepted, leaves the entry written and has the entry's action. -/
theorem does_write {c : Instr} {r : Route} {idx sub dt : Nat} {bs : Bytes} {row : Row} {s t : State}
    (hexec : exec c s = next (catWrite r idx sub bs (advance dt s))) (hop : opRes idx sub (ofLe bs) = none)
    (hact : ∀ old, actEntry idx sub old bs true (s.stored r idx bs row dt) = t)
    (harm : idx ≠ 0x6100) (hreg : (among idx 0x5800 32 && sub == 5) = false) (h : Accepts r idx sub bs row dt s) :
    Does c s (answered r idx sub [] t) := by
  have written := catWrite_plain h h.plain h.reaches.row_sub hop hreg
  rw [noteArm_of_ne harm] at written
  refine does_next hexec (written.trans ?_)
  rw [← hact]
  rfl

/-- An entry that sets no region's size has the action of its own. -/
theorem actEntry_own {idx sub old : Nat} {bs : Bytes} {host : Bool} {s : State} (h : sizesRegion idx sub = false) :
    actEntry idx sub old bs host s = actOwn idx sub old bs host s := by
  simp [actEntry, h]

/-! ABORT and RELEASE (R50) -/

theorem actEntry_slot {k sub old : Nat} {bs : Bytes} {host : Bool} {s : State} (hk : k < 16) :
    actEntry (0x1310 + k) sub old bs host s = if sub = 0x0A then abortSlot k s else setSlot k {} s := by
  have unsized : sizesRegion (0x1310 + k) sub = false := by
    simp (disch := omega) [sizesRegion, among_of_lt]
    omega
  rw [actEntry_own unsized, actOwn, if_pos (by omega)]
  unfold actLow
  split
  case h_20 => simp (disch := omega) [among_of_lt, among_of_mem]
  all_goals omega

theorem opRes_slot {k sub v : Nat} (hk : k < 16) : opRes (0x1310 + k) sub v = none := by
  rw [opRes_indexed (by simp; omega)]
  simp (disch := omega) [indexedRes, galleryAt_of_lt, among_of_lt]

theorem abortSlot_running {k : Nat} {s : State} (h : (s.slot k).state = .running) :
    abortSlot k s = setSlot k { s.slot k with
      state := .aborting, abortCode := abortByCommand (s.slot k).kindIndex (s.slot k).kindSub } s := by
  simp [abortSlot, abortOp, h]

theorem abortSlot_queued {k : Nat} {s : State} (h : (s.slot k).state = .queued) :
    abortSlot k s = endAborted k (setSlot k { s.slot k with
      abortCode := abortByCommand (s.slot k).kindIndex (s.slot k).kindSub } s) := by
  simp [abortSlot, h]

theorem abortSlot_finished {k : Nat} {s : State} (h : (s.slot k).finished = true) : abortSlot k s = s := by
  cases hstate : (s.slot k).state <;> simp [abortSlot, abortOp, LSlot.finished, hstate] at h ⊢

/-! Slices (R50, R51) -/

/-- The kinds whose progress alone tells their end. -/
def LSlot.Timed (x : LSlot) : Prop :=
  (x.kindIndex, x.kindSub) ∈ [(0x1100, 0x0D), (0x1120, 0x02), (0x1700, 0x01), (0x6000, 0x08), (0x6000, 0x0B),
    (0x9000, 0x09), (0x9000, 0x0A)] ∨
  (∃ g, g < 8 ∧ x.kindIndex = 0x3021 + 0x100 * g) ∨ (∃ q, q < 64 ∧ x.kindIndex = 0x6210 + q)

/-- A slice of such a kind raises its progress, or is its last one. -/
theorem workSlice_timed {k p : Nat} {obs : SliceObs} {s : State} (htimed : (s.slot k).Timed)
    (hgoes : (s.slot k).kindIndex = 0x9000 → (s.slot k).kindSub = 0x0A → s.therm.fDie ≠ 0) :
    workSlice k p obs s = if 10000 ≤ p then lastSlice k obs s else progressOp k p s := by
  have indexed (idx : Nat) (hidx : (s.slot k).kindIndex = idx) (hlow : 0x3000 ≤ idx) (hhigh : idx < 0x6800)
      (hbay : among idx 0x4000 512 = false) (hlane : among idx 0x5000 32 = false) (hport : among idx 0x7110 4 = false) :
      workSlice k p obs s = if 10000 ≤ p then lastSlice k obs s else progressOp k p s := by
    have other : idx ≠ 0x1200 := by omega
    unfold workSlice
    simp only [hidx]
    split
    case h_8 => simp [hbay, hlane, hport, other]
    all_goals omega
  rcases htimed with hone | ⟨g, hg, hidx⟩ | ⟨q, hq, hidx⟩
  · simp only [List.mem_cons, Prod.mk.injEq, List.not_mem_nil, or_false] at hone
    rcases hone with ⟨hi, hs⟩ | ⟨hi, hs⟩ | ⟨hi, hs⟩ | ⟨hi, hs⟩ | ⟨hi, hs⟩ | ⟨hi, hs⟩ | ⟨hi, hs⟩
    case inr.inr.inr.inr.inr.inr => simp [workSlice, hi, hs, hgoes hi hs]
    all_goals simp [workSlice, hi, hs, among]
  · exact indexed _ hidx (by omega) (by omega) (among_of_lt (by omega)) (among_of_lt (by omega)) (among_of_lt (by omega))
  · exact indexed _ hidx (by omega) (by omega) (among_of_ge (by omega)) (among_of_ge (by omega)) (among_of_lt (by omega))

/-- A slice of a SCRUB does nothing while f_die is 0 (R392). -/
theorem workSlice_scrub {k p : Nat} {obs : SliceObs} {s : State}
    (hkind : ((s.slot k).kindIndex, (s.slot k).kindSub) = (0x9000, 0x0A)) :
    workSlice k p obs s =
      if s.therm.fDie = 0 then s else if 10000 ≤ p then endOp k .done 0 s else progressOp k p s := by
  obtain ⟨hidx, hsub⟩ := Prod.mk.inj hkind
  simp [workSlice, lastSlice, hidx, hsub]

/-- A slice of a running operation that has been sliced before is the slice's work. -/
theorem doSlice_running {k p : Nat} {obs : SliceObs} {s : State} (hrun : (s.slot k).state = .running)
    (hsliced : (s.slot k).sliced = true) : doSlice k p obs s = workSlice k p obs s := by
  simp [doSlice, hrun, hsliced]

theorem doSlice_aborting {k p : Nat} {obs : SliceObs} {s : State} (h : (s.slot k).state = .aborting) :
    doSlice k p obs s = endAborted k s := by
  simp [doSlice, h]

/-- A queued operation that no other slot bars from its resources runs. -/
theorem dequeueOp_free {k : Nat} {s : State} (hqueued : (s.slot k).state = .queued)
    (hfree : ∀ j, j < 16 → j ≠ k → (s.slot j).resources &&& (s.slot k).resources ≠ 0 →
      (s.slot j).state ≠ .running ∧ (s.slot j).state ≠ .aborting ∧
      ((s.slot j).state = .queued → (s.slot k).endedAt < (s.slot j).endedAt)) :
    dequeueOp k s = setSlot k { s.slot k with state := .running } s := by
  simp only [dequeueOp, hqueued]
  rw [if_pos]
  simp only [BEq.rfl, Bool.true_and, Bool.not_eq_true', List.any_eq_false]
  intro j hj
  have bars := hfree j (by simpa [slotIds] using hj)
  simp only [Bool.and_eq_true, Bool.or_eq_true, bne_iff_ne, beq_iff_eq, decide_eq_true_eq, not_and, not_or]
  intro ⟨hne, hshare⟩
  obtain ⟨hrunning, haborting, holder⟩ := bars hne hshare
  exact ⟨⟨hrunning, haborting⟩, fun hq => ⟨Nat.not_lt.mpr (holder hq).le, fun heq => absurd (holder hq) (by omega)⟩⟩

/-- Settles O16: ABORT and RELEASE are WRITEs of the slot's object, and a slice goes by the slot's state and kind. -/
theorem slotCommands : Obligations.SlotCommands := by
  refine ⟨fun dt r k bs row s => ?_, fun dt p k obs s => ?_⟩
  · intro u x code
    have write {c : Instr} {sub : Nat} {t : State}
        (hexec : exec c s = next (catWrite r (0x1310 + k.val) sub bs (advance dt s)))
        (hact : (if sub = 0x0A then abortSlot k.val u else setSlot k.val {} u) = t)
        (h : Accepts r (0x1310 + k.val) sub bs row dt s) : Does c s (answered r (0x1310 + k.val) sub [] t) :=
      does_write hexec (opRes_slot k.isLt) (fun old => (actEntry_slot k.isLt).trans hact) (by omega)
        (by simp (disch := omega) [among_of_lt]) h
    refine ⟨fun h hrun => write rfl (abortSlot_running hrun) h, fun h hqueued => write rfl (abortSlot_queued hqueued) h,
      fun h hdone => write rfl (abortSlot_finished hdone) h, fun h => write rfl rfl h⟩
  · intro u x timed
    have slice {t : State} (h : doSlice k.val p obs u = t) : Does (.longopSlice dt k p obs) s t := does_next rfl h
    refine ⟨fun haborting => slice (doSlice_aborting haborting), ?_⟩
    intro goes
    refine ⟨fun hrun hsliced htimed hgoes hp => slice ?_, fun hrun hsliced htimed hgoes hp => slice ?_,
      fun hrun hsliced hkind hfactor hp => slice ?_, fun hrun hsliced hkind hfactor => slice ?_, fun hqueued hfree => ?_⟩
    · rw [doSlice_running hrun hsliced, workSlice_timed htimed hgoes, if_neg (Nat.not_le.mpr hp), progressOp, clampN,
        if_neg (Nat.not_lt.mpr hp.le)]
    · rw [doSlice_running hrun hsliced, workSlice_timed htimed hgoes, if_pos hp]
    · rw [doSlice_running hrun hsliced, workSlice_scrub hkind, if_neg hfactor, if_pos hp]
    · rw [doSlice_running hrun hsliced, workSlice_scrub hkind, if_pos hfactor]
    · exact does_next rfl (dequeueOp_free hqueued hfree)

end Sys2Proof.Machine
end

section
/-! Commands that are accepted WRITEs of one entry (R36): what each entry's action is, and the registers that another part answers. -/

namespace Sys2Proof.Machine

set_option Elab.async false -- one proof at a time: the checks of many at once take more memory than the check of this file allows

/-! A stored value changes nothing but its entry -/

theorem stored_eq (r : Route) (idx : Nat) (bs : Bytes) (row : Row) (dt : Nat) (s : State) :
    ∃ net cat, s.stored r idx bs row dt = { advance dt s with net := net, cat := cat } := by
  unfold State.stored storeValue State.arrived touchSession
  cases r <;> simp only [] <;> split <;> exact ⟨_, _, rfl⟩

@[simp] theorem stored_sys (r : Route) (idx : Nat) (bs : Bytes) (row : Row) (dt : Nat) (s : State) :
    (s.stored r idx bs row dt).sys = s.sys := by
  obtain ⟨net, cat, h⟩ := stored_eq r idx bs row dt s
  rw [h, advance_sys]

@[simp] theorem stored_clk (r : Route) (idx : Nat) (bs : Bytes) (row : Row) (dt : Nat) (s : State) :
    (s.stored r idx bs row dt).clk = (advance dt s).clk := by
  obtain ⟨net, cat, h⟩ := stored_eq r idx bs row dt s
  rw [h]

@[simp] theorem stored_pair (r : Route) (idx : Nat) (bs : Bytes) (row : Row) (dt : Nat) (s : State) :
    (s.stored r idx bs row dt).pair = s.pair := by
  obtain ⟨net, cat, h⟩ := stored_eq r idx bs row dt s
  rw [h, advance_pair]

@[simp] theorem stored_dram (r : Route) (idx : Nat) (bs : Bytes) (row : Row) (dt : Nat) (s : State) :
    (s.stored r idx bs row dt).dram = s.dram := by
  obtain ⟨net, cat, h⟩ := stored_eq r idx bs row dt s
  rw [h, advance_dram]

@[simp] theorem stored_now (r : Route) (idx : Nat) (bs : Bytes) (row : Row) (dt : Nat) (s : State) :
    (s.stored r idx bs row dt).now = (advance dt s).now := by
  simp only [State.now, stored_clk]

/-! The mode and the SAFE latch (R427-R433) -/

/-- A request for another mode moves to it. -/
theorem requestMode_other {v : Nat} {m : Mode} {s : State} (hmode : modeOfRequest v = some m) (hother : s.sys.mode ≠ m) :
    requestMode v s = changeMode m (if m == .print then s.val 0x1100 4 else 0) 0 s := by
  simp [requestMode, hmode, hother]

theorem printGalleries_print {v : Nat} {s : State} (hmode : s.sys.mode = .print) (hother : v ≠ s.sys.printing) :
    printGalleries v s = speedWarn (raiseMode .print 0 { s with sys := { s.sys with printing := v } }) := by
  simp [printGalleries, hmode, hother]

/-- The host's cause sets a latch that was clear, with SAFE_SET. -/
theorem safeSet_new {bit : Nat} {s : State} (hboot : s.sys.mode ≠ .boot) (htest : s.sys.mode ≠ .test)
    (hrole : s.pair.role ≠ .standby) (hcause : bitOf s.sys.causes bit = false) (hlatch : s.sys.latch = false) :
    safeSet bit s = raise 0x0202 0 (le 4 (2 ^ bit) ++ le 4 (setBit s.sys.causes bit true))
      (stopFiring s.now { s with sys := { s.sys with
        latch := true, causes := setBit s.sys.causes bit true, safeTime := s.now } }) := by
  have own : s.peerCause bit = false := by simp [State.peerCause, hrole]
  simp [safeSet, takeCause, own, hboot, htest, hcause, hlatch]

theorem safeClear_latched {s : State} (h : s.sys.latch = true) :
    safeClear s = raise 0x0203 0 (zeros 4 ++ le 4 s.sys.causes) { s with sys := { s.sys with latch := false, causes := 0 } } := by
  simp [safeClear, h]

/-- The modes' entries act as R427 gives it; one lemma for them all, since none sets the size of a region. -/
theorem actEntry_low {idx sub old : Nat} {bs : Bytes} {host : Bool} {s : State} (hlow : idx < 0x2000)
    (hsized : sizesRegion idx sub = false) : actEntry idx sub old bs host s = actLow idx sub (ofLe bs) bs host s := by
  rw [actEntry_own hsized, actOwn, if_pos hlow]

/-- Settles O17: each command is a WRITE of one entry below 0x2000, whose action is the one stated. -/
theorem modeAndSafeCommands : Obligations.ModeAndSafeCommands := by
  intro dt r bs row s u does
  have write {c : Instr} {idx sub : Nat} {t : State} (hexec : exec c s = next (catWrite r idx sub bs (advance dt s)))
      (hlow : idx < 0x2000) (hop : opRes idx sub (ofLe bs) = none) (hsized : sizesRegion idx sub = false)
      (hact : actLow idx sub (ofLe bs) bs true (u idx) = t) : does c idx sub t :=
    does_write hexec hop (fun old => (actEntry_low hlow hsized).trans hact) (by omega) (by simp (disch := omega) [among_of_lt])
  refine ⟨fun hv hmode => ?_, fun hv hmode => ?_, fun hv hmode => ?_, fun hv hmode => ?_, fun hmode hother => ?_,
    fun hboot htest hrole hcause hlatch => ?_, fun hlatch => ?_, ?_, ?_, ?_⟩
  · exact write rfl (by decide) rfl rfl (requestMode_other (by rw [hv]; rfl) hmode)
  · exact write rfl (by decide) rfl rfl (requestMode_other (by rw [hv]; rfl) hmode)
  · exact write rfl (by decide) rfl rfl (requestMode_other (by rw [hv]; rfl) hmode)
  · exact write rfl (by decide) rfl rfl (requestMode_other (by rw [hv]; rfl) hmode)
  · exact write rfl (by decide) rfl rfl (printGalleries_print hmode hother)
  · have set := safeSet_new (bit := 0) (s := u 0x1100) (by simpa [u] using hboot) (by simpa [u] using htest)
      (by simpa [u] using hrole) (by simpa [u] using hcause) (by simpa [u] using hlatch)
    exact write rfl (by decide) rfl rfl (set.trans (by simp [u]))
  · exact write rfl (by decide) rfl rfl ((safeClear_latched (by simpa [u] using hlatch)).trans (by simp [u]))
  · exact write rfl (by decide) rfl rfl (by simp [actLow, u])
  · exact write rfl (by decide) rfl rfl (by simp [actLow, startSelftest, u])
  · exact write rfl (by decide) rfl rfl (by simp [actLow, fwConfirm, u])

/-! Entries of a range of indices -/

/-- An accepted ARM notes its figures first (R129). -/
theorem does_arm {r : Route} {dt : Nat} {bs : Bytes} {row : Row} {s : State} (h : Accepts r 0x6100 0x01 bs row dt s) :
    Does (.arm dt r bs) s (answered r 0x6100 0x01 []
      (armPlanNow bs (storeValue 0x6100 row bs (noteBudget bs (s.arrived r dt))))) :=
  does_next rfl (catWrite_plain h h.plain h.reaches.row_sub rfl rfl)

theorem opRes_queueOther {q sub v : Nat} (hq : q < 64) (hsub : sub ≠ 8) : opRes (0x6210 + q) sub v = none := by
  rw [opRes_indexed (by simp; omega)]
  simp (disch := omega) [indexedRes, galleryAt_of_ge, among_of_ge, among_of_lt, hsub]

theorem opRes_gallery {g part sub v : Nat} (hg : g < 8) (hpart : part < 256) (hother : part = 0x21 → sub ≠ 1) :
    opRes (0x3000 + part + 0x100 * g) sub v = none := by
  rw [opRes_indexed (by simp; omega), indexedRes_gallery hg hpart hother]

theorem opRes_context {c sub v : Nat} (hc : c < 16) : opRes (0x7000 + c) sub v = none := by
  rw [opRes_indexed (by simp; omega)]
  simp (disch := omega) [indexedRes, galleryAt_of_ge, among_of_ge, among_of_lt]

theorem actEntry_restart {q old : Nat} {bs : Bytes} {host : Bool} {s : State} (hq : q < 64) :
    actEntry (0x6210 + q) 9 old bs host s = emptyQueue q (ofLe bs) s := by
  have unsized : sizesRegion (0x6210 + q) 9 = false := by simp [sizesRegion]
  rw [actEntry_own unsized, actOwn, if_neg (by omega), if_neg (by omega), if_neg (by omega), if_neg (by omega), if_pos (by omega)]
  unfold actReserve
  split
  case h_6 => simp (disch := omega) [among_of_mem]
  all_goals omega

/-- An entry of a gallery's object acts for that gallery. -/
theorem actEntry_gallery {g part sub old : Nat} {bs : Bytes} {host : Bool} {s : State} (hg : g < 8) (hpart : part < 256) :
    actEntry (0x3000 + part + 0x100 * g) sub old bs host s = actGallery g part sub (ofLe bs) bs host s := by
  have unsized : sizesRegion (0x3000 + part + 0x100 * g) sub = false := by
    simp (disch := omega) [sizesRegion, among_of_lt]
    omega
  rw [actEntry_own unsized, actOwn, if_neg (by omega), if_neg (by omega), if_pos (by omega)]
  congr 1 <;> omega

/-- An entry of a camera context that sets no region's size. -/
theorem actEntry_context {c sub old : Nat} {bs : Bytes} {host : Bool} {s : State} (hc : c < 16)
    (hsub : sub ≠ 1 ∧ sub ≠ 5 ∧ sub ≠ 6) :
    actEntry (0x7000 + c) sub old bs host s = actCamera (0x7000 + c) sub (ofLe bs) old s := by
  have unsized : sizesRegion (0x7000 + c) sub = false := by
    simp [sizesRegion, hsub]
    omega
  rw [actEntry_own unsized, actOwn, if_neg (by omega), if_neg (by omega), if_neg (by omega), if_neg (by omega),
    if_neg (by omega), if_pos (by omega)]

theorem actCamera_exposureCommit {c v old : Nat} {s : State} (hc : c < 16) :
    actCamera (0x7000 + c) 0x14 v old s = commitExposure c s := by
  simp (disch := omega) [actCamera, among_of_mem]

theorem actCamera_freeze {c v old : Nat} {s : State} (hc : c < 16) : actCamera (0x7000 + c) 0x1B v old s = freezeCtx c v s := by
  simp (disch := omega) [actCamera, among_of_mem]

/-- Settles O18: each command is a WRITE of one entry, whose action is the one stated; ARM notes its figures first. -/
theorem entryCommands : Obligations.EntryCommands := by
  refine ⟨fun dt r bs q g row s => ?_, fun dt r bs c row s => ?_⟩
  · intro tab does
    have table {c : Instr} {sub : Nat} {t : State} (hexec : exec c s = next (catWrite r tab sub bs (advance dt s))) (hsub : sub ≠ 1)
        (hact : actGallery g.val 0x21 sub (ofLe bs) bs true (s.stored r tab bs row dt) = t) : does c tab sub t :=
      does_write hexec (opRes_gallery (part := 0x21) g.isLt (by decide) (fun _ => hsub))
        (fun old => (actEntry_gallery (part := 0x21) g.isLt (by decide)).trans hact) (by omega) (by simp (disch := omega) [among_of_lt])
    refine ⟨does_arm, ?_, ?_, ⟨?_, ?_, ?_⟩, fun x hseg => ?_⟩
    · exact fun h => does_next rfl (catWrite_plain h h.plain h.reaches.row_sub rfl rfl)
    · exact does_write rfl (opRes_queueOther q.isLt (by decide)) (fun old => actEntry_restart q.isLt) (by omega) (by simp)
    · exact table rfl (by decide) rfl
    · exact table rfl (by decide) rfl
    · exact table rfl (by decide) rfl
    · refine does_write rfl (opRes_gallery (part := 0x20) g.isLt (by decide) (by decide))
        (fun old => (actEntry_gallery (part := 0x20) g.isLt (by decide)).trans ?_) (by omega) (by simp)
      simp [actGallery, loadThreshold, hseg]
  · intro u does
    have write {c : Instr} {idx sub : Nat} {t : State} (hexec : exec c s = next (catWrite r idx sub bs (advance dt s)))
        (hop : opRes idx sub (ofLe bs) = none) (hact : ∀ old, actEntry idx sub old bs true (u idx) = t)
        (harm : idx ≠ 0x6100) (hreg : (among idx 0x5800 32 && sub == 5) = false) : does c idx sub t :=
      does_write hexec hop hact harm hreg
    refine ⟨?_, ?_, ?_, ?_, fun hv => ?_, ?_, ?_, ?_, fun hv => ?_, ?_⟩
    · exact write rfl rfl (fun _ => rfl) (by decide) rfl
    · exact write rfl rfl (fun _ => rfl) (by decide) rfl
    · exact write rfl rfl (fun _ => rfl) (by decide) rfl
    · exact write rfl (opRes_context c.isLt)
        (fun old => (actEntry_context c.isLt (by decide)).trans (actCamera_exposureCommit c.isLt)) (by omega) (by simp)
    · refine write rfl (opRes_context c.isLt)
        (fun old => (actEntry_context c.isLt (by decide)).trans ((actCamera_freeze c.isLt).trans ?_)) (by omega) (by simp)
      simp [freezeCtx, hv]
    · exact write rfl rfl (fun _ => rfl) (by decide) rfl
    · exact write rfl rfl (fun _ => rfl) (by decide) rfl
    · exact write rfl rfl (fun _ => rfl) (by decide) rfl
    · refine write rfl rfl (fun old => ?_) (by decide) rfl
      rw [actEntry_low (by decide) rfl]
      simp [actLow, setTime, hv, u]
    · refine write rfl rfl (fun old => ?_) (by decide) rfl
      rw [actEntry_own rfl]
      simp [actOwn, actHigh, u]

/-! Registers that another part answers (R36, R215, R298) -/

/-- READ of a lane's REG_DATA goes to its module. -/
theorem serveRead_regData {t : Trans} {row : Row} {l : Nat} {s : State} (hidx : t.index = 0x5800 + l) (hl : l < 32) (hsub : t.sub = 5)
    (hacc : row.acc ≠ .wo) (hplain : row.ty.isDomain = false) (hrun : s.running l = true) :
    serveRead t row s = ctrlRead l (s.val (0x5800 + l) 4) 4 .regRead { s with cat := { s.cat with reg := some ⟨t, l, none⟩ } } := by
  simp (disch := omega) [serveRead, hidx, hsub, hacc, hplain, among_of_mem, hrun]

/-- An accepted WRITE of a lane's REG_DATA goes to its module. -/
theorem catWrite_regData {r : Route} {l dt : Nat} {bs : Bytes} {row : Row} {s : State} (hl : l < 32)
    (h : Accepts r (0x5800 + l) 5 bs row dt s) :
    catWrite r (0x5800 + l) 5 bs (advance dt s) = regWrite (ownTrans r 2 (0x5800 + l) 5 bs) l (s.arrived r dt) := by
  have code := h.code
  have regData : (among (0x5800 + l) 0x5800 32 && (5 : Nat) == 5) = true := by
    simp (disch := omega) [among_of_mem]
  rw [catWrite, command_of_reaches h.reaches (by decide) (by decide)]
  simp only [serveEntry, serveWrite, host_direct, code, regData, noteArm_of_ne (idx := 0x5800 + l) (by omega)]
  simp

theorem opRes_mdio {p v : Nat} (hp : p < 2) : opRes (0x1A00 + 0x10 * p) 7 v = none := by
  rw [opRes_indexed (by simp; omega)]
  simp (disch := omega) [indexedRes, galleryAt_of_lt, among_of_lt]

theorem actEntry_mdio {p old : Nat} {bs : Bytes} {host : Bool} {s : State} (hp : p < 2) :
    actEntry (0x1A00 + 0x10 * p) 7 old bs host s = mdioFrame p bs s := by
  obtain rfl | rfl : p = 0 ∨ p = 1 := by omega
  · rfl
  · rfl

@[simp] theorem stored_out (r : Route) (idx : Nat) (bs : Bytes) (row : Row) (dt : Nat) (s : State) :
    (s.stored r idx bs row dt).out = s.out := by
  obtain ⟨net, cat, h⟩ := stored_eq r idx bs row dt s
  rw [h, advance_out]

/-- An accepted MDIO_REQUEST puts its frame on the bus and is answered. -/
theorem catWrite_mdio {r : Route} {p dt : Nat} {bs : Bytes} {row : Row} {s : State} (hp : p < 2)
    (h : Accepts r (0x1A00 + 0x10 * p) 7 bs row dt s) :
    catWrite r (0x1A00 + 0x10 * p) 7 bs (advance dt s) =
      answered r (0x1A00 + 0x10 * p) 7 [] (mdioFrame p bs (s.stored r (0x1A00 + 0x10 * p) bs row dt)) := by
  have written := catWrite_plain h h.plain h.reaches.row_sub (opRes_mdio hp) (by simp (disch := omega) [among_of_lt])
  rw [written, actEntry_mdio hp, noteArm_of_ne (by omega)]
  rfl

theorem mdioFrame_write {p : Nat} {bs : Bytes} {s : State} (h : byteAt bs 0 = 2) :
    mdioFrame p bs s = emit (.mdio p (byteAt bs 0 == 2) (s.netCfg p 6) (byteAt bs 1) (leAt bs 2 2)) s := by
  simp [mdioFrame, h]

theorem mdioFrame_read {p : Nat} {bs : Bytes} {s : State} (h : byteAt bs 0 ≠ 2) :
    mdioFrame p bs s = draw (setVal (0x1A00 + 0x10 * p) 8 ((Config.freeValue s.free).toNat % 65536)
      (emit (.mdio p (byteAt bs 0 == 2) (s.netCfg p 6) (byteAt bs 1) (leAt bs 2 2)) s)) := by
  simp [mdioFrame, h]

/-- What a frame puts out. -/
theorem mdioFrame_out (p : Nat) (bs : Bytes) (s : State) :
    (mdioFrame p bs s).out = .mdio p (byteAt bs 0 == 2) (s.netCfg p 6) (byteAt bs 1) (leAt bs 2 2) :: s.out := by
  by_cases h : byteAt bs 0 = 2
  · rw [mdioFrame_write h]; rfl
  · rw [mdioFrame_read h]; rfl

/-- MDIO_DATA takes what the PHY answered exactly when the frame was a read. -/
theorem doMdioRequest_accepted {r : Route} {p dt phy : Nat} {bs : Bytes} {row : Row} {s : State} (hp : p < 2)
    (h : Accepts r (0x1A00 + 0x10 * p) 7 bs row dt s) :
    let t := answered r (0x1A00 + 0x10 * p) 7 [] (mdioFrame p bs (s.stored r (0x1A00 + 0x10 * p) bs row dt))
    doMdioRequest r p bs phy (advance dt s) = if byteAt bs 0 = 2 then t else setVal (0x1A00 + 0x10 * p) 8 phy t := by
  intro t
  have out : t.out.take (t.out.length - (advance dt s).out.length) = [.response (routeNo r) 2 (0x1A00 + 0x10 * p) 7 0 [],
      .mdio p (byteAt bs 0 == 2) ((s.stored r (0x1A00 + 0x10 * p) bs row dt).netCfg p 6) (byteAt bs 1) (leAt bs 2 2)] := by
    simp [t, answered, emit, mdioFrame_out, Nat.add_assoc]
  simp only [doMdioRequest, catWrite_mdio hp h]
  rw [out]
  by_cases hwrite : byteAt bs 0 = 2 <;> simp [mdioReadIn, hwrite, t]

/-- Settles O19: REG_DATA waits for its module's answer, an MDIO read for none. -/
theorem relayedCommands : Obligations.RelayedCommands := by
  intro dt r bs l p phy row s u reg mdio
  refine ⟨fun h hacc hplain hrun => ?_, fun h => ?_, fun h => ?_⟩
  · exact does_next rfl ((command_of_reaches h (by decide) (by decide)).trans
      (serveRead_regData rfl l.isLt rfl hacc hplain hrun))
  · exact does_next rfl (catWrite_regData l.isLt h)
  · intro v sent
    refine ⟨fun hwrite => does_next rfl ((doMdioRequest_accepted p.isLt h).trans ?_),
      fun hread => does_next rfl ((doMdioRequest_accepted p.isLt h).trans ?_)⟩
    · rw [if_pos hwrite, mdioFrame_write hwrite]
    · rw [if_neg hread, mdioFrame_read hread]

end Sys2Proof.Machine
end

section
/-! Bits of a word set to 1. -/

namespace Sys2Proof.Machine

set_option Elab.async false -- one proof at a time: the checks of many at once take more memory than the check of this file allows

/-- Setting bit i changes bit i only. -/
theorem testBit_setBit_true (x i j : Nat) : (setBit x i true).testBit j = if j = i then true else x.testBit j := by
  unfold setBit
  by_cases hset : x.testBit i = true
  · rw [if_pos (by simp [hset])]
    split
    · next h => rw [h, hset]
    · rfl
  · rw [if_neg (by simpa using hset), if_pos rfl]
    have split : x = 2 ^ (i + 1) * (x / 2 ^ (i + 1)) + x % 2 ^ (i + 1) := (Nat.div_add_mod _ _).symm
    have low : x % 2 ^ (i + 1) < 2 ^ i := by
      have clear : (x % 2 ^ (i + 1)).testBit i = false := by simp [Nat.testBit_mod_two_pow, hset]
      by_contra hle
      have set := Nat.testBit_eq_decide_div_mod_eq (x := x % 2 ^ (i + 1)) (i := i)
      have bound : x % 2 ^ (i + 1) < 2 * 2 ^ i := by rw [← pow_succ']; exact Nat.mod_lt _ (by positivity)
      have one : x % 2 ^ (i + 1) / 2 ^ i = 1 := Nat.div_eq_of_lt_le (by omega) (by omega)
      simp [one, clear] at set
    have sum : x + 2 ^ i = 2 ^ (i + 1) * (x / 2 ^ (i + 1)) + (2 ^ i + x % 2 ^ (i + 1)) := by omega
    have bound : 2 ^ i + x % 2 ^ (i + 1) < 2 ^ (i + 1) := by omega
    rw [sum, Nat.testBit_two_pow_mul_add _ bound]
    conv => rhs; rw [split, Nat.testBit_two_pow_mul_add _ (Nat.mod_lt _ (by positivity))]
    rcases Nat.lt_trichotomy j i with h | h | h
    · rw [if_pos (by omega), if_neg (by omega), if_pos (by omega), Nat.testBit_two_pow_add_gt h]
    · subst h
      rw [if_pos (by omega), if_pos rfl, Nat.testBit_two_pow_add_eq, Nat.testBit_lt_two_pow low]
      rfl
    · rw [if_neg (by omega), if_neg (by omega), if_neg (by omega)]

theorem bitOf_setBit_same (x i : Nat) : bitOf (setBit x i true) i = true := by
  simp [bitOf, testBit_setBit_true]

theorem bitOf_setBit_other {x i j : Nat} (h : j ≠ i) : bitOf (setBit x i true) j = bitOf x j := by
  simp [bitOf, testBit_setBit_true, h]

/-- A field below the bit set keeps its value. -/
theorem field_setBit_below {x i hi lo : Nat} (h : hi < i) : field (setBit x i true) hi lo = field x hi lo := by
  refine Nat.eq_of_testBit_eq fun j => ?_
  simp only [field, Nat.testBit_mod_two_pow, Nat.testBit_div_two_pow, testBit_setBit_true]
  by_cases hj : j < hi + 1 - lo
  · rw [if_neg (by omega)]
  · simp [hj]

end Sys2Proof.Machine
end

section
/-! Firing gates (R173-R175): what accepted levels and an equality of the two inputs do, and that the withdrawal of a latching gate
leaves the SAFE latch set and no mode that fires. -/

namespace Sys2Proof.Machine

set_option Elab.async false -- one proof at a time: the checks of many at once take more memory than the check of this file allows

/-! A gate's inputs -/

/-- The new levels of a gate, with the time since when they are equal. -/
def levelsTaken (n : Nat) (p c : Bool) (s : State) : State :=
  setGate n { s.gate n with
    p := p, c := c
    equalAt := if p == c then (match (s.gate n).equalAt with | some t => some t | none => some s.clk.core) else none } s

theorem doGateInput_eq (n : Nat) (p c : Bool) (s : State) : doGateInput n p c s = judgeGate n (levelsTaken n p c s) := rfl

theorem levelsTaken_state (n : Nat) (p c : Bool) (s : State) : ((levelsTaken n p c s).gate n).state = (s.gate n).state := by
  rw [levelsTaken, setGate_gate]

/-- Whether levels are healthy their names alone tell. -/
theorem levelsTaken_gateHealthy (n : Nat) (p c : Bool) (s : State) :
    (levelsTaken n p c s).gateHealthy n = (setGate n { s.gate n with p := p, c := c, equalAt := none } s).gateHealthy n := by
  simp only [State.gateHealthy, levelsTaken, setGate_gate]
  rfl

theorem judgeGate_healthy_stays {n : Nat} {s : State} (hboot : s.sys.mode ≠ .boot) (hstate : (s.gate n).state = .healthy)
    (hlevels : s.gateHealthy n = true) : judgeGate n s = s := by
  simp [judgeGate, hboot, hstate, hlevels]

theorem judgeGate_withdraws {n : Nat} {s : State} (hboot : s.sys.mode ≠ .boot) (hstate : (s.gate n).state = .healthy)
    (hlevels : s.gateHealthy n = false) : judgeGate n s = withdrawGate n s := by
  simp [judgeGate, hboot, hstate, hlevels]

theorem judgeGate_restores {n : Nat} {s : State} (hboot : s.sys.mode ≠ .boot) (hstate : (s.gate n).state = .withdrawn)
    (hlevels : s.gateHealthy n = true) :
    judgeGate n s = raise 0x0702 0x11 (le 1 n ++ le 1 (s.gateVal n 1)) (enterGate n .healthy s) := by
  simp [judgeGate, hboot, hstate, hlevels]

/-- Inputs equal for more than 1 ms are a fault. -/
theorem doGateFault_equal {n t : Nat} {s : State} (hboot : s.sys.mode ≠ .boot) (hequal : (s.gate n).equalAt = some t)
    (hlong : t + msCk 1 < s.clk.core) (hstate : (s.gate n).state = .healthy ∨ (s.gate n).state = .withdrawn) :
    let w := raiseGate 0x0703 (le 1 n ++ le 1 (b2n (s.gate n).p) ++ le 1 (b2n (s.gate n).c)) (enterGate n .fault s)
    doGateFault n s = if w.gateActs w.sys.mode n then safeSet 1 w else w := by
  have works : ((s.gate n).state == .healthy || (s.gate n).state == .withdrawn) = true := by
    rcases hstate with h | h <;> simp [h]
  simp [doGateFault, hequal, hboot, works, hlong]

/-! A cause of the SAFE latch, once taken, stands when the block is settled -/

@[simp] theorem raiseGate_sameGround (code : Nat) (arg : Bytes) (s : State) :
    SameGround s (raiseGate code arg s) ∧ (raiseGate code arg s).sys = s.sys := by
  unfold raiseGate; split <;> simp

/-- A cause taken outside BOOT leaves every cause before it. -/
theorem takeCause_causes {bit : Nat} {s : State} (hboot : s.sys.mode ≠ .boot) :
    (takeCause bit s).sys.causes = setBit s.sys.causes bit true := by
  by_cases htest : s.sys.mode = .test <;> simp [takeCause, hboot, htest]

theorem takeCause_latch {bit : Nat} {s : State} (h : s.sys.latch = true) : (takeCause bit s).sys.latch = true := by
  unfold takeCause; repeat' split
  all_goals simp [h]

theorem takeCause_latch_of_runs {bit : Nat} {s : State} (hboot : s.sys.mode ≠ .boot) (htest : s.sys.mode ≠ .test) :
    (takeCause bit s).sys.latch = true := by
  simp [takeCause, hboot, htest]

theorem safeSet_latch {bit : Nat} {s : State} (h : s.sys.latch = true) : (safeSet bit s).sys.latch = true := by
  unfold safeSet; split
  · exact h
  · exact takeCause_latch h

theorem safeSet_keepsCause {bit j : Nat} {s : State} (h : bitOf s.sys.causes j = true) :
    bitOf (safeSet bit s).sys.causes j = true := by
  unfold safeSet; split
  · exact h
  · by_cases hboot : s.sys.mode = .boot
    · simpa [takeCause, hboot] using h
    · rw [takeCause_causes hboot]
      by_cases hj : j = bit
      · rw [hj, bitOf_setBit_same]
      · rwa [bitOf_setBit_other hj]

/-- What t must keep of s for a latch and a cause of s to stand in t. -/
def KeepsLatch (s t : State) : Prop :=
  t.gates = s.gates ∧ (s.sys.latch = true → t.sys.latch = true) ∧
  ∀ j, bitOf s.sys.causes j = true → bitOf t.sys.causes j = true

theorem KeepsLatch.trans {s t u : State} (h : KeepsLatch s t) (h' : KeepsLatch t u) : KeepsLatch s u := by
  obtain ⟨hgates, hlatch, hcauses⟩ := h
  obtain ⟨hgates', hlatch', hcauses'⟩ := h'
  exact ⟨hgates'.trans hgates, fun hs => hlatch' (hlatch hs), fun j hj => hcauses' j (hcauses j hj)⟩

theorem keepsLatch_of_eq {s t : State} (hgates : t.gates = s.gates) (hlatch : t.sys.latch = s.sys.latch)
    (hcauses : t.sys.causes = s.sys.causes) : KeepsLatch s t :=
  ⟨hgates, fun h => hlatch.trans h, fun j h => by rw [hcauses, h]⟩

theorem safeSet_keepsLatch (bit : Nat) (s : State) : KeepsLatch s (safeSet bit s) :=
  ⟨by simp, safeSet_latch, fun _ => safeSet_keepsCause⟩

theorem endOp_keepsLatch (k : Nat) (st : LState) (result : Nat) (s : State) : KeepsLatch s (endOp k st result s) :=
  keepsLatch_of_eq (by simp) (by simp) (by simp)

/-- A unit that gives up for want of lanes keeps its latch, which RELINQUISHED joins. -/
theorem giveUp_keepsLatch {s : State} (h : s.tooFewLanes = true) : KeepsLatch s (giveUp 7 s) := by
  simp only [State.tooFewLanes, Bool.and_eq_true, Bool.or_eq_true, beq_iff_eq] at h
  obtain ⟨⟨⟨hrole, hmode⟩, -⟩, -⟩ := h
  have hrun : s.sys.mode ≠ .test := by rcases hmode with hmode | hmode <;> simp [hmode]
  simp only [giveUp, beq_iff_eq, hrun, hrole, if_true, if_false]
  have told (u : State) (hu : KeepsLatch s u) : KeepsLatch s (safeSet 9 u) := hu.trans (safeSet_keepsLatch 9 u)
  split
  · split
    · exact told _ (keepsLatch_of_eq (by simp) (by simp) (by simp))
    · exact (told _ (keepsLatch_of_eq (by simp) (by simp) (by simp))).trans (endOp_keepsLatch _ _ _ _)
  · exact told _ (keepsLatch_of_eq (by simp) (by simp) (by simp))

theorem settle_keepsLatch (s : State) : KeepsLatch s (settle s) := by
  have quiet (u : State) (h : u.tooFewLanes = false) : KeepsLatch u (settle u) := by
    have frame := (settleFrame u).2 h
    exact keepsLatch_of_eq (by simp [frame]) (by simp [frame]) (by simp [frame])
  cases h : s.tooFewLanes with
  | false => exact quiet s h
  | true =>
    rw [settle_of_tooFewLanes h]
    exact (giveUp_keepsLatch h).trans (quiet _ (giveUp_not_tooFewLanes h))

/-! An event changes no entry but the counts of the event system -/

theorem setVal_val_ne {i j v idx sub : Nat} {s : State} (h : ekey idx sub ≠ ekey i j) : (setVal i j v s).val idx sub = s.val idx sub :=
  tget_tset_ne _ _ _ h

theorem ekey_ne_of_index {idx sub i j : Nat} (hsub : sub < 256) (hj : j < 256) (h : idx ≠ i) : ekey idx sub ≠ ekey i j := by
  unfold ekey; omega

theorem ekey_ne_of_sub {idx sub j : Nat} (h : sub ≠ j) : ekey idx sub ≠ ekey idx j := by
  unfold ekey; omega

/-- t has the values of the entries from 0x2000 on as s. -/
def KeepsHigh (s t : State) : Prop := ∀ idx sub, 0x2000 ≤ idx → sub < 256 → t.val idx sub = s.val idx sub

theorem KeepsHigh.trans {s t u : State} (h : KeepsHigh s t) (h' : KeepsHigh t u) : KeepsHigh s u :=
  fun idx sub hidx hsub => (h' idx sub hidx hsub).trans (h idx sub hidx hsub)

theorem keepsHigh_of_cat {s t : State} (h : t.cat = s.cat) : KeepsHigh s t :=
  fun _ _ _ _ => by rw [State.val, h, State.val]

theorem setVal_keepsHigh {i j v : Nat} {s : State} (hi : i < 0x2000) (hj : j < 256) : KeepsHigh s (setVal i j v s) :=
  fun _ _ hidx hsub => setVal_val_ne (ekey_ne_of_index hsub hj (by omega))

theorem bumpBy_keepsHigh {i j w n : Nat} {s : State} (hi : i < 0x2000) (hj : j < 256) : KeepsHigh s (bumpBy i j w n s) :=
  setVal_keepsHigh hi hj

theorem ringPut_keepsHigh (r : Nat) (x : Slot) (s : State) : KeepsHigh s (ringPut r x s) := by
  have counted (u : State) (hu : KeepsHigh s u) (j : Nat) (hj : j < 256) : KeepsHigh s (bumpBy 0x1500 j 64 1 u) :=
    hu.trans (bumpBy_keepsHigh (by decide) hj)
  simp only [ringPut]
  generalize hrings : ({ s with prov := _ } : State) = u
  have same : KeepsHigh s u := by rw [← hrings]; exact keepsHigh_of_cat rfl
  split <;> split
  · exact counted _ same 7 (by decide)
  · exact counted _ (counted _ same 6 (by decide)) 7 (by decide)
  · exact same
  · exact counted _ same 6 (by decide)

theorem pushRec_keepsHigh (r : Rec) (s : State) : KeepsHigh s (pushRec r s) := by
  unfold pushRec
  split
  · split
    · exact (keepsHigh_of_cat rfl).trans (bumpBy_keepsHigh (by decide) (by decide))
    · exact keepsHigh_of_cat rfl
  · exact keepsHigh_of_cat rfl

theorem putEvent_keepsHigh (t code source : Nat) (arg : Bytes) (s : State) : KeepsHigh s (putEvent t code source arg s) := by
  have counted : KeepsHigh s (countRec t source s) := keepsHigh_of_cat rfl
  have recorded (r : Rec) : KeepsHigh s (pushRec r (ringPut 0 (.head r) (countRec t source s))) :=
    (counted.trans (ringPut_keepsHigh _ _ _)).trans (pushRec_keepsHigh _ _)
  simp only [putEvent]
  split
  · exact (recorded _).trans (keepsHigh_of_cat rfl)
  · exact recorded _

theorem noteOverwritten_keepsHigh (r : Nat) (s : State) : KeepsHigh s (noteOverwritten r s) := by
  simp only [noteOverwritten]
  split
  · exact keepsHigh_of_cat rfl
  · exact (keepsHigh_of_cat rfl).trans (putEvent_keepsHigh _ _ _ _ _)

theorem raise_keepsHigh (code source : Nat) (arg : Bytes) (s : State) : KeepsHigh s (raise code source arg s) := by
  simp only [raise, raiseAt]
  split
  · exact (putEvent_keepsHigh _ _ _ _ _).trans (noteOverwritten_keepsHigh _ _)
  · exact putEvent_keepsHigh _ _ _ _ _

/-! A withdrawal -/

/-- The gate's own change in a withdrawal. -/
def withdrawn (n : Nat) (s : State) : State :=
  raiseGate 0x0701 (le 1 n ++ le 1 (s.gateVal n 1) ++ le 1 (b2n (s.gateActs s.sys.mode n && s.gateVal n 5 == 1)))
    (bump (0x2200 + n) 8 32 (enterGate n .withdrawn s))

theorem withdrawn_gate (n : Nat) (s : State) : ((withdrawn n s).gate n).state = .withdrawn := by
  have gates : (withdrawn n s).gates = (setGate n { s.gate n with state := .withdrawn } s).gates := by
    simp [withdrawn, enterGate]
  rw [State.gate, gates]
  exact congrArg Gate.state (setGate_gate (n := n) s)

/-- A withdrawal changes the gate's count and time, and no other value of it. -/
theorem withdrawn_val {n sub : Nat} (s : State) (hsub : sub < 8) : (withdrawn n s).val (0x2200 + n) sub = s.val (0x2200 + n) sub := by
  have changed : (bump (0x2200 + n) 8 32 (enterGate n .withdrawn s)).val (0x2200 + n) sub = s.val (0x2200 + n) sub :=
    (setVal_val_ne (ekey_ne_of_sub (by omega))).trans (setVal_val_ne (ekey_ne_of_sub (by omega)))
  rw [← changed, withdrawn, raiseGate]
  split
  · rfl
  · exact raise_keepsHigh _ _ _ _ _ _ (by omega) (by omega)

/-- The withdrawal of a latching gate that acts takes the gates' cause of the SAFE latch. -/
theorem withdrawGate_latching {n : Nat} {s : State} (hacts : s.gateActs s.sys.mode n = true) (hlatching : s.gateVal n 5 = 1) :
    withdrawGate n s = safeSet 1 (withdrawn n s) := by
  have mode : (withdrawn n s).sys = s.sys := by simp [withdrawn, enterGate]
  have acts : (withdrawn n s).gateActs (withdrawn n s).sys.mode n = true := by
    simpa [State.gateActs, State.flag, withdrawn_val s (show 2 < 8 by decide), withdrawn_val s (show 6 < 8 by decide), mode] using hacts
  have latching : (withdrawn n s).gateVal n 5 = 1 := (withdrawn_val s (by decide)).trans hlatching
  show gateAction n (withdrawn n s) = _
  rw [gateAction, if_pos acts, if_pos latching]

/-- The withdrawal of a latching gate, settled: the latch is set for the gates, and no mode fires. -/
theorem settle_withdrawGate_latching {n : Nat} {s : State} (hboot : s.sys.mode ≠ .boot) (htest : s.sys.mode ≠ .test)
    (hrole : s.pair.role ≠ .standby) (hacts : s.gateActs s.sys.mode n = true) (hlatching : s.gateVal n 5 = 1) :
    let t := settle (withdrawGate n s)
    (t.gate n).state = .withdrawn ∧ t.sys.latch = true ∧ bitOf t.sys.causes 1 = true ∧ t.sys.mode.live = false ∧
    t.sys.safeN = true := by
  intro t
  let w := withdrawn n s
  have sys : w.sys = s.sys := by simp [w, withdrawn, enterGate]
  have role : w.pair.role = s.pair.role := by simp [w, withdrawn, enterGate]
  have boot : w.sys.mode ≠ .boot := by rwa [sys]
  have test : w.sys.mode ≠ .test := by rwa [sys]
  have ends : withdrawGate n s = takeCause 1 w := by
    have own : w.peerCause 1 = false := by simp [State.peerCause, role, hrole]
    simp [withdrawGate_latching hacts hlatching, safeSet, own, w]
  obtain ⟨gates, latch, causes⟩ := settle_keepsLatch (takeCause 1 w)
  rw [← ends] at gates
  have latched : t.sys.latch = true := by
    simp only [t, ends]
    exact latch (takeCause_latch_of_runs boot test)
  have guarded : t.Guarded := settle_guarded _
  have taken : bitOf t.sys.causes 1 = true := by
    simp only [t, ends]
    exact causes 1 (by rw [takeCause_causes boot, bitOf_setBit_same])
  refine ⟨?_, latched, taken, guarded.latch latched, ?_⟩
  · rw [State.gate, gates, ends, show (takeCause 1 w).gates = w.gates by simp]
    exact withdrawn_gate n s
  · rw [guarded.safeN]
    simp [State.safeNow, latched]

/-- Settles O22: the levels by `judgeGate`; a withdrawal that sets the latch leaves it, and no mode that fires, when settled. -/
theorem gateInputs : Obligations.GateInputs := by
  refine ⟨fun dt n p c s => ?_, fun dt n p c s t => ?_⟩
  · intro u g equal v hboot
    have state : (v.gate n.val).state = g.state := levelsTaken_state n.val p c u
    refine ⟨fun hstate hlevels => ?_, fun hstate hlevels => ?_, fun hstate hlevels => ?_, fun t hequal hlong hstate => ?_⟩
    · exact does_next rfl (judgeGate_healthy_stays hboot (state.trans hstate) hlevels)
    · exact does_next rfl (judgeGate_withdraws hboot (state.trans hstate) hlevels)
    · exact does_next rfl (judgeGate_restores hboot (state.trans hstate) hlevels)
    · exact does_next rfl (doGateFault_equal hboot hequal hlong hstate)
  · intro u hboot htest hrole hstate hlevels hacts hlatching hstep
    have state : ((levelsTaken n.val p c u).gate n.val).state = .healthy := (levelsTaken_state n.val p c u).trans hstate
    have levels : (levelsTaken n.val p c u).gateHealthy n.val = false := (levelsTaken_gateHealthy n.val p c u).trans hlevels
    have judged : doGateInput n.val p c u = withdrawGate n.val (levelsTaken n.val p c u) :=
      judgeGate_withdraws hboot state levels
    have step : t = settle (doGateInput n.val p c u) := (Host.Outcome.next.inj hstep).symm
    rw [step, judged]
    exact settle_withdrawGate_latching hboot htest hrole hacts hlatching

end Sys2Proof.Machine
end

section
/-! Compare outputs, probes and emulated encoders (R76, R80, R82, R83). -/

namespace Sys2Proof.Machine

set_option Elab.async false -- one proof at a time: the checks of many at once take more memory than the check of this file allows

/-- An output that no unit drives falls. -/
theorem doPulseEnd_undriven {m : Nat} {s : State} (h : ∀ k, k < 16 → (s.cmp k).drives m s.clk.core = false) :
    doPulseEnd m s = setPulse m false s := by
  have none : (List.range 16).any (fun k => (s.cmp k).drives m s.clk.core) = false := by
    simpa using h
  simp [doPulseEnd, none]

theorem doProbeEdge_selected {p : Nat} {level : Bool} {s : State} (hlevel : level ≠ (s.probe p).level)
    (henable : s.flag (0x2040 + p) 1 = true) (hboot : s.sys.mode ≠ .boot) (htest : s.sys.mode ≠ .test)
    (hsense : s.val (0x2040 + p) 2 &&& (if level then 1 else 2) ≠ 0) :
    doProbeEdge p level s = setProbe p { s.probe p with
      level := level
      waiting := (s.probe p).waiting ++ [(s.rawTime (s.val (0x2040 + p) 3), if level then 1 else 2)] } s := by
  simp [doProbeEdge, hlevel, henable, hboot, htest, hsense]

theorem doProbeEdge_same {p : Nat} {level : Bool} {s : State} (hlevel : level = (s.probe p).level) :
    doProbeEdge p level s = setProbe p { s.probe p with level := level } s := by
  simp [doProbeEdge, hlevel]

/-- An edge that has waited for the encoder's filter is looked up: latched where the window takes it, rejected where not. -/
theorem doProbeLatch_due {p raw edge : Nat} {rest : List (Nat × Nat)} {s : State} (hwaits : (s.probe p).waiting = (raw, edge) :: rest)
    (hdue : raw + s.encCfg 0 2 + 2 ≤ s.clk.core) :
    let w := draw (setProbe p { s.probe p with waiting := rest } s)
    doProbeLatch p s =
      if s.inWindow p (s.positionAt raw) then latchProbe p ⟨s.timeAt raw, edge, s.positionAt raw⟩ w
      else setProbe p { w.probe p with rejected := wrapAdd 32 (s.probe p).rejected 1 } w := by
  simp [doProbeLatch, hwaits, Nat.not_lt.mpr hdue]

/-- An emulated encoder that owes no more than its limit steps toward what it owes, MIN_EDGE after the step before. -/
theorem doEmuStep_owes {e : Nat} {s : State} (henable : s.flag (0x20C0 + e) 1 = true) (hlag : (tget {} s.emus e).lag ≠ 0)
    (hdue : (tget {} s.emus e).stepAt + nsCk (s.val (0x20C0 + e) 3) ≤ s.clk.core) :
    let y := tget {} s.emus e
    doEmuStep e s = { s with emus := tset s.emus e { y with out := if 0 < y.lag then y.out + 1 else y.out - 1, stepAt := s.clk.core } } := by
  simp [doEmuStep, henable, hlag, Nat.not_lt.mpr hdue]

theorem noteLag_within {e : Nat} {s : State} (h : (tget {} s.emus e).lag.natAbs ≤ s.val (0x20C0 + e) 5) : noteLag e s = s := by
  simp [noteLag, Nat.not_lt.mpr h]

/-- Settles O21: each part by the equation of its arm. -/
theorem outputsAndProbes : Obligations.OutputsAndProbes := by
  intro dt m p level e s u x edge
  refine ⟨fun hnone => ?_, fun hlevel henable hboot htest hsense => ?_, fun hlevel => ?_, ?_, ?_⟩
  · exact does_next rfl (doPulseEnd_undriven hnone)
  · exact does_next rfl (doProbeEdge_selected hlevel henable hboot htest hsense)
  · exact does_next rfl (doProbeEdge_same hlevel)
  · intro v y raw edge rest hwaits hdue w
    have looked := doProbeLatch_due hwaits hdue
    exact ⟨fun hin => does_next rfl (looked.trans (if_pos hin)),
      fun hout => does_next rfl (looked.trans (if_neg (by simp [hout])))⟩
  · intro y henable hlag hlimit hdue z
    exact does_next rfl ((congrArg (doEmuStep e.val) (noteLag_within hlimit)).trans (doEmuStep_owes henable hlag hdue))

end Sys2Proof.Machine
end

section
/-! Lines and their frames (R17-R19, R154-R164), and the time and the ticks around them. -/

namespace Sys2Proof.Machine

set_option Elab.async false -- one proof at a time: the checks of many at once take more memory than the check of this file allows

/-! A line in the path -/

/-- A line not yet complete and not late keeps its drop data and the reasons found. -/
theorem doLineComplete_open {g n : Nat} {obs : EccObs} {y : Line} {s : State} (hline : (s.gal g).find n = some y)
    (hdrops : y.drops = none) (hlate : y.late = false) :
    let v := applyEcc g y obs s
    let out := v.linePath g y
    let y1 := { y with drops := some out.1, reasons := v.completeReasons g y obs }
    doLineComplete g n obs s =
      compareDigest g y1 (dropBytes out.1) (finishCaptions g y1 (noteClamped g out.2 (putLine g y1 v))) := by
  simp [doLineComplete, hline, hdrops, hlate]

theorem doDataLate_misses {g n : Nat} {y : Line} {s : State} (hline : (s.gal g).find n = some y) (hpending : y.pending = true)
    (hmisses : s.pred.valid = false ∨ s.missesDeadline g y = true) : doDataLate g n s = lineLate g y s := by
  rcases hmisses with h | h <;> simp [doDataLate, hline, hpending, h]

/-- A frame that is due starts: a line that missed its deadline is late first, and the first frame fixes the line. -/
theorem doLineFrame_starts {l n : Nat} {ring : EccObs} {y y1 y2 : Line} {s : State} (hline : (s.gal (l / 4)).find n = some y)
    (hactive : s.shadows l = false) (hrun : s.running l = true) (hfree : (s.lane l).sending = none)
    (hsendable : s.sendable l y = true) (hdue : s.deadlinePassed (l / 4) (usg 32 ((n : Int) - s.step (l / 4))) = true)
    (hready : y.pending = true → s.missed l y = true) :
    let v := if s.missed l y then lineLate (l / 4) y s else readRing l y ring s
    (v.gal (l / 4)).find n = some y1 → ((fixLine (l / 4) y1 v).gal (l / 4)).find n = some y2 →
    doLineFrame l n ring s = startFrame l y2 (fixLine (l / 4) y1 v) := by
  intro v hread hfixed
  have ready : (y.pending && !s.missed l y) = false := by
    cases hpending : y.pending with
    | false => rfl
    | true => simp [hready hpending]
  simp only [v] at hread hfixed ⊢
  simp [doLineFrame, hline, hactive, hrun, hfree, hsendable, hdue, ready, hread, hfixed]

theorem doLineFrame_shadows {l n : Nat} {ring : EccObs} {y : Line} {s : State} (hline : (s.gal (l / 4)).find n = some y)
    (hshadows : s.shadows l = true) : doLineFrame l n ring s = shadowLine l y s := by
  simp [doLineFrame, hline, hshadows]

/-! A lane between frames, and what watches the ticks -/

/-- After a frame that hands no lane over a TIME follows, on a lane that carries it, and then what is due. -/
theorem doFrameSent_ended {l : Nat} {f : Sending} {s : State} (hsending : (s.lane l).sending = some f) (hended : f.endsAt ≤ s.clk.core)
    (htype : f.frame.type ≠ 0x21) :
    let v := setLane l { s.lane l with sending := none } s
    let w := if v.sendsTime l then sendTime l v else v
    w.yieldAfter l = none → doFrameSent l s = pumpLane l w := by
  intro v w hyield
  simp only [v, w] at hyield ⊢
  simp [doFrameSent, hsending, Nat.not_lt.mpr hended, htype, hyield]

theorem doTimePeriodic_fits {l : Nat} {s : State} (hcarries : s.sendsTime l = true) (hfree : (s.lane l).sending = none)
    (hfits : s.timeFits l = true) : doTimePeriodic l s = pumpLane l (sendTime l s) := by
  simp [doTimePeriodic, hcarries, hfree, hfits]

theorem doTickOverdue_lost {s : State} (hvalid : s.pred.valid = true) (hlate : s.pred.phi + 2 * s.pred.p ≤ (s.now : Int)) :
    doTickOverdue s = predictorLost (raiseBlank 0x0707 0x0010 (le 4 s.pred.mPhi ++ le 4 s.lc.period)
      { s with pred := { s.pred with overdue := wrapAdd 32 s.pred.overdue 1 } }) := by
  simp [doTickOverdue, hvalid, hlate]

theorem doPrintRecord_due {g n : Nat} {y : Line} {s : State} (hline : (s.gal g).find n = some y) (hprints : y.prints = true)
    (hkept : bitOf (s.val 0x1500 3) g = true) (hcontrol : s.inControl = true) (hdue : y.stamp + usT 2000 ≤ s.now) :
    let v := writePrintRecord g (s.withLanesDown g y) s
    doPrintRecord g n s = setGal g { v.gal g with lines := (v.gal g).lines.filter (fun z => z.line != n) } v := by
  simp [doPrintRecord, hline, hprints, hkept, hcontrol, hdue]

/-- Settles O23: each clause is the equation of its arm on the line or the lane named. -/
theorem linesAndFrames : Obligations.LinesAndFrames := by
  refine ⟨fun dt g l n obs ring y s => ⟨fun hline hdrops hlate => ?_, fun hline hpending hmisses => ?_, ?_, fun hline hshadows => ?_⟩,
    fun dt g link n s => ⟨?_, fun hcarries hfree hfits => ?_, fun hvalid hlate => ?_, ?_⟩⟩
  · exact does_next rfl (doLineComplete_open hline hdrops hlate)
  · exact does_next rfl (doDataLate_misses hline hpending hmisses)
  · intro hline hactive hrun hfree hsendable hdue hready v y1 hread y2 hfixed
    exact does_next rfl (doLineFrame_starts hline hactive hrun hfree hsendable hdue hready hread hfixed)
  · exact does_next rfl (doLineFrame_shadows hline hshadows)
  · intro f hsending hended htype v w hyield
    exact does_next rfl (doFrameSent_ended hsending hended htype hyield)
  · exact does_next rfl (doTimePeriodic_fits hcarries hfree hfits)
  · exact does_next rfl (doTickOverdue_lost hvalid hlate)
  · intro y hline hprints hkept hcontrol hdue
    exact does_next rfl (doPrintRecord_due hline hprints hkept hcontrol hdue)

/-! A module's silence (R190, R197, R201, R207) -/

/-- A transaction unanswered for 1 ms goes out again. -/
theorem doCtrlRetry_again {l tag : Nat} {c : Ctrl} {x : Lane} {s : State}
    (hopen : s.answered l tag [0x10, 0x11, 0x12] = some (c, x)) (hrun : s.running l = true)
    (hwaits : s.resending l tag = false) (hdue : c.sentAt + msCk 1 ≤ s.clk.core) (hfew : c.resends < 3) :
    doCtrlRetry l tag s = resend l c x s := by
  simp [doCtrlRetry, hopen, hrun, hwaits, Nat.not_lt.mpr hdue, hfew]

/-- An identity read unanswered for 50 ms goes out again. -/
theorem doIdRetry_again {l tag : Nat} {c : Ctrl} {x : Lane} {s : State} (hopen : s.answered l tag [0x13] = some (c, x))
    (hrun : s.running l = true) (hwaits : s.resending l tag = false) (hdue : c.sentAt + msCk 50 ≤ s.clk.core)
    (hfew : c.resends < 3) : doIdRetry l tag s = resend l c x s := by
  simp [doIdRetry, hopen, hrun, hwaits, Nat.not_lt.mpr hdue, hfew]

theorem doStatusMissing_due {b : Nat} {s : State} (hrun : s.running (b / 16) = true) (hpopulated : s.populated b = true)
    (hwarm : (s.bay b).inkCold = false) (hdue : (s.bay b).statusAt + msCk (s.val (0x5000 + b / 16) 12) ≤ s.clk.core) :
    doStatusMissing b s = raise 0x080A (0x0200 + b / 16) (le 2 b)
      (forgetSensor (0x2000 + b) (forgetSensor (0x3000 + b) (enterCold b none (setBay b { s.bay b with missing := true } s)))) := by
  simp [doStatusMissing, hrun, hpopulated, hwarm, hdue]

/-- Settles O26: each silence by the equation of what watches it. -/
theorem moduleSilence : Obligations.ModuleSilence := by
  intro dt l k tag b s u key again
  refine ⟨?_, ?_, fun hcarries hdue hqueue => ?_, fun q t1 rest hsyncs hthird hdue => ?_, fun hdue => ?_,
    fun hrun hpopulated hwarm hdue => ?_⟩
  · intro c x hopen hrun hwaits hdue hfew
    exact does_next rfl (congrArg serveWaiting (doCtrlRetry_again hopen hrun hwaits hdue hfew))
  · intro c x hopen hrun hwaits hdue hfew
    exact does_next rfl (doIdRetry_again hopen hrun hwaits hdue hfew)
  · exact does_next rfl (by simp [doSyncDue, hcarries, hdue, hqueue, u, key])
  · exact does_next rfl (by simp [doUnanswered, hsyncs, hthird, hdue, u, key])
  · exact does_next rfl (if_pos hdue)
  · exact does_next rfl (doStatusMissing_due hrun hpopulated hwarm hdue)

end Sys2Proof.Machine
end

section
/-! The host port (R325, R343-R349): configuration writes, the link, the registers that a read or a write acts on, the mailbox. -/

namespace Sys2Proof.Machine

set_option Elab.async false -- one proof at a time: the checks of many at once take more memory than the check of this file allows

/-! The register BAR -/

/-- An access that a port does not answer has no effect. -/
theorem does_of_portOff {c : Instr} {s u : State} {f : State → State} (hexec : exec c s = next (onBar f u))
    (hport : u.portOn = false) : Does c s u := by
  rw [Does, hexec, onBar, if_neg (by simp [hport]), next]

/-- One aligned word outside MB_REQUEST goes to its register. -/
theorem barWrite_word {a : Nat} {b0 b1 b2 b3 : Byte} {s : State} (haligned : a % 4 = 0) (hregister : ¬ (0x001000 ≤ a ∧ a < 0x002000)) :
    barWrite 4 a [b0, b1, b2, b3] s = registerWrite a (ofLe [b0, b1, b2, b3]) s := by
  simp [barWrite, haligned, wordWrite, hregister]

/-- RING_CTRL written with RESET empties a ring that is disabled and not busy, and that the write does not enable. -/
theorem Ring.control_reset {x : Ring} {v : Nat} {busy : Bool} (henable : x.enable = false) (hbusy : busy = false)
    (hv : bitOf v 0 = false) : x.control (setBit v 2 true) busy =
      { x with head := 0, tail := 0, chains := [], halted := x.halted && !bitOf v 1 } := by
  have enable : bitOf (setBit v 2 true) 0 = x.enable := by rw [bitOf_setBit_other (by decide), hv, henable]
  have resume : bitOf (setBit v 2 true) 1 = bitOf v 1 := bitOf_setBit_other (by decide)
  simp [Ring.control, bitOf_setBit_same, enable, resume, henable, hbusy]

/-- RING_CTRL written with RESUME, and without RESET, lets a ring go on. -/
theorem Ring.control_resume {x : Ring} {v : Nat} {busy : Bool} (hv : bitOf v 2 = false) :
    x.control (setBit v 1 true) busy = { x with enable := bitOf v 0, halted := false } := by
  have reset : bitOf (setBit v 1 true) 2 = false := by rw [bitOf_setBit_other (by decide), hv]
  have enable : bitOf (setBit v 1 true) 0 = bitOf v 0 := bitOf_setBit_other (by decide)
  simp [Ring.control, bitOf_setBit_same, reset, enable]

theorem ringWrite_reset {r : Fin 4} {v : Nat} {s : State} (henable : (s.accRing r.val).enable = false)
    (hbusy : s.ringBusy r.val = false) (hv : bitOf v 0 = false) :
    ringWrite (.accession r) 0x14 (setBit v 2 true) s = setAccRing r.val { s.accRing r.val with
      head := 0, tail := 0, chains := [], halted := (s.accRing r.val).halted && !bitOf v 1, askedAt := s.clk.core } s := by
  simp only [ringWrite, Ring.write, Ring.control_reset henable hbusy hv]

theorem ringWrite_resume {r : Fin 4} {v : Nat} {s : State} (hv : bitOf v 2 = false) :
    ringWrite (.accession r) 0x14 (setBit v 1 true) s = setAccRing r.val { s.accRing r.val with
      enable := bitOf v 0, halted := false, askedAt := s.clk.core } s := by
  simp only [ringWrite, Ring.write, Ring.control_resume hv]

/-! The configuration space and the link -/

theorem doConfigWrite_on {bme : Option Bool} {power : Option PowerWrite} {other : Option ConfigWrite} {s : State} (hport : s.portOn = true) :
    doConfigWrite bme power other s = sendHeld (flushRings { s with host := s.host.config bme power other }) := by
  simp [doConfigWrite, hport]

/-- A link at a speed that it may have, or down, and in L2 only when down. -/
theorem doHostLink_on {speed width : Nat} {l2 : Bool} {s : State} (hport : s.portOn = true) (hspeed : speed ≤ s.val 0xA000 2)
    (hwidth : speed = 0 ↔ width = 0) (hl2 : l2 = true → speed = 0) :
    doHostLink speed width l2 s = raise 0x0F02 2 [BitVec.ofNat 8 speed, BitVec.ofNat 8 width]
      (setVal 0xA000 4 width (setVal 0xA000 3 speed
        { s with host := { s.host with l2 := l2, wake := s.host.wake && (s.host.d3hot || l2) } })) := by
  have down : ((speed == 0) != (width == 0)) = false := by
    by_cases h : speed = 0 <;> simp [h, ← hwidth, beq_eq_false_iff_ne.mpr, hwidth.mp]
  have low : (l2 && speed != 0) = false := by
    cases l2 with
    | false => rfl
    | true => simp [hl2 rfl]
  simp [doHostLink, hport, Nat.not_lt.mpr hspeed, down, low]

/-- A read of MB_STATUS returns it and clears OVERRUN. -/
def readMbStatus (s : State) : State :=
  emit (.readData (some (le 4 s.mbStatus))) { s with host := { s.host with mailbox := { s.host.mailbox with overrun := false } } }

theorem registerRead_mbStatus (s : State) : s.registerRead 0x003004 = s.mbStatus := by
  simp [State.registerRead]

theorem exec_hostHeartbeatTick_due {dt : Nat} {s : State} (hready : (advance dt s).host.ready = true)
    (hdue : (advance dt s).host.heartbeatAt + msCk 1 ≤ (advance dt s).clk.core) :
    exec (.hostHeartbeatTick dt) s = next { advance dt s with host := { (advance dt s).host with
      heartbeat := wrapAdd 32 (advance dt s).host.heartbeat 1, heartbeatAt := (advance dt s).clk.core } } := by
  rw [exec_hostHeartbeatTick]
  simp only [execHostHeartbeatTick, hready, hdue, decide_true, Bool.and_self, if_true]

/-- Settles O28: each command is an access to a port that answers, or, with the port off, to none. -/
theorem hostPortCommands : Obligations.HostPortCommands := by
  refine ⟨fun dt bme power other b d3 on mask l2 p q speed width cause v s => ?_, fun dt r e o v b0 b1 b2 b3 s => ?_⟩
  · refine ⟨rfl, rfl, rfl, rfl, fun hport => ⟨?_, fun hspeed hwidth hl2 => ?_, ?_, fun hv => ?_, ?_⟩, fun hready hdue => ?_⟩
    · exact does_next rfl (doConfigWrite_on hport)
    · exact does_next rfl (doHostLink_on hport hspeed hwidth hl2)
    · exact does_of_exec_eq_onBar (f := resetPort cause.val) rfl hport
    · exact does_next rfl ((onBar_of_portOn hport _).trans (if_pos hv))
    · rw [registerRead_mbStatus]
      exact does_of_exec_eq_onBar (f := readMbStatus) rfl hport
    · exact does_next (exec_hostHeartbeatTick_due hready hdue) rfl
  · refine ⟨fun hport => ⟨fun haligned hregister => ?_, ?_, ?_, fun henable hbusy hv => ?_, fun hhalted hv => ?_⟩, fun hport => ?_⟩
    · exact does_next rfl ((onBar_of_portOn hport _).trans (barWrite_word haligned hregister))
    · exact does_of_exec_eq_onBar (f := ringWrite (.accession r) 0x0C v.toNat) rfl hport
    · exact does_of_exec_eq_onBar (f := ringWrite (.egress e) 0x0C v.toNat) rfl hport
    · exact does_next rfl ((onBar_of_portOn hport _).trans (ringWrite_reset henable hbusy hv))
    · exact does_next rfl ((onBar_of_portOn hport _).trans (ringWrite_resume hv))
    · exact ⟨does_of_portOff rfl hport, does_of_portOff rfl hport, does_of_portOff rfl hport, does_of_portOff rfl hport⟩

/-! The mailbox (R348, R349) -/

theorem doDoorbell_busy {v : Nat} {s : State} (hbusy : s.host.mailbox.busy = true) :
    doDoorbell v s = bump 0xA000 0x0A 32 { s with host := { s.host with mailbox := { s.host.mailbox with overrun := true } } } := by
  simp [doDoorbell, hbusy]

/-- A doorbell while the mailbox is free and the Catalogue served: a body of a wrong length is answered at once. -/
theorem doDoorbell_free {v : Nat} {s : State} (hbusy : s.host.mailbox.busy = false) (hserved : s.served = true) :
    let body := s.host.mailbox.body (v % 8192)
    let t := transOf (.mailbox (v / 65536)) body
    let taken := { s with host := { s.host with mailbox := { s.host.mailbox with busy := true, done := false } } }
    doDoorbell v s = if mailboxLength (v % 8192) body then serve t taken else refuseWith t 0xAB0F0001 taken := by
  simp [doDoorbell, hbusy, hserved]

/-- Settles O29: a doorbell is an access to the BAR, and an answer pends source 12, which nothing coalesces. -/
theorem mailbox : Obligations.Mailbox := by
  refine ⟨fun dt v s => ?_, fun tag body s => ?_⟩
  · intro u m n t taken hport
    refine ⟨fun hbusy => ?_, fun hbusy hserved hlength => ?_, fun hbusy hserved hlength => ?_⟩
    · exact does_next rfl ((onBar_of_portOn hport _).trans (doDoorbell_busy hbusy))
    · exact does_next rfl ((onBar_of_portOn hport _).trans ((doDoorbell_free hbusy hserved).trans (if_neg (by simp [m, n, hlength]))))
    · exact does_next rfl ((onBar_of_portOn hport _).trans ((doDoorbell_free hbusy hserved).trans (if_pos hlength)))
  · exact ⟨rfl, rfl, rfl, rfl, rfl, by simp [answerMailbox, pendIrq, Ic.raiseEdge, irqPlain, Ic.pendingBit, irqLevel]⟩

end Sys2Proof.Machine
end

section
/-! The interrupt controller (R351-R359): claims and completions, and the registers beside them. -/

namespace Sys2Proof.Machine

set_option Elab.async false -- one proof at a time: the checks of many at once take more memory than the check of this file allows

/-! Settling leaves the stacks -/

theorem giveUp_stack (s : State) : (giveUp 7 s).ic.stack = s.ic.stack := by
  simp only [giveUp]; repeat' split
  all_goals simp_all

/-- Nothing that follows a command by itself touches a stack. -/
theorem settle_stack (s : State) : (settle s).ic.stack = s.ic.stack := by
  have quiet (u : State) (h : u.tooFewLanes = false) : (settle u).ic.stack = u.ic.stack := by
    simp [settle, watchLanes_of_not_tooFewLanes h]
  cases h : s.tooFewLanes with
  | false => exact quiet s h
  | true => rw [settle_of_tooFewLanes h, quiet _ (giveUp_not_tooFewLanes h), giveUp_stack]

theorem settle_stackOf (t : Nat) (s : State) : (settle s).ic.stackOf t = s.ic.stackOf t := by
  rw [Ic.stackOf, settle_stack, Ic.stackOf]

/-! Claims and completions (R353-R356) -/

theorem claimPush_stackOf (t src : Nat) (s : State) :
    (resignal t (claimPush t src s)).ic.stackOf t = (src, tget 0 s.ic.prio src) :: s.ic.stackOf t := by
  simp [Ic.stackOf, resignal, claimPush]


theorem sampleLevels_portOn (s : State) : (sampleLevels s).portOn = s.portOn := rfl

/-- An access to the BAR after the levels have been sampled. -/
theorem does_sampled {c : Instr} {s v t : State} {f : State → State} (hexec : exec c s = next (onBar f (sampleLevels v)))
    (hport : v.portOn = true) (h : f (sampleLevels v) = t) : Does c s t :=
  does_next hexec ((onBar_of_portOn (by rw [sampleLevels_portOn, hport]) f).trans h)

/-- A CLAIM of a deliverable source is accepted while the stack has room. -/
theorem doIcClaim_accepted {t src : Nat} {s : State} (h : s.ic.deliverable t src = true) (hroom : (s.ic.stackOf t).length < 16) :
    doIcClaim t src s = resignal t (claimPush t src s) := by
  simp only [Ic.deliverable, Bool.and_eq_true, Bool.not_eq_true', decide_eq_true_eq] at h
  obtain ⟨⟨⟨hpending, henabled⟩, hservice⟩, hprio⟩ := h
  simp [doIcClaim, henabled, hpending, hservice, Nat.not_le.mpr hprio, Nat.not_le.mpr hroom]

/-- A CLAIM that fails for its priority or its service is pushed all the same in BRINGUP. -/
theorem doIcClaim_priority_bringup {t src : Nat} {s : State} (hbringup : s.ic.bringup = true) (henabled : s.ic.enabled t src = true)
    (hpending : s.ic.pendingBit src = true) (hlow : s.ic.inService src = true ∨ tget 0 s.ic.prio src ≤ s.ic.topPrio t)
    (hroom : (s.ic.stackOf t).length < 16) :
    doIcClaim t src s = resignal t (claimPush t src (stackFault t 4 src s)) := by
  rcases hlow with h | h <;> simp [doIcClaim, hbringup, henabled, hpending, hroom, h]

theorem doIcClaim_disabled {t src : Nat} {s : State} (henabled : s.ic.enabled t src = false) :
    doIcClaim t src s = resignal t (stackFault t 3 src s) := by
  simp [doIcClaim, henabled]

/-- A CLAIM of a source in service on another target is of kind 4, pending or not. -/
theorem doIcClaim_elsewhere {t src : Nat} {s : State} (hbringup : s.ic.bringup = false) (henabled : s.ic.enabled t src = true)
    (hservice : s.ic.inService src = true) (helse : s.ic.servedElsewhere t src = true) :
    doIcClaim t src s = resignal t (stackFault t 4 src s) := by
  simp [doIcClaim, hbringup, henabled, hservice, helse]

/-- A COMPLETE of the source at the top ends its service. -/
theorem doIcComplete_top {t src p : Nat} {rest : List (Nat × Nat)} {s : State} (htop : s.ic.stackOf t = (src, p) :: rest) :
    doIcComplete t src s = resignal t (endService t src { s with ic := { s.ic with stack := tset s.ic.stack t rest } }) := by
  simp [doIcComplete, htop]

theorem doIcComplete_empty {t src : Nat} {s : State} (hempty : s.ic.stackOf t = []) :
    doIcComplete t src s = resignal t (stackFault t 2 src s) := by
  simp [doIcComplete, hempty]

/-- A COMPLETE of another source than the top pops the top all the same in BRINGUP, and ends both services. -/
theorem doIcComplete_other_bringup {t src top p : Nat} {rest : List (Nat × Nat)} {s : State} (hbringup : s.ic.bringup = true)
    (htop : s.ic.stackOf t = (top, p) :: rest) (hother : top ≠ src) :
    let w := stackFault t 1 src s
    let w2 := endService t top { w with ic := { w.ic with stack := tset w.ic.stack t rest } }
    doIcComplete t src s = resignal t { w2 with ic := { w2.ic with serving := tset w2.ic.serving src false } } := by
  simp [doIcComplete, htop, hother, hbringup]

theorem endService_quiet {t src : Nat} {s : State} (h : irqLevel src = false ∨ s.levelNow src = true) :
    endService t src s = { s with ic := { s.ic with serving := tset s.ic.serving src false } } := by
  rcases h with h | h <;> simp [endService, h]

theorem endService_vanished {t src : Nat} {s : State} (hlevel : irqLevel src = true) (hgone : s.levelNow src = false) :
    endService t src s = { s with ic := { s.ic with
      serving := tset s.ic.serving src false, vanished := tset s.ic.vanished t (satAdd 32 (tget 0 s.ic.vanished t) 1) } } := by
  simp [endService, hlevel, hgone]

/-- Settles O30: each CLAIM and COMPLETE by its place in `doIcClaim` and `doIcComplete`; settling leaves the stacks. -/
theorem claims : Obligations.Claims := by
  refine ⟨fun dt t v s => ?_, fun dt t v p rest s => ?_, fun dt t v s => ?_, fun dt t v s => ?_⟩
  · intro u src hport hdeliverable hroom
    have accepted := doIcClaim_accepted hdeliverable hroom
    have claim : Does (.icClaim dt t v) s (resignal t.val (claimPush t.val src u)) := does_sampled rfl hport accepted
    exact ⟨claim, _, claim, (settle_stackOf t.val _).trans (claimPush_stackOf t.val src u)⟩
  · intro u src ic hport htop
    have completed := doIcComplete_top htop
    refine ⟨fun hquiet => does_sampled rfl hport (completed.trans (congrArg _ (endService_quiet ?_))),
      fun hlevel hgone => does_sampled rfl hport (completed.trans (congrArg _ (endService_vanished hlevel ?_)))⟩
    · exact hquiet
    · exact hgone
  · intro u src hport hbringup
    refine ⟨fun henabled hpending hlow hroom => ?_, fun henabled => ?_, fun hempty => ?_, fun top p rest htop hother => ?_⟩
    · exact does_sampled rfl hport (doIcClaim_priority_bringup hbringup henabled hpending hlow hroom)
    · exact does_sampled rfl hport (doIcClaim_disabled henabled)
    · exact does_sampled rfl hport (doIcComplete_empty hempty)
    · exact does_sampled rfl hport (doIcComplete_other_bringup hbringup htop hother)
  · intro u src hport hbringup henabled hservice helse
    exact does_sampled rfl hport (doIcClaim_elsewhere hbringup henabled hservice helse)

/-! The other registers (R358, R359) -/

theorem registerRead_icVanished {t : Nat} (ht : t < 4) (s : State) : s.registerRead (0x01020C + 0x10 * t) = tget 0 s.ic.vanished t := by
  interval_cases t <;> simp [State.registerRead, Ic.read]

/-- A clear of one source's pending bit, unless it is a level source. -/
def clearPend (i j : Nat) (s : State) : State :=
  if irqLevel (32 * i + j) then s else { s with ic := { s.ic with pending := tset s.ic.pending (32 * i + j) false } }

theorem doIcPendClear_eq (i v : Nat) (s : State) : doIcPendClear i v s = forEach (onesOf 32 v) (clearPend i) s := rfl

/-- t is s but for the pending bits. -/
def OnlyPending (s t : State) : Prop := ∃ bits, t = { s with ic := { s.ic with pending := bits } }

theorem OnlyPending.eq {s t : State} (h : OnlyPending s t) : t = { s with ic := { s.ic with pending := t.ic.pending } } := by
  obtain ⟨bits, rfl⟩ := h
  rfl

theorem clearPend_onlyPending {s t : State} (i j : Nat) (h : OnlyPending s t) : OnlyPending s (clearPend i j t) := by
  obtain ⟨bits, rfl⟩ := h
  unfold clearPend
  split
  · exact ⟨bits, rfl⟩
  · exact ⟨_, rfl⟩

/-- A clear never sets a bit, and reaches no source but its own. -/
theorem clearPend_pending (i j src : Nat) (s : State) :
    tget false (clearPend i j s).ic.pending src =
      if src = 32 * i + j ∧ irqLevel src = false then false else tget false s.ic.pending src := by
  unfold clearPend
  by_cases hsrc : src = 32 * i + j
  · subst hsrc
    split
    · next h => simp [h]
    · next h => simp [h]
  · split
    · simp [hsrc]
    · simp [hsrc, tget_tset_ne _ _ _ hsrc]

theorem forEach_clearPend_onlyPending {s t : State} (i : Nat) (js : List Nat) (h : OnlyPending s t) :
    OnlyPending s (forEach js (clearPend i) t) := by
  induction js generalizing t with
  | nil => exact h
  | cons j js ih => exact ih (clearPend_onlyPending i j h)

/-- Of several clears, those of edge sources clear them, and every other source keeps its bit. -/
theorem forEach_clearPend_pending (i : Nat) (js : List Nat) (src : Nat) (s : State) :
    tget false (forEach js (clearPend i) s).ic.pending src =
      if (∃ j ∈ js, src = 32 * i + j) ∧ irqLevel src = false then false else tget false s.ic.pending src := by
  induction js generalizing s with
  | nil => simp [forEach]
  | cons j js ih =>
    show tget false (forEach js (clearPend i) (clearPend i j s)).ic.pending src = _
    rw [ih, clearPend_pending]
    by_cases hj : src = 32 * i + j
    · subst hj
      cases irqLevel (32 * i + j) <;> simp
    · simp [hj]

theorem mem_onesOf {n v j : Nat} : j ∈ onesOf n v ↔ j < n ∧ bitOf v j = true := by
  simp [onesOf, bitOf]

/-- Settles O33: the registers are accesses to the BAR; a clear of pending bits goes source by source. -/
theorem interruptRegisters : Obligations.InterruptRegisters := by
  refine ⟨fun dt i t src v s => ?_, fun i v s => ?_⟩
  · intro u
    refine ⟨fun hport => ⟨?_, ?_, ?_⟩, fun hcount hdue => ?_⟩
    · exact does_of_exec_eq_onBar (f := icFaultClear v.toNat) rfl hport
    · rw [registerRead_icVanished t.isLt]
      exact does_of_exec_eq_onBar (f := icVanished t.val) rfl hport
    · exact does_of_exec_eq_onBar (f := doIcPendClear i.val v.toNat) rfl hport
    · exact does_next rfl (if_pos ⟨hcount, hdue⟩)
  · intro w
    have pending (src : Nat) := forEach_clearPend_pending i (onesOf 32 v) src s
    refine ⟨(forEach_clearPend_onlyPending i (onesOf 32 v) ⟨_, rfl⟩).eq, fun j hj hv hedge => ?_, fun src hother => ?_⟩
    · exact (pending (32 * i + j)).trans (if_pos ⟨⟨j, mem_onesOf.2 ⟨hj, hv⟩, rfl⟩, hedge⟩)
    · refine (pending src).trans (if_neg fun h => ?_)
      obtain ⟨⟨j, hj, hsrc⟩, -⟩ := h
      obtain ⟨hlt, hv⟩ := mem_onesOf.1 hj
      exact hother j hlt hv hsrc

end Sys2Proof.Machine
end

section
/-! The CRC unit (R362-R364). -/

namespace Sys2Proof.Machine

set_option Elab.async false -- one proof at a time: the checks of many at once take more memory than the check of this file allows

theorem crcData_soft {n : Nat} {bs : Bytes} {s : State} (hmode : (s.crcCh n).mode = 1) :
    crcData n bs s = setCrc n { s.crcCh n with val := crcFeed (s.crcCh n).algorithm (s.crcCh n).val bs } s := by
  simp [crcData, hmode]

theorem crcData_other {n : Nat} {bs : Bytes} {s : State} (hmode : (s.crcCh n).mode ≠ 1) : crcData n bs s = s := by
  simp [crcData, hmode]

theorem crcCfg_frozen {n v : Nat} {s : State} (h : s.crcFrozen (s.crcCh n) = true) : crcCfg n v s = s := by
  simp [crcCfg, h]

/-- A write of CRC_CFG that asks for OFF or SOFT is taken as it stands; INIT, or a change of ALGO or MODE, loads the initial value. -/
theorem crcCfg_takes {n v : Nat} {s : State} (h : s.crcFrozen (s.crcCh n) = false) (hmode : field v 5 4 < 2) :
    let c := s.crcCh n
    crcCfg n v s = setCrc n { c with
      algo := field v 1 0, mode := field v 5 4, ring := field v 13 12, egress := bitOf v 14
      val := if (field v 1 0 ≠ c.algo ∨ field v 5 4 ≠ c.mode) ∨ bitOf v 16 = true then (CrcAlgo.ofCode (field v 1 0)).initial else c.val } s := by
  have known : field v 5 4 ≠ 3 := by omega
  have unbound : field v 5 4 ≠ 2 := by omega
  simp [crcCfg, h, known, unbound]

/-- INIT leaves every other field of the word. -/
theorem crcCfg_init {n v : Nat} {s : State} (h : s.crcFrozen (s.crcCh n) = false) (hmode : field v 5 4 < 2) :
    crcCfg n (setBit v 16 true) s = setCrc n { s.crcCh n with
      algo := field v 1 0, mode := field v 5 4, ring := field v 13 12, egress := bitOf v 14
      val := (CrcAlgo.ofCode (field v 1 0)).initial } s := by
  have below {hi lo : Nat} (hhi : hi < 16) : field (setBit v 16 true) hi lo = field v hi lo := field_setBit_below hhi
  rw [crcCfg_takes h (by rwa [below (by decide)])]
  simp only [below (show 1 < 16 by decide), below (show 5 < 16 by decide), below (show 13 < 16 by decide),
    bitOf_setBit_other (show 14 ≠ 16 by decide), bitOf_setBit_same, or_true, if_true]

/-- CRC_STAT of a channel, as a read of its register gives it. -/
theorem registerRead_crcStat {n : Nat} (hn : n < 16) (s : State) : s.registerRead (0x030014 + 0x20 * n) = (s.crcCh n).statWord := by
  interval_cases n <;> simp [State.registerRead, CrcCh.read]

/-- Settles O34: the commands by their cases; feeding goes byte by byte, from the value the bytes before it left. -/
theorem crcCommands : Obligations.CrcCommands := by
  refine ⟨fun dt n bs v s => ?_, fun a v xs ys => List.foldl_append⟩
  intro u c algo wanted hport
  have write {instr : Instr} {f : State → State} {t : State} (hexec : exec instr s = next (onBar f u)) (h : f u = t) : Does instr s t :=
    does_next hexec ((onBar_of_portOn hport f).trans h)
  refine ⟨fun hmode => ?_, fun hmode => ?_, fun hfrozen => ⟨?_, ?_⟩, fun hfree hwanted => ⟨?_, fun hinit => ?_⟩, ?_⟩
  · exact write rfl (crcData_soft hmode)
  · exact write rfl (crcData_other hmode)
  · exact write rfl (crcCfg_frozen hfrozen)
  · exact write rfl (crcCfg_frozen hfrozen)
  · exact write rfl (crcCfg_init hfree hwanted)
  · refine write rfl ((crcCfg_takes hfree hwanted).trans ?_)
    simp only [hinit, Bool.false_eq_true, or_false]
    rfl
  · rw [registerRead_crcStat n.isLt]
    exact write (f := crcStat n.val) rfl rfl

end Sys2Proof.Machine
end

section
/-! The Reserve: accession (R91-R97), its BAR (R98, R344), and egress with the outgoing Provenance records (R103-R106, R338). -/

namespace Sys2Proof.Machine

set_option Elab.async false -- one proof at a time: the checks of many at once take more memory than the check of this file allows

/-! The Reserve BAR -/

theorem landDirect_inside {a : Nat} {bs : Bytes} {s : State}
    (hinside : s.res.segs.any (fun g => g.direct && g.state == .opened && decide (g.offset ≤ a ∧ a + bs.length ≤ g.offset + g.length)) = true)
    (halone : s.mirrors = false) : landDirect a bs s = resWrite a bs s := by
  obtain ⟨g, hg⟩ := Option.isSome_iff_exists.1 ((List.find?_isSome.trans List.any_eq_true.symm).2 hinside)
  simp only [landDirect, hg, halone, Bool.false_eq_true, if_false]

theorem landDirect_outside {a : Nat} {bs : Bytes} {s : State}
    (houtside : s.res.segs.any (fun g => g.direct && g.state == .opened && decide (g.offset ≤ a ∧ a + bs.length ≤ g.offset + g.length)) = false) :
    landDirect a bs s = bump 0x6000 14 32 s := by
  have none := List.find?_eq_none.2 (fun g hg => List.any_eq_false.1 houtside g hg)
  simp only [landDirect, none]

/-- A read returns the Reserve, all-ones beyond CAPACITY. -/
theorem doBarRead_clean {a n : Nat} {s : State} (h : s.res.capacity ≤ a ∨ s.poisoned a (min n (s.res.capacity - a)) = false) :
    doBarRead a n s = emit (.readData (some ((List.range n).map
      (fun i => if a + i < s.res.capacity then s.reserveByte (a + i) else 0xFF)))) (draw s) := by
  rcases h with h | h
  · simp [doBarRead, Nat.not_lt.mpr h]
  · simp [doBarRead, h]

theorem doBarRead_poisoned {a n : Nat} {s : State} (hin : a < s.res.capacity)
    (hpoison : s.poisoned a (min n (s.res.capacity - a)) = true) :
    doBarRead a n s = emit (.readData none) (bump 0xA000 8 32 (bump 0xA000 9 32 s)) := by
  simp [doBarRead, hin, hpoison]

/-- Settles O36: a write by whether an open direct segment holds it, a read by whether a codeword is uncorrectable. -/
theorem reserveBar : Obligations.ReserveBar := by
  intro dt o n bs s u a inside hport
  have access {instr : Instr} {f : State → State} {t : State} (hexec : exec instr s = next (onBar f u)) (h : f u = t) : Does instr s t :=
    does_next hexec ((onBar_of_portOn hport f).trans h)
  refine ⟨fun hinside halone => ?_, fun houtside => ?_, fun hclean => ?_, fun hin hpoison => ?_⟩
  · exact access rfl (landDirect_inside hinside halone)
  · exact access rfl (landDirect_outside houtside)
  · exact access rfl (doBarRead_clean hclean)
  · exact access rfl (doBarRead_poisoned hin hpoison)

/-! Accession -/

/-- A chain posted on a ring that runs is taken. -/
theorem doContainerStart_ring {r : Fin 4} {descs : List Desc} {bs : Bytes} {s : State} (haccepts : s.accepts = true)
    (henable : (s.accRing r.val).enable = true) (hhalted : (s.accRing r.val).halted = false) (hmaster : s.mayMaster = true)
    (hposted : descs.length ≤ (s.accRing r.val).posted) :
    doContainerStart (.ring r) descs bs s = takeFromRing r.val descs bs s := by
  simp [doContainerStart, haccepts, henable, hhalted, hmaster, hposted]

/-- A chain whose buffers hold its bytes, on a ring that no CRC channel is bound to. -/
theorem takeFromRing_chain {r : Nat} {descs ds : List Desc} {bs : Bytes} {s : State} (hchain : takeChain false descs = (ds, some 0))
    (hbytes : bs.length = sumN (ds.map (fun d => d.length.toNat))) (hunit : s.unitFor bs = true) (hbound : s.crcBound false r = none) :
    let q := takeContainer r bs 0 none none s
    takeFromRing r descs bs s = flushRing r (addChain r ⟨ds, headerId bs, q.1⟩ q.2) := by
  simp [takeFromRing, hchain, ← hbytes, hunit, hbound, State.streamWidth, State.streamBad]

/-- A chain with a descriptor at fault halts its ring. -/
theorem takeFromRing_fault {r code : Nat} {descs ds : List Desc} {bs : Bytes} {s : State}
    (hchain : takeChain false descs = (ds, some code)) (hcode : code ≠ 0) :
    takeFromRing r descs bs s = flushRing r (addChain r ⟨ds, 0, some code⟩ (haltAcc r code s)) := by
  cases code with
  | zero => exact absurd rfl hcode
  | succ n => simp [takeFromRing, hchain]

/-- The container held for the network route is taken by a unit that is free for it. -/
theorem doContainerStart_network {descs : List Desc} {bs held : Bytes} {s : State} (haccepts : s.accepts = true)
    (hheld : s.res.netHeld = some held) (hunit : s.unitFor held = true) :
    let q := takeContainer 4 held 0 none none { s with res := { s.res with netHeld := none } }
    (q.1 = none → doContainerStart .network descs bs s = q.2) ∧
    ∀ code, q.1 = some code → doContainerStart .network descs bs s = setVal 0x6000 13 code q.2 := by
  intro q
  generalize hq : q = q'
  simp only [q] at hq
  refine ⟨fun h => ?_, fun code h => ?_⟩
  all_goals simp [doContainerStart, haccepts, hheld, hunit, hq, h]

theorem doTransferDone_moved {id : Nat} {f : Flight} {s : State} (hflight : s.res.flights.find? (fun f => f.id == id && f.moves) = some f) :
    doTransferDone id s = transferDone f s := by
  simp [doTransferDone, hflight]

theorem transferDone_lost {f : Flight} {s : State} (h : f.original = none) : transferDone f s = failFlight f 0xAB040005 s := by
  simp [transferDone, h]

/-- A body stored as it came, that verifies and whose range is whole, passes its unit on and is settled. -/
theorem transferDone_passes {f : Flight} {orig : Bytes} {s : State} (horiginal : f.original = some orig) (hplain : f.compressed = false)
    (hstream : f.badStream = none) (hverify : f.verify orig = 0) (hrange : s.rangeGone f.offset f.length = false) :
    let f1 := { f with unit_ := none, passed := true }
    transferDone f s = settleFlight f1 (passUnit (putFlight f1 s)) := by
  simp [transferDone, horiginal, hplain, hstream, hverify, hrange]

/-- A failed read with a container still being read fails that container. -/
theorem readFailed_container {r : Nat} {c : Chain} {s : State} (h : (s.accRing r).chains.reverse.find? (s.reading r) = some c) :
    readFailed r s = chainResult r c.segId 0xAB04000A (noteReserve (haltAcc r 0xAB04000A (dropFlight c.segId s))) := by
  simp only [readFailed, h]

/-- A failed read with none is that of the next descriptor. -/
theorem readFailed_descriptor {r : Nat} {s : State} (h : (s.accRing r).chains.reverse.find? (s.reading r) = none)
    (henable : (s.accRing r).enable = true) (hhalted : (s.accRing r).halted = false) (hposted : (s.accRing r).posted ≠ 0) :
    readFailed r s = flushRing r (addChain r ⟨[unknownDesc s.free], 0, some 0xAB04000A⟩ (haltAcc r 0xAB04000A (draw s))) := by
  simp [readFailed, h, henable, hhalted, hposted]

theorem egressReadFailed_descriptor {e : Nat} {s : State} (henable : (s.egrRing e).enable = true)
    (hhalted : (s.egrRing e).halted = false) (hposted : (s.egrRing e).posted ≠ 0) :
    egressReadFailed e s = haltEgress e 0xAB04000A [unknownDesc s.free] (draw s) := by
  simp [egressReadFailed, henable, hhalted, hposted]

/-- A read fails by an unsuccessful completion, or by none within COMPLETION_TIMEOUT. -/
theorem does_readFailed {dt : Nat} {ring : RingId} {s t : State} (h : doReadFailed ring (advance dt s) = t) :
    ((advance dt s).readSince ring + msCk ((advance dt s).val 0xA000 5) ≤ (advance dt s).clk.core →
      Does (.completionTimeout dt ring) s t) ∧ Does (.pcieCompletionUnsuccessful dt ring) s t :=
  ⟨fun hlate => does_next rfl ((if_pos hlate).trans h), does_next rfl h⟩

/-- What verification finds: the length first, then the check value (R94 step 5). -/
theorem verify_eq (f : Flight) (bs : Bytes) :
    f.verify bs = if bs.length ≠ f.length then 0xAB040006 else if crc32c bs ≠ f.crc then 0xAB040007 else 0 := rfl

/-- Settles O35: each clause by what the engine does with the chain, the flight or the failed read. -/
theorem accession : Obligations.Accession := by
  refine ⟨fun dt r e descs bs id s => ?_, fun f bs => ?_⟩
  · intro u x y late
    refine ⟨?_, ?_, ?_, ?_, ?_, ?_, ?_, ?_⟩
    · intro haccepts henable hhalted hmaster hposted ds hchain hbytes hunit hbound
      exact does_next rfl ((doContainerStart_ring haccepts henable hhalted hmaster hposted).trans
        (takeFromRing_chain hchain hbytes hunit hbound))
    · intro haccepts henable hhalted hmaster hposted ds code hchain hcode
      exact does_next rfl ((doContainerStart_ring haccepts henable hhalted hmaster hposted).trans (takeFromRing_fault hchain hcode))
    · intro haccepts held hheld hunit q
      obtain ⟨taken, refused⟩ := doContainerStart_network (descs := descs) (bs := bs) haccepts hheld hunit
      exact ⟨fun hnone => does_next rfl (taken hnone), fun code hcode => does_next rfl (refused code hcode)⟩
    · intro f hflight horiginal
      exact does_next rfl ((doTransferDone_moved hflight).trans (transferDone_lost horiginal))
    · intro f orig hflight horiginal hplain hstream hverify hrange
      exact does_next rfl ((doTransferDone_moved hflight).trans (transferDone_passes horiginal hplain hstream hverify hrange))
    · intro c hreading t
      exact does_readFailed (readFailed_container hreading)
    · intro hreading henable hhalted hposted t
      exact does_readFailed (readFailed_descriptor hreading henable hhalted hposted)
    · intro henable hhalted hposted t
      exact does_readFailed (egressReadFailed_descriptor henable hhalted hposted)
  · by_cases hlength : bs.length = f.length <;> by_cases hcrc : crc32c bs = f.crc <;> simp [verify_eq, hlength, hcrc]

/-! Egress and the outgoing Provenance records -/

theorem takeDeflate_free {k : Nat} {s : State} (hunit : s.res.deflating.length < 2) (hnew : k ∉ s.res.deflating)
    (hfactor : s.therm.fDie ≠ 0) : takeDeflate k s = { s with res := { s.res with deflating := s.res.deflating ++ [k] } } :=
  if_pos ⟨hunit, hnew, hfactor⟩

/-- The record at the front of a ring's backlog goes into posted buffers that hold it. -/
theorem doEgressWrite_holds {e : Nat} {descs ds : List Desc} {rec_ : EgressRec} {rest : List EgressRec} {s : State}
    (hbacklog : (s.egr e).backlog = rec_ :: rest) (henable : (s.egrRing e).enable = true) (hhalted : (s.egrRing e).halted = false)
    (hmaster : s.mayMaster = true) (hposted : descs.length ≤ (s.egrRing e).posted) (hbound : s.crcBound true e = none)
    (hbuffers : takeBuffers rec_.bytes.length descs = (ds, some 0)) :
    doEgressWrite e descs s = recordSent e rec_ (passHead e ds.length
      (fillBuffers e rec_.kind (s.egr e).sequence rec_.lost (s.egrRing e).head true rec_.bytes ds s)) := by
  have plain : s.streamed e rec_.bytes = rec_.bytes := by simp [State.streamed, hbound]
  simp [doEgressWrite, hbacklog, henable, hhalted, hmaster, hposted, writeRecord, plain, hbuffers]

theorem doExport_due {r : Nat} {s : State} (h : s.exportDue r = true) :
    doExport r s = queueRecord 2 (s.exportRecord r) (setProvRing r { s.provRing r with
      exported := (s.provRing r).exported + (s.provRing r).batch (s.ringCap r), skipped := 0 } s) := by
  simp [doExport, h]

/-- REWIND moves a pointer that has passed the oldest record held back to it. -/
theorem provControl_rewind (r v : Nat) (s : State) :
    let w := setVal 0x1500 4 (setBit (s.val 0x1500 4) r (bitOf v 0)) s
    provControl r (setBit v 1 true) s = if w.provOldest r < (w.provRing r).exported then
      setProvRing r { w.provRing r with exported := w.provOldest r, waitFrom := 0 } w else w := by
  simp [provControl, bitOf_setBit_same, bitOf_setBit_other]

/-- Settles O38: each command by its own equation. -/
theorem egressAndExport : Obligations.EgressAndExport := by
  intro dt k e r v descs s u
  refine ⟨fun hbundling hunit hnew hfactor => ?_, ?_, fun hdue => ?_, fun hport => ?_⟩
  · exact does_next rfl ((if_pos hbundling).trans (takeDeflate_free hunit hnew hfactor))
  · intro rec_ rest hbacklog henable hhalted hmaster hposted hbound ds hbuffers
    exact does_next rfl (doEgressWrite_holds hbacklog henable hhalted hmaster hposted hbound hbuffers)
  · exact does_next rfl (doExport_due hdue)
  · have rewound := (onBar_of_portOn hport _).trans (provControl_rewind r.val v.toNat u)
    exact ⟨fun hpassed => does_next rfl (rewound.trans (if_pos hpassed)),
      fun hnot => does_next rfl (rewound.trans (if_neg (Nat.not_lt.mpr hnot)))⟩

end Sys2Proof.Machine
end

section
/-! Cameras (R219-R244): packets and frames, the image pipeline, and the control-interface masters. -/

namespace Sys2Proof.Machine

set_option Elab.async false -- one proof at a time: the checks of many at once take more memory than the check of this file allows

/-! Packets of a port -/

/-- A header that needed a correction is counted. -/
def headerCounted (p : Nat) (corrected : Bool) (s : State) : State := if corrected then portCount p 8 s else s

theorem onPacket_running {p : Nat} {corrected : Bool} {f : State → State} {s : State} (h : s.portRuns p = true) :
    onPacket p corrected f s = f (headerCounted p corrected s) := by
  simp [onPacket, h, headerCounted]

theorem onPacket_stopped {p : Nat} {corrected : Bool} {f : State → State} {s : State} (h : s.portRuns p = false) :
    onPacket p corrected f s = s := by
  simp [onPacket, h]

/-- A packet of a bound virtual channel goes to its context. -/
theorem toContext_bound {p vc c : Nat} {f : Nat → State → State} {s : State} (h : s.ctxFor p vc = some c) :
    toContext p vc f s = f c s := by
  simp [toContext, h]

/-- A packet of no context's channel is ignored and counted. -/
theorem toContext_unbound {p vc : Nat} {f : Nat → State → State} {s : State} (h : s.ctxFor p vc = none) :
    toContext p vc f s = portCount p 11 s := by
  simp [toContext, h, ignorePacket]

theorem longPacket_line {p dataType c : Nat} {px : List (BitVec 12)} {ok : Bool} {s : State} (htype : s.ctxVal c 4 = dataType)
    (hframe : (s.ctx c).incoming ≠ none) :
    longPacket p dataType px ok c s = frameLine c px ok (if ok then s else portCount p 10 s) := by
  simp [longPacket, htype, hframe]

theorem longPacket_otherType {p dataType c : Nat} {px : List (BitVec 12)} {ok : Bool} {s : State} (htype : s.ctxVal c 4 ≠ dataType) :
    longPacket p dataType px ok c s = portCount p 11 s := by
  simp [longPacket, htype, ignorePacket]

theorem endPacket_frame {p n c : Nat} {s : State} (hframe : (s.ctx c).incoming ≠ none) : endPacket p n c s = frameEnd c n s := by
  simp [endPacket, hframe]

theorem endPacket_noFrame {p n c : Nat} {s : State} (hframe : (s.ctx c).incoming = none) : endPacket p n c s = portCount p 11 s := by
  simp [endPacket, hframe, ignorePacket]

theorem doFrameTimeout_due {c : Nat} {i : Incoming} {s : State} (hframe : (s.ctx c).incoming = some i)
    (hdue : i.startAt + msCk (s.val 0x7100 6) ≤ s.clk.core) : doFrameTimeout c s = offerExposure c (discardFrame c true s) := by
  simp [doFrameTimeout, hframe, hdue]

/-! A line of a frame -/

/-- A line of the right length and CRC goes to its row's place in the slot held. -/
theorem frameLine_stored {c k : Nat} {px : List (BitVec 12)} {i : Incoming} {s : State} (hframe : (s.ctx c).incoming = some i)
    (hslot : i.slot = some k) (hrow : i.lines < ((s.ctx c).slot k).h) (hlength : px.length = ((s.ctx c).slot k).w) :
    let x := s.ctx c
    let y := x.slot k
    frameLine c px true s = resWrite (y.base + 2 * y.w * i.lines) (rowBytes y.w y.bits px)
      (setCtx c ({ x with incoming := some { i with lines := i.lines + 1 } }.setSlot k y) s) := by
  simp [frameLine, hframe, hslot, hrow, hlength]

theorem rowBytes_length (w bits : Nat) (px : List (BitVec 12)) : (rowBytes w bits px).length = 2 * w := by
  simp [rowBytes, fit, zeros]
  omega

/-- Settles O39: a packet goes by its port, its channel and its context; a line is one write of the Reserve. -/
theorem cameraFrames : Obligations.CameraFrames := by
  refine ⟨fun dt p vc c n ty px ok corrected s => ?_, fun c k px i s => ?_⟩
  · intro u0 u x
    have packet {instr : Instr} {f : State → State} {t : State} (hexec : exec instr s = next (onPacket p.val corrected f u0))
        (hruns : u0.portRuns p.val = true) (h : f u = t) : Does instr s t :=
      does_next hexec ((onPacket_running hruns).trans h)
    refine ⟨fun hruns hbound => ⟨?_, fun htype hframe => ?_, fun htype => ?_, fun hframe => ?_, fun hframe => ?_⟩,
      fun hruns hunbound => ⟨?_, ?_, ?_⟩, fun hruns => ⟨?_, ?_⟩, fun hstopped => ⟨?_, ?_, ?_⟩, fun i hframe hdue => ?_⟩
    · exact packet rfl hruns (toContext_bound hbound)
    · exact packet rfl hruns ((toContext_bound hbound).trans (longPacket_line htype hframe))
    · exact packet rfl hruns ((toContext_bound hbound).trans (longPacket_otherType htype))
    · exact packet rfl hruns ((toContext_bound hbound).trans (endPacket_frame hframe))
    · exact packet rfl hruns ((toContext_bound hbound).trans (endPacket_noFrame hframe))
    · exact packet rfl hruns (toContext_unbound hunbound)
    · exact packet rfl hruns (toContext_unbound hunbound)
    · exact packet rfl hruns (toContext_unbound hunbound)
    · exact does_next rfl (onPacket_running hruns)
    · exact packet rfl hruns rfl
    · exact does_next rfl (onPacket_stopped hstopped)
    · exact does_next rfl (onPacket_stopped hstopped)
    · exact does_next rfl (onPacket_stopped hstopped)
    · exact does_next rfl (doFrameTimeout_due hframe hdue)
  · intro x y w hframe hslot hrow hlength
    have stored := frameLine_stored hframe hslot hrow hlength
    have length := rowBytes_length w y.bits px
    refine ⟨stored, length, fun m hm hwf => ?_⟩
    rw [stored]
    refine Memory.byte_write_of_outside hwf _ _ ?_
    rw [length, Nat.add_assoc]
    exact hm

/-! The image pipeline and the CCI masters -/

/-- The free pipeline takes the earliest full frame. -/
theorem doPipeStart_takes {c k : Nat} {s : State} (hfree : s.pipe.active = none) (hboot : s.sys.mode ≠ .boot)
    (htest : s.sys.mode ≠ .test) (hnext : s.nextSlot = some (c, k)) :
    let x := s.ctx c
    let z := { x.slot k with state := FSlotState.processing, tags := { (x.slot k).tags with pipeVersion := x.pipeVersion } }
    doPipeStart s = setCtx c (x.setSlot k z)
      { s with pipe := { s.pipe with active := some (c, k), set_ := some (s.pipeSet c), frame := z, takenAt := s.clk.core } } := by
  simp [doPipeStart, hfree, hboot, htest, hnext]

/-- At the pipeline's end the frame's slot is free, or held, and its report is delivered. -/
theorem doPipeDone_ends {c k : Nat} {set_ : PipeSet} {s : State} (hactive : s.pipe.active = some (c, k)) (hset : s.pipe.set_ = some set_)
    (hdue : s.pipe.takenAt + (2400 + s.pipe.frame.w * s.pipe.frame.h) ≤ s.clk.core) :
    let x := s.ctx c
    let z := s.pipe.frame
    let r := s.report c z set_
    doPipeDone s = feedPhoto c r (deliverReport c z.tags.frame r
      (setCtx c { (x.setSlot k { x.slot k with state := if x.freeze then .held else .free }) with freeze := false }
        (ctxCount c 0x1C { s with pipe := { s.pipe with
          active := none, set_ := none, total := wrapAdd 32 s.pipe.total 1
          recent := (s.clk.core, z.w * z.h) :: s.pipe.recent.filter (fun q => decide (s.clk.core < q.1 + sCk 1)) } }))) := by
  have ended : ¬ s.clk.core < s.pipe.takenAt + 2400 + s.pipe.frame.w * s.pipe.frame.h := by omega
  simp only [doPipeDone, hactive, hset, if_neg ended]

theorem cciEnded_exposure {p c status : Nat} {data : Bytes} {s : State} (h : (s.port p).job = some (.exposure c)) :
    cciEnded p status data s = exposureEnded p c status s := by
  simp [cciEnded, h]

theorem cciEnded_raw {p status : Nat} {data : Bytes} {s : State} (h : (s.port p).job = some .raw) :
    cciEnded p status data s = rawEnded p status data s := by
  simp [cciEnded, h]

/-- Settles O40: the pipeline's two ends, and a bus's by whom it works for. -/
theorem pipelineAndCci : Obligations.PipelineAndCci := by
  intro dt p c k result s u x y
  refine ⟨fun hfree hboot htest hnext => ?_, ?_, fun hjob => ⟨?_, ?_⟩, fun hjob => ⟨?_, ?_⟩, rfl, rfl, fun d => rfl⟩
  · exact does_next rfl (doPipeStart_takes hfree hboot htest hnext)
  · intro set_ hactive hset z hdue r v
    exact does_next rfl (doPipeDone_ends hactive hset hdue)
  · exact does_next rfl (cciEnded_exposure hjob)
  · exact does_next rfl (cciEnded_exposure hjob)
  · exact does_next rfl (cciEnded_raw hjob)
  · exact does_next rfl (cciEnded_raw hjob)

end Sys2Proof.Machine
end

section
/-! The colour loop (R252-R256), the drop-gate sweep (R247-R250) and the lamp chains (R260-R269). -/

namespace Sys2Proof.Machine

set_option Elab.async false -- one proof at a time: the checks of many at once take more memory than the check of this file allows

/-! The colour loop -/

theorem doLoopReport_oldest {d : Delivered} {rest : List Delivered} {s : State} (h : s.reports = d :: rest) :
    doLoopReport s = if s.inControl then forEach (List.range 8) (takeResults d) { s with reports := rest }
      else { s with reports := rest } := by
  simp only [doLoopReport, h]
  rfl

theorem doLoopReport_none {s : State} (h : s.reports = []) : doLoopReport s = s := by
  simp [doLoopReport, h]

/-- A loaded update edits a READY spare and arms its swap. -/
theorem doLoopUpdate_ready {g : Nat} {s : State} (hwaiting : (s.loop g).update = .waiting)
    (hready : (s.gal g).noz.spareState = .ready) (hcontrol : s.inControl = true) :
    doLoopUpdate g s =
      (let v := mirrorEntry (0x3021 + 0x100 * g) 4 (le 4 (s.loopSwapLine g)) (editSpare g s)
       raise 0x0A03 (0x0100 + g)
        ([BitVec.ofNat 8 g, 0] ++ le 2 (clampN 0xFFFF (s.loop g).changes.length) ++ le 4 (s.loopSwapLine g))
        (setLoop g { s.loop g with update := .armed }
          (setVal (0x7810 + g) 6 (s.loopSwapLine g) (bump (0x7810 + g) 2 32 (armSwap g (s.loopSwapLine g) 1 v))))) := by
  simp [doLoopUpdate, hwaiting, hready, hcontrol, loopEvent]

/-- Where the spare is not READY the update is dropped. -/
theorem doLoopUpdate_dropped {g : Nat} {s : State} (hwaiting : (s.loop g).update = .waiting)
    (hspare : (s.gal g).noz.spareState ≠ .ready) : doLoopUpdate g s = setLoop g { s.loop g with update := .idle } s := by
  simp [doLoopUpdate, hwaiting, hspare]

/-- A result that fails a condition of R253 does not fit. -/
theorem not_resultFits {d : Delivered} {x : Ladder} {good : Nat} {s : State}
    (h : s.flag (0x7810 + x.gal) 1 = false ∨ s.inPrint x.gal = false ∨ leAt d.bytes 6 2 &&& 0x3D ≠ 0 ∨
      x.swaps ≠ (s.gal x.gal).noz.swapCount ∨ (s.loop x.gal).update ≠ .idle ∨ good < s.val 0x7800 12) :
    s.resultFits d x good = false := by
  rw [← Bool.not_eq_true]
  intro fits
  simp only [State.resultFits, flagsClear, Bool.and_eq_true, beq_iff_eq, decide_eq_true_eq] at fits
  obtain ⟨⟨⟨⟨⟨henable, hprint⟩, hflags⟩, hswaps⟩, hidle⟩, hgood⟩ := fits
  rcases h with h | h | h | h | h | h
  · simp [henable] at h
  · simp [hprint] at h
  · exact h hflags
  · exact h hswaps
  · exact h hidle
  · omega

/-- A result that does not fit is counted stale, and changes nothing else. -/
theorem takeResult_stale {d : Delivered} {x : Ladder} {w : LoopWork} {s : State}
    (h : s.resultFits d x (x.usable.filter (fun p => entState ((s.gal x.gal).noz.active.ent p.1) != 2)).length = false) :
    takeResult d x (w, s) = (w, bump (0x7810 + x.gal) 4 32 s) := by
  simp [takeResult, h]

/-- Settles O41: reports oldest first, an update by its spare, a result by the conditions of R253. -/
theorem loopEvents : Obligations.LoopEvents := by
  refine ⟨fun dt g s => ⟨?_, fun hnone => ?_, fun hwaiting => ⟨fun hready hcontrol => ?_, fun hspare => ?_⟩⟩, ?_⟩
  · intro d rest hreports
    exact does_next rfl (doLoopReport_oldest hreports)
  · exact does_next rfl (doLoopReport_none hnone)
  · exact does_next rfl (doLoopUpdate_ready hwaiting hready hcontrol)
  · exact does_next rfl (doLoopUpdate_dropped hwaiting hspare)
  · intro d x w s sound hfails
    exact takeResult_stale (not_resultFits hfails)

/-! The drop-gate sweep -/

/-- A pulse that no shot's window meets is stray. -/
theorem doDgatePulse_stray {g : Nat} {s : State} (h : s.pulseTaken g (s.timeAt (s.rawTime (s.val 0x7C00 7))) = none) :
    doDgatePulse g s = setSweepGal g { s.sweepGal g with pulses := true, stray := wrapAdd 32 (s.sweepGal g).stray 1 }
      { s with dgateAt := tset s.dgateAt g (s.rawTime (s.val 0x7C00 7)) } := by
  simp [doDgatePulse, h]

/-- A pulse that a shot's window meets is that shot's. -/
theorem doDgatePulse_taken {g : Nat} {w : Sweep} {s : State} (h : s.pulseTaken g (s.timeAt (s.rawTime (s.val 0x7C00 7))) = some w) :
    doDgatePulse g s = setSweepGal g { s.sweepGal g with pulses := true }
      { s with dgateAt := tset s.dgateAt g (s.rawTime (s.val 0x7C00 7)), sweep := some w } := by
  simp [doDgatePulse, h]

/-- What a sweep gives a pulse to: a shot of a running gallery whose window it meets. -/
theorem pulseTaken_sweep {g : Nat} {tp : Int} {w : Sweep} {s : State} (hsweep : s.sweep = some w) :
    s.pulseTaken g tp = if (s.sweeping8 w).contains g then
      (giveTo (s.dgTime 2) (s.dgTime 4) tp g w.shots).map (fun hs => { w with shots := hs }) else none := by
  simp [State.pulseTaken, hsweep]

/-- A due slot sends each running gallery its shot of the next nozzle, and notes the shots. -/
theorem doSweepSlot_due {n : Nat} {w : Sweep} {s : State} (hsweep : s.sweep = some w) (hnext : s.nextNozzle w.mask w.nextIndex = some n)
    (hdue : s.slotDue w = true) :
    doSweepSlot s = forEach ((s.sweeping8 w).flatMap lanesOf) (sendShot w w.nextSlot n (w.fireAt w.nextSlot))
      { s with sweep := some { w with
          nextSlot := w.nextSlot + 1, nextIndex := n + 1
          shots := w.shots ++ ((s.sweeping8 w).filter (fun h => s.hasNozzle h n)).map
            (fun h => s.shotOf w h w.nextSlot n (w.fireAt w.nextSlot)) } } := by
  simp only [doSweepSlot, hsweep, hnext, hdue]
  rfl

/-- A level held for 1 ms, from before the sweep or from an edge within it, fails its gallery. -/
theorem doDgateStuck_held {g : Nat} {w : Sweep} {s : State} (hsweep : s.sweep = some w) (hruns : (s.sweeping8 w).contains g = true)
    (hheld : thas s.dgateAt g = false ∨ tget 0 s.dgateAt g + msCk 1 < s.clk.core) : doDgateStuck g s = failGallery g 4 s := by
  have stands : s.dgateStands g = true := by rcases hheld with h | h <;> simp [State.dgateStands, h]
  simp only [doDgateStuck, hsweep, hruns, stands, Bool.and_self, if_true]

/-- A shot is decided once its window has passed. -/
theorem doShotDecide_passed {g : Nat} {w : Sweep} {h : Shot} {hs : List Shot} {s : State} (hsweep : s.sweep = some w)
    (hpassed : takeFirst (fun h => h.gal == g && decide (h.fire + s.dgTime 4 ≤ (s.now : Int))) w.shots = some (h, hs))
    (hruns : (s.sweepGal g).state = 1) :
    let y := (s.sweepGal g).decide h.nozzle (h.verdict (s.dgTime 3))
    let t := setSweepGal g y { s with sweep := some { w with shots := hs } }
    doShotDecide g s = if 1024 ≤ y.batch.length then endBatch g t else t := by
  simp only [doShotDecide, hsweep, hpassed, hruns]
  rfl

/-- Settles O42: each event by what the sweep holds for it. -/
theorem sweepEvents : Obligations.SweepEvents := by
  intro dt g w s u x at' v
  refine ⟨fun hstray => ?_, fun hsweep => ⟨?_, fun hruns => ⟨?_, fun hnone => ?_, fun hheld => ?_⟩, fun hstopped => ?_, ?_⟩⟩
  · exact does_next rfl (doDgatePulse_stray hstray)
  · intro n hnext hdue
    exact does_next rfl (doSweepSlot_due hsweep hnext hdue)
  · intro hs hgiven
    refine does_next rfl (doDgatePulse_taken ?_)
    rw [pulseTaken_sweep hsweep, if_pos hruns, hgiven, Option.map_some]
  · rw [pulseTaken_sweep hsweep, if_pos hruns, hnone, Option.map_none]
  · exact does_next rfl (doDgateStuck_held hsweep hruns hheld)
  · rw [pulseTaken_sweep hsweep, hstopped]
    rfl
  · intro h hs hpassed hruns y t
    exact does_next rfl (doShotDecide_passed hsweep hpassed hruns)

/-! The lamp chains -/

theorem doLampLatch_early {ch : Nat} {status : List Bytes} {s : State} (h : s.clk.core < (s.chain ch).refreshAt + s.shiftCk ch) :
    doLampLatch ch status s = s := by
  simp [doLampLatch, h]

/-- The LAT after the last bit of a chain that goes on loads its frames and checks every driver. -/
theorem doLampLatch_due {ch : Nat} {status : List Bytes} {s : State} (hshifting : (s.chain ch).shifting = true)
    (hdue : (s.chain ch).refreshAt + s.shiftCk ch ≤ s.clk.core) (hlast : (s.chain ch).last = false) :
    doLampLatch ch status s = forEach (List.range (s.chainVal ch 3))
      (fun d s' => checkDriver ch d ((s.chain ch).prev.getD d []) (status.getD d []) s')
      (emit (.lamp ch 255 []) (setChain ch { s.chain ch with shifting := false } s)) := by
  simp [doLampLatch, hshifting, Nat.not_lt.mpr hdue, hlast]

/-- Settles O43: a refresh by its equation when due, a latch once the frames have been shifted. -/
theorem lampChains : Obligations.LampChains := by
  intro dt ch status s u x drivers
  refine ⟨fun hdue => ?_, fun hnot => ?_, fun hshifting hearly => ?_, fun hshifting hdue hlast => ?_⟩
  · exact does_next rfl (if_neg (by simpa using hdue))
  · exact does_next rfl (if_pos (by simpa using hnot))
  · exact does_next rfl (doLampLatch_early hearly)
  · exact does_next rfl (doLampLatch_due hshifting hdue hlast)

end Sys2Proof.Machine
end

section
/-! The redundant pair (R278-R294): who holds control, heartbeats, mirroring, and what a standby takes from the active. -/

namespace Sys2Proof.Machine

set_option Elab.async false -- one proof at a time: the checks of many at once take more memory than the check of this file allows

/-- A message of the peer is taken while the link is up. -/
theorem onPair_up {f : State → State} {s : State} (h : s.linkState ≠ 0) : onPair f s = f s := if_neg h

theorem onPair_down {f : State → State} {s : State} (h : s.linkState = 0) : onPair f s = s := if_pos h

/-- A command that is a message of the peer, with the link up. -/
theorem does_onPair {c : Instr} {s u t : State} {f : State → State} (hexec : exec c s = next (onPair f u)) (hlink : u.linkState ≠ 0)
    (h : f u = t) : Does c s t :=
  does_next hexec ((onPair_up hlink).trans h)

/-! Control (R278, R288-R291) -/

theorem doPeerActive_same {asserted : Bool} {s : State} (h : s.pair.peerActive = asserted) : doPeerActive asserted s = s := by
  simp [doPeerActive, h]

theorem doPeerActive_falls {s : State} (h : s.pair.peerActive = true) :
    doPeerActive false s = peerFalls { s with pair := { s.pair with peerActive := false } } := by
  simp [doPeerActive, h]

theorem doPeerActive_rises {s : State} (h : s.pair.peerActive = false) :
    doPeerActive true s = peerRises { s with pair := { s.pair with peerActive := true } } := by
  simp [doPeerActive, h]

/-- A STANDBY that expects no handover takes over when the peer's line falls. -/
theorem peerFalls_standby {s : State} (hrole : s.pair.role = .standby) (hhand : s.pair.hand = none) : peerFalls s = takeOver s := by
  simp [peerFalls, hrole, peerGone, hhand]

/-- A unit that is no image of the active only raises an event. -/
theorem peerFalls_told {s : State} (hrole : s.pair.role = .syncing ∨ s.pair.role = .stale ∨ s.pair.role = .degraded) :
    peerFalls s = raise 0x0C08 0 (le 1 s.pair.role.code) s := by
  rcases hrole with h | h | h <;> simp [peerFalls, h]

theorem peerFalls_active {s : State} (hrole : s.pair.role = .active) : peerFalls s = s := by
  simp [peerFalls, hrole]

theorem peerRises_arbitrating {s : State} (hrole : s.pair.role = .arbitrating) : peerRises s = enterSyncing s := by
  simp [peerRises, hrole]

theorem peerRises_active {s : State} (hrole : s.pair.role = .active) (hhand : s.pair.hand = none) (hline : s.pair.activeN = true) :
    peerRises s = contend s := by
  simp [peerRises, hrole, hhand, hline]

theorem doArbitration_over {s : State} (hrole : s.pair.role = .arbitrating) (hpeer : s.pair.peerActive = false)
    (hdue : s.pair.arbitrateAt + msCk (s.val 0x1200 9) ≤ s.clk.core) :
    doArbitration s = trainShadow (fun _ => true) (enterActive s) := by
  simp [doArbitration, hrole, hpeer, hdue]

/-- A lane of a takeover goes back to RUN once its line is due, while it is still in SHADOW. -/
theorem doTakeoverLane_due {l g : Nat} {t : TakePlan} {s : State} (hplan : s.pair.takes.find? (fun q => q.1 == l / 4) = some (g, t))
    (hrole : s.pair.role = .active) (hlane : bitOf t.lanes (l % 4) = true) (hdue : t.due ≤ s.now) :
    let v := if (s.lane l).train.state == .shadow then takeLane l t.n1 s else s
    doTakeoverLane l s = finishTakes { v with pair := { v.pair with
      takes := tset v.pair.takes (l / 4) { t with lanes := setBit t.lanes (l % 4) false } } } := by
  simp [doTakeoverLane, hplan, hrole, hlane, Nat.not_lt.mpr hdue]

theorem doTickTimeout_due {s : State} (hrole : s.pair.role = .active) (hdue : s.pair.takeAt + usT 1000 ≤ s.now)
    (hnone : s.lc.lastTickAt < s.pair.takeAt) :
    doTickTimeout s = { s with pair := { s.pair with takes := s.pair.takes.map (fun q =>
      (q.1, { s.planTake q.1 s.now 0 false with lanes := q.2.lanes, held := q.2.held })) } } := by
  simp [doTickTimeout, hrole, Nat.not_lt.mpr hdue, Nat.not_le.mpr hnone]

theorem takeHandover_standby {mh : Nat} {s : State} (hrole : s.pair.role = .standby) :
    takeHandover mh s = emit (.pair (.confirm mh 0)) { s with pair := { s.pair with
      relinquished := none
      hand := some { mh := mh, ny := (List.range 8).map (fun g => (g, s.lastOldLine g mh)), taking := true, lanesDone := 0
                     confirmed := false, yieldedAt := none, slot := 0 } } } := by
  simp [takeHandover, hrole]

theorem takeHandover_refused {mh : Nat} {s : State} (hrole : s.pair.role ≠ .standby) :
    takeHandover mh s = emit (.pair (.confirm mh 0xAB0C0002)) s := by
  simp [takeHandover, hrole]

theorem takeYielded_taking {h : HandPlan} {s : State} (hhand : s.pair.hand = some h) (htaking : h.taking = true) :
    takeYielded s = { s with pair := { s.pair with hand := some { h with yieldedAt := some s.now } } } := by
  simp [takeYielded, hhand, htaking]

/-- A lane of a handover is taken over in the next reign. -/
theorem doHandLane_due {l : Nat} {h : HandPlan} {s : State} (hhand : s.pair.hand = some h) (htaking : h.taking = true)
    (hpeer : (s.lane l).peerRun = true) (hshadow : (s.lane l).train.state = .shadow) (hdue : s.handDue h (l / 4) = true) :
    doHandLane l s = closeHand (takeLane l ((s.handLine h (l / 4) + s.step (l / 4)) % 4294967296)
      { s with pair := { s.pair with
          reign := s.newReign, hand := some { h with confirmed := true, lanesDone := setBit h.lanesDone l true } } }) := by
  simp [doHandLane, hhand, htaking, hpeer, hshadow, hdue]

/-- Settles O44: each change of control by the role that it finds. -/
theorem controlRoles : Obligations.ControlRoles := by
  refine ⟨fun dt asserted l s => ?_, fun dt mh l h s => ?_⟩
  · intro u p
    refine ⟨fun hsame => ?_, fun hpeer hfalls => ?_, fun hpeer hrises => ?_, fun hrole hpeer hdue => ?_, ?_, fun hrole hdue hnone => ?_⟩
    · exact does_next rfl (doPeerActive_same hsame)
    · subst hfalls
      have falls := doPeerActive_falls hpeer
      exact ⟨fun hrole hhand => does_next rfl (falls.trans (peerFalls_standby hrole hhand)),
        fun hrole => does_next rfl (falls.trans (peerFalls_told hrole)),
        fun hrole => does_next rfl (falls.trans (peerFalls_active hrole))⟩
    · subst hrises
      have rises := doPeerActive_rises hpeer
      exact ⟨fun hrole => does_next rfl (rises.trans (peerRises_arbitrating hrole)),
        fun hrole hhand hline => does_next rfl (rises.trans (peerRises_active hrole hhand hline))⟩
    · exact does_next rfl (doArbitration_over hrole hpeer hdue)
    · intro g t hplan hrole hlane hdue v
      exact does_next rfl (doTakeoverLane_due hplan hrole hlane hdue)
    · exact does_next rfl (doTickTimeout_due hrole hdue hnone)
  · intro u
    refine ⟨fun hlink hrole => ?_, fun hlink hrole => ?_, fun hlink hhand htaking => ?_, fun hhand htaking hpeer hshadow hdue => ?_⟩
    · exact does_onPair rfl hlink (takeHandover_standby hrole)
    · exact does_onPair rfl hlink (takeHandover_refused hrole)
    · exact does_onPair rfl hlink (takeYielded_taking hhand htaking)
    · exact does_next rfl (doHandLane_due hhand htaking hpeer hshadow hdue)

/-! Heartbeats (R279, R281) -/

theorem doHeartbeat_due {i : Nat} {s : State} (hrun : s.running (32 + i) = true) (hdue : (s.lane (32 + i)).beatAt + usCk 10 ≤ s.clk.core) :
    doHeartbeat i s = emit (.pair (.heartbeat i s.pair.role.code s.pair.reign s.sys.mode.code s.lc.lastTick s.pair.confirmed))
      (setLane (32 + i) { s.lane (32 + i) with beatAt := s.clk.core } s) := by
  simp [doHeartbeat, hrun, Nat.not_lt.mpr hdue]

theorem doHeartbeatLost_due {s : State} (hheard : s.pair.peerRole ≠ 0xFF) (honce : s.pair.heartbeatLost = false)
    (hdue : s.pair.heartbeatAt + usCk 30 ≤ s.clk.core) :
    doHeartbeatLost s = raise 0x0C03 0 [BitVec.ofNat 8 s.pair.role.code, BitVec.ofNat 8 s.linkState]
      { s with pair := { s.pair with heartbeatLost := true } } := by
  simp [doHeartbeatLost, hheard, honce, Nat.not_lt.mpr hdue]

/-- An ACTIVE that hears its peer in the role it had takes what it says, and sends its image anew where none has come. -/
theorem doHeard_active {role reign mode tick confirmed : Nat} {s : State} (hlink : s.linkState ≠ 0) (hrole : s.pair.role = .active)
    (hpeer : s.pair.peerRole = role) (hother : role ≠ 2) :
    let v := { s with pair := { s.pair with
      peerReign := reign, peerMode := mode, peerTick := tick, peerConfirmed := confirmed
      heartbeatAt := s.clk.core, heartbeatLost := false } }
    doHeard role reign mode tick confirmed s = if (role = 3 ∨ role = 5) ∧ v.imageDue = true then sendImage v else v := by
  subst hpeer
  simp [doHeard, hlink, hrole, hother, peerBecomes]

/-- A STANDBY that expects no handover follows the reign of an ACTIVE it hears. -/
theorem doHeard_standby {reign mode tick confirmed : Nat} {s : State} (hlink : s.linkState ≠ 0) (hrole : s.pair.role = .standby)
    (hhand : s.pair.hand = none) :
    doHeard 2 reign mode tick confirmed s = { s with pair := { s.pair with
      peerRole := 2, peerReign := reign, peerMode := mode, peerTick := tick, peerConfirmed := confirmed
      heartbeatAt := s.clk.core, heartbeatLost := false, reign := reign, relinquished := none } } := by
  simp [doHeard, hlink, hrole, hhand, peerBecomes]

theorem doLinkDownTimeout_due {t : Nat} {s : State} (hdown : s.pair.downAt = some t) (hdue : t + msCk (s.val 0x1200 8) ≤ s.clk.core) :
    doLinkDownTimeout s = becomeStale 1 s := by
  simp [doLinkDownTimeout, hdown, hdue]

/-- Settles O45: a heartbeat sent, missed, heard by either unit, and the link's timeout. -/
theorem heartbeats : Obligations.Heartbeats := by
  intro dt i role mode reign tick confirmed s u x
  refine ⟨fun hrun hdue => ?_, fun hheard honce hdue => ?_, fun hlink hrole hpeer hother => ?_, fun hlink hrole hhand htwo => ?_, ?_⟩
  · exact does_next rfl (doHeartbeat_due hrun hdue)
  · exact does_next rfl (doHeartbeatLost_due hheard honce hdue)
  · exact does_next rfl (doHeard_active hlink hrole hpeer hother)
  · refine does_next rfl ?_
    rw [htwo]
    exact doHeard_standby hlink hrole hhand
  · intro t hdown hdue
    exact does_next rfl (doLinkDownTimeout_due hdown hdue)

/-! What a standby takes (R283-R289) -/

theorem takeBay_control {b : Nat} {t : Sys2Proof.BayState} {s : State} (h : s.inControl = true) : takeBay b t s = s := by
  simp [takeBay, h]

theorem takeDecision_standby {q i : Nat} {s : State} (hrole : s.pair.role = .standby) :
    takeDecision q i false s = setQueue q { s.queue q with decided := tset (s.queue q).decided i false } s := by
  simp [takeDecision, hrole]

/-- A digest of a line that this unit has not yet is kept. -/
theorem takeDigest_kept {g n crc : Nat} {s : State} (hrole : s.pair.role = .standby) (hline : (s.gal g).find n = none) :
    takeDigest g n crc s = { s with pair := { s.pair with
      digests := ⟨g, n, crc⟩ :: s.pair.digests.filter (fun d => !(d.gal == g && d.line == n)) } } := by
  simp [takeDigest, hrole, hline]

theorem takeNotice_later {reign : Nat} {s : State} (hrole : s.pair.role = .active)
    (hlater : 0 < sgn 16 (usg 16 ((reign : Int) - s.pair.reign))) : takeNotice reign s = giveUp 8 s := by
  simp [takeNotice, hrole, hlater]

theorem takeNotice_other {reign : Nat} {s : State} (hrole : s.pair.role ≠ .active) : takeNotice reign s = s := by
  simp [takeNotice, hrole]

/-- A follower of the active's time answers a TIME_SYNC, and one that carries a delay sets its clock. -/
theorem takeTimeSync_follower {t1 epoch : Nat} {delay : Option Nat} {s : State} (h : s.followsTime = true) :
    takeTimeSync t1 delay epoch s = match delay with
      | none => emit (.pair (.delayResp s.now s.now)) s
      | some d => takeOffset ((s.now : Int) - t1 - d) epoch (emit (.pair (.delayResp s.now s.now)) s) := by
  simp only [takeTimeSync, h]
  rfl

theorem takeTimeSync_other {t1 epoch : Nat} {delay : Option Nat} {s : State} (h : s.followsTime = false) :
    takeTimeSync t1 delay epoch s = s := by
  simp [takeTimeSync, h]

theorem doAlign_follower {m : AlignMsg} {s : State} (h : s.followsTime = true) :
    doAlign m s = match m.values with
      | none => { s with pair := { s.pair with alignDue := some m.ta } }
      | some v => takeAlign m.ta v (doAlignPoint s) := by
  simp only [doAlign, h]
  rfl

theorem doAlign_other {m : AlignMsg} {s : State} (h : s.followsTime = false) : doAlign m s = s := by
  simp [doAlign, h]

/-- At the instant named the values of the clock are taken, with nothing sent by a unit that is not ACTIVE. -/
theorem doAlignPoint_due {ta : Nat} {s : State} (halign : s.pair.alignDue = some ta) (hta : ta ≤ s.now)
    (hsettled : s.clk.core - ((s.now - ta) * 6 + 327679) / 327680 + s.encCfg 0 2 + 2 ≤ s.clk.core) (hrole : s.pair.role ≠ .active) :
    doAlignPoint s = draw { s with pair := { s.pair with
      alignDue := none
      alignSnap := some (ta, s.alignValues (s.clk.core - ((s.now - ta) * 6 + 327679) / 327680)), alignHeld := none } } := by
  simp [doAlignPoint, halign, Nat.not_lt.mpr hta, Nat.not_lt.mpr hsettled, hrole]

/-- Settles O47: each message by the role of the unit that takes it, and the alignment by who names the instant. -/
theorem standbyState : Obligations.StandbyState := by
  refine ⟨fun dt report b st q inst line crc starved g cause lines reign s => ?_, fun dt ta t1 d epoch v s => ?_⟩
  · intro u hlink
    refine ⟨?_, fun hcontrol => ?_, fun hcontrol => ?_, fun hrole hfed => ?_, fun hrole hline => ?_, ?_, fun hrole hlater => ?_,
      fun hrole => ?_⟩
    · exact does_onPair rfl hlink rfl
    · exact does_onPair rfl hlink rfl
    · exact does_onPair rfl hlink (takeBay_control hcontrol)
    · subst hfed
      exact does_onPair rfl hlink (takeDecision_standby hrole)
    · exact does_onPair rfl hlink (takeDigest_kept hrole hline)
    · exact does_next rfl (onPair_up hlink)
    · exact does_onPair rfl hlink (takeNotice_later hrole hlater)
    · exact does_onPair rfl hlink (takeNotice_other hrole)
  · intro u
    refine ⟨fun hlink hfollows => ⟨?_, ?_, ?_, ?_⟩, fun hnone => ?_, fun hnow => ?_, fun hnot => ?_, fun halign hta hsettled hrole => ?_⟩
    · exact does_onPair rfl hlink (doAlign_follower hfollows)
    · exact does_onPair rfl hlink (doAlign_follower hfollows)
    · exact does_onPair rfl hlink (takeTimeSync_follower hfollows)
    · exact does_onPair rfl hlink (takeTimeSync_follower hfollows)
    · by_cases hlink : u.linkState = 0
      · exact ⟨does_next rfl (onPair_down hlink), does_next rfl (onPair_down hlink)⟩
      · have other := hnone.resolve_left hlink
        exact ⟨does_onPair rfl hlink (doAlign_other other), does_onPair rfl hlink (takeTimeSync_other other)⟩
    · exact does_next rfl (if_neg (by simpa using hnow))
    · exact does_next rfl (if_pos (by simpa using hnot))
    · exact does_next rfl (doAlignPoint_due halign hta hsettled hrole)

end Sys2Proof.Machine
end

section
/-! Mirroring (R280-R283): messages in sequence and out of it, confirmations, and their timeout. -/

namespace Sys2Proof.Machine

set_option Elab.async false -- one proof at a time: the checks of many at once take more memory than the check of this file allows

/-! The held write, which events and the end of a container leave -/

@[simp] theorem setVal_mirror (i j v : Nat) (s : State) : (setVal i j v s).cat.mirror = s.cat.mirror := rfl

@[simp] theorem bump_mirror (i j w : Nat) (s : State) : (bump i j w s).cat.mirror = s.cat.mirror := rfl

@[simp] theorem bumpBy_mirror (i j w n : Nat) (s : State) : (bumpBy i j w n s).cat.mirror = s.cat.mirror := rfl

@[simp] theorem ringPut_mirror (r : Nat) (x : Slot) (s : State) : (ringPut r x s).cat.mirror = s.cat.mirror := by
  simp only [ringPut]; repeat' split
  all_goals simp

@[simp] theorem pushRec_mirror (r : Rec) (s : State) : (pushRec r s).cat.mirror = s.cat.mirror := by
  simp only [pushRec]; repeat' split
  all_goals simp

@[simp] theorem countRec_mirror (time source : Nat) (s : State) : (countRec time source s).cat.mirror = s.cat.mirror := rfl

@[simp] theorem putEvent_mirror (t code source : Nat) (arg : Bytes) (s : State) :
    (putEvent t code source arg s).cat.mirror = s.cat.mirror := by
  simp only [putEvent]; split <;> simp

@[simp] theorem raise_mirror (code source : Nat) (arg : Bytes) (s : State) : (raise code source arg s).cat.mirror = s.cat.mirror := by
  simp only [raise, raiseAt, noteOverwritten]; repeat' split
  all_goals simp

@[simp] theorem noteReserve_mirror (s : State) : (noteReserve s).cat.mirror = s.cat.mirror := by
  simp only [noteReserve]; repeat' split
  all_goals simp

theorem forEach_mirror {α : Type} {f : α → State → State} (hf : ∀ x s, (f x s).cat.mirror = s.cat.mirror) (xs : List α) (s : State) :
    (forEach xs f s).cat.mirror = s.cat.mirror := by
  induction xs generalizing s with
  | nil => rfl
  | cons x xs ih => exact (ih (f x s)).trans (hf x s)

@[simp] theorem passUnit_mirror (s : State) : (passUnit s).cat.mirror = s.cat.mirror := by
  unfold passUnit; split <;> rfl

@[simp] theorem dropFlight_mirror (k : Nat) (s : State) : (dropFlight k s).cat.mirror = s.cat.mirror := by
  simp [dropFlight]

@[simp] theorem completeDescs_mirror (r base i entries code segId : Nat) (ds : List Desc) (s : State) :
    (completeDescs r base i entries code segId ds s).cat.mirror = s.cat.mirror := by
  induction ds generalizing i s with
  | nil => rfl
  | cons d ds ih =>
    simp only [completeDescs, ih]
    split <;> rfl

@[simp] theorem flushChains_mirror (r : Nat) (cs : List Chain) (s : State) : (flushChains r cs s).cat.mirror = s.cat.mirror := by
  induction cs generalizing s with
  | nil => rfl
  | cons c cs ih =>
    simp only [flushChains]
    repeat' split
    · rfl
    · rfl
    · exact (ih _).trans (completeDescs_mirror _ _ _ _ _ _ _ _)

@[simp] theorem reportResult_mirror (f : Flight) (code : Nat) (s : State) : (reportResult f code s).cat.mirror = s.cat.mirror := by
  simp only [reportResult, chainResult, flushRing, confirm]; repeat' split
  all_goals simp

@[simp] theorem commitSegment_mirror (segId type len crc off route : Nat) (bs : Option Bytes) (s : State) :
    (commitSegment segId type len crc off route bs s).cat.mirror = s.cat.mirror := by
  simp only [commitSegment]; split <;> simp [resWrite]

/-- However a container ends, the held write stands. -/
theorem settleFlight_mirror (f : Flight) (s : State) : (settleFlight f s).cat.mirror = s.cat.mirror := by
  unfold settleFlight
  split
  · rfl
  · simp [commitFlight]
  · simp [failFlight, accessionFailed]

theorem releaseFlights_mirror (s : State) : (releaseFlights s).cat.mirror = s.cat.mirror := by
  refine forEach_mirror (fun f s => ?_) _ _
  split
  · exact settleFlight_mirror _ _
  · rfl

/-! Messages in sequence (R280, R283) -/

theorem inSequence_next {n : Nat} {f : State → State} {s : State} (h : s.pair.mirrorNext = some n) :
    inSequence n f s = f { s with pair := { s.pair with mirrorNext := some (wrapAdd 32 n 1) } } := by
  simp [inSequence, h]

/-- A message out of sequence makes the standby STALE. -/
theorem inSequence_other {m n : Nat} {f : State → State} {s : State} (h : s.pair.mirrorNext = some m) (hne : m ≠ n) :
    inSequence n f s = becomeStale 0 s := by
  simp [inSequence, h, hne]

theorem applyMirror_write {n : Nat} {mailbox : Bool} {index : BitVec 16} {sub : Byte} {data : Bytes} {s : State}
    (h : ¬ (index.toNat = 0x1100 ∧ sub.toNat = 7)) :
    applyMirror n (.write mailbox index sub data) s =
      serveNow ⟨.peer n, 2, index.toNat, sub.toNat, s.converted index.toNat sub.toNat data⟩ s :=
  if_neg h

/-! Confirmations (R281) -/

/-- A confirmation releases the write held for it. -/
theorem doConfirm_heldWrite {n code since : Nat} {t : Trans} {s : State} (h : s.cat.mirror = some (n, t, since)) :
    doConfirm n code s = confirmWrite t code { s with pair := { s.pair with peerConfirmed := n } } := by
  simp [doConfirm, State.heldWrite, h]

theorem standAlone_noWrite {s : State} (h : s.cat.mirror = none) :
    standAlone s = releaseDirects (releaseFlights (raise 0x0C05 0 (le 1 3) { s with pair := { s.pair with peerStale := true } })) := by
  have kept : (releaseDirects (releaseFlights (raise 0x0C05 0 (le 1 3)
      { s with pair := { s.pair with peerStale := true } }))).cat.mirror = none :=
    (releaseFlights_mirror _).trans ((raise_mirror _ _ _ _).trans h)
  simp only [standAlone, kept]

theorem doResyncData_running {item : ResyncItem} {s : State} (hrole : s.pair.role = .syncing ∨ s.pair.role = .stale)
    (hruns : (s.opOf 0x1200 11).isSome = true) : doResyncData item s = takeItem item s := by
  rcases hrole with h | h <;> simp [doResyncData, hruns, h]

/-- Settles O46: each message by whether the link is up and the message in sequence. -/
theorem mirroring : Obligations.Mirroring := by
  intro dt seq result body mailbox index sub data amount epoch part item s u next
  refine ⟨fun hlink hnext => ⟨fun hcauses => ?_, ?_⟩, ?_, fun hlink hnext => ?_, fun hdown => ⟨?_, ?_⟩, ?_, fun hlate hnone => ?_,
    fun hearly => ?_, fun hlink hrole hruns => ?_⟩
  · exact does_onPair rfl hlink ((inSequence_next hnext).trans (applyMirror_write (hcauses ▸ id)))
  · exact does_onPair rfl hlink (inSequence_next hnext)
  · intro hlink m hm hne
    exact ⟨does_onPair rfl hlink (inSequence_other hm hne), does_onPair rfl hlink (inSequence_other hm hne)⟩
  · exact does_onPair rfl hlink (inSequence_next hnext)
  · exact does_next rfl (onPair_down hdown)
  · exact does_next rfl (onPair_down hdown)
  · intro v hlink t since hheld
    exact does_onPair rfl hlink (doConfirm_heldWrite hheld)
  · exact does_next rfl ((if_pos hlate).trans (standAlone_noWrite hnone))
  · exact does_next rfl (if_neg (by simpa using hearly))
  · exact does_onPair rfl hlink (doResyncData_running hrole hruns)

end Sys2Proof.Machine
end

section
/-! The network interface (R298-R304, R332, R333) and the session protocol (R305-R315). -/

namespace Sys2Proof.Machine

set_option Elab.async false -- one proof at a time: the checks of many at once take more memory than the check of this file allows

/-! The link and ARP -/

/-- A port is up while the host runs and its link is. -/
theorem up_of {p : Nat} {s : State} (hready : s.host.ready = true) (hlink : s.linkOf p ≠ 0) :
    (s.host.ready && s.linkOf p != 0) = true := by
  simp [hready, hlink]

theorem not_up_of {p : Nat} {s : State} (hlink : s.linkOf p = 0) : ¬ (s.host.ready && s.linkOf p != 0) = true := by
  simp [hlink]

/-- A state of the link is shown where the port's SPEED allows it and its clock runs, and link down whatever the clock. -/
theorem linkShown {p link : Nat} {s : State} (hready : s.host.ready = true) (hfits : linkFits (s.netCfg p 1) link = true)
    (hclock : link = 0 ∨ bitOf s.sys.clocksBad 3 = false) :
    (s.host.ready && linkFits (s.netCfg p 1) link && (link == 0 || !bitOf s.sys.clocksBad 3)) = true := by
  simpa [hready, hfits] using hclock

theorem not_linkShown {p link : Nat} {s : State} (hfits : linkFits (s.netCfg p 1) link = false) :
    ¬ (s.host.ready && linkFits (s.netCfg p 1) link && (link == 0 || !bitOf s.sys.clocksBad 3)) = true := by
  simp [hfits]

theorem doArp_answers {p : Nat} {a : ArpFrame} {s : State} (hrequest : a.request = true) :
    let v := netCount p 2 64 s
    let r := rateStep v.net.arpRate v.net.arpRateAt p v.clk.core 1000
    let w := { v with net := { v.net with arpRate := r.2.1, arpRateAt := r.2.2 } }
    r.1 = true → (w.ownIps p).contains a.senderIp.toNat = false → (w.ownIps p).contains a.targetIp.toNat = true →
    doArp p a s = sendNow p (.arpReply a.senderMac.toNat a.senderIp.toNat a.targetIp.toNat) w := by
  intro v r w hrate hsender htarget
  simp only [v, r, w] at hrate hsender htarget ⊢
  simp only [doArp, hrate, hrequest, Bool.not_true, Bool.false_eq_true, if_false, if_true, hsender, htarget, Bool.false_and]

theorem doArpRetry_due {p ip : Nat} {w : ArpWait} {s : State} (hwait : s.net.arpWait.find? (fun w => w.port == p && w.ip == ip) = some w)
    (hfew : w.sent < 3) (hdue : w.since + msCk (250 * w.sent) ≤ s.clk.core) :
    doArpRetry p ip s = sendArp p ip { s with net := { s.net with arpWait := s.net.arpWait.map (fun v =>
      if v.port == p && v.ip == ip then { v with sent := v.sent + 1 } else v) } } := by
  simp only [doArpRetry, hwait, if_pos (And.intro hfew hdue)]

theorem doArpUnresolved_due {p ip : Nat} {w : ArpWait} {s : State}
    (hwait : s.net.arpWait.find? (fun w => w.port == p && w.ip == ip) = some w) (hdue : w.since + sCk 1 ≤ s.clk.core) :
    doArpUnresolved p ip s = raiseLimited (sCk 1) 0x0D07 p 0 (le 1 p ++ zeros 3 ++ be 4 ip)
      (netCount p 9 32 { s with net := { s.net with arpWait := s.net.arpWait.filter (fun v => !(v.port == p && v.ip == ip)) } }) := by
  simp only [doArpUnresolved, hwait, if_pos hdue]

theorem doArpAge_old {p ip : Nat} {e : ArpEntry} {s : State} (hentry : s.net.arp.find? (fun e => e.port == p && e.ip == ip) = some e)
    (hold : e.at_ + sCk (s.netCfg p 5) ≤ s.clk.core) :
    doArpAge p ip s = { s with net := { s.net with arp := s.net.arp.filter (fun x => !(x.port == p && x.ip == ip)) } } := by
  simp only [doArpAge, hentry, if_pos hold]

theorem doSharedArp_due {s : State} (hleft : s.net.sharedLeft ≠ 0)
    (hdue : s.net.sharedAt + msCk (if s.net.sharedLeft = 2 then 100 else 300) ≤ s.clk.core) (hrole : s.pair.role = .active) :
    doSharedArp s = announceShared { s with net := { s.net with sharedLeft := s.net.sharedLeft - 1 } } := by
  simp [doSharedArp, hleft, Nat.not_lt.mpr hdue, hrole]

/-! Frames filtered, echoes and launches -/

/-- The longest frame is 1518 bytes, or 1522 with a VLAN tag: one no longer with a bad FCS counts as that only. -/
theorem doFiltered_badFcs {p : Nat} {bs : Bytes} {s : State} (h : bs.length ≤ 1518) : doFiltered p bs false s = netCount p 4 32 s := by
  have short : ¬ (if ofBe (sliceB bs 12 2) = 0x8100 then 1522 else 1518) < bs.length := by split <;> omega
  simp [doFiltered, short]

theorem doFiltered_short {p : Nat} {bs : Bytes} {s : State} (h : bs.length < 64) : doFiltered p bs true s = s := by
  have short : ¬ (if ofBe (sliceB bs 12 2) = 0x8100 then 1522 else 1518) < bs.length := by split <;> omega
  simp [doFiltered, short, h]

theorem doFiltered_long {p : Nat} {bs : Bytes} {s : State} (h : 1522 < bs.length) : doFiltered p bs true s = netCount p 5 32 s := by
  have long : (if ofBe (sliceB bs 12 2) = 0x8100 then 1522 else 1518) < bs.length := by split <;> omega
  simp [doFiltered, long]

theorem doEcho_answers {src : NetSrc} {echo : Nat} {data : Bytes} {s : State} (hlength : data.length ≤ 1472) :
    let v := netCount src.port.val 2 64 s
    let r := rateStep v.net.icmpRate v.net.icmpRateAt src.port.val v.clk.core 100
    let w := { v with net := { v.net with icmpRate := r.2.1, icmpRateAt := r.2.2 } }
    r.1 = true →
    doEcho src echo data s = netCount src.port.val 8 32
      (sendNow src.port.val (.icmp (w.reachedIp src) src.ip.toNat src.mac.toNat echo data) w) := by
  intro v r w hrate
  simp only [doEcho, if_neg (Nat.not_lt.mpr hlength)]
  exact if_pos hrate

theorem doFrameLaunch_due {p q t : Nat} {f : TxFrame} {rest : List TxFrame} {s : State} (hqueue : s.txq p q = f :: rest)
    (htimed : f.launch = some t) (hlink : s.linkOf p ≠ 0) (hdue : t ≤ s.now) (hslack : s.now ≤ t + s.slack p q)
    (hfirst : s.higherDue p q = false) : doFrameLaunch p q s = pumpAll p (leaveFrame p q f (setTxq p q rest s)) := by
  simp [doFrameLaunch, hqueue, htimed, hlink, Nat.not_lt.mpr hdue, Nat.not_lt.mpr hslack, hfirst]

theorem doLaunchDropped_late {p q t : Nat} {f : TxFrame} {rest : List TxFrame} {s : State} (hqueue : s.txq p q = f :: rest)
    (htimed : f.launch = some t) (hlate : t + s.slack p q < s.now) :
    doLaunchDropped p q s = pumpAll p (dropLaunch p q f (setTxq p q rest s)) := by
  simp [doLaunchDropped, hqueue, htimed, hlate]

/-- Settles O48: each frame and each wait by its equation; a port that is down takes nothing. -/
theorem network : Obligations.Network := by
  refine ⟨fun dt p link ip a s => ?_, fun dt p q bs data echo src s => ?_⟩
  · intro u
    refine ⟨fun hready hfits hdown => ?_, fun hready hfits hclock => ?_, fun hfits => ?_, fun hready hlink hrequest => ?_, ?_, ?_,
      fun hleft hdue hrole => ?_⟩
    · exact does_next rfl ((if_pos (linkShown hready hfits (.inl hdown))).trans (by rw [hdown]))
    · exact does_next rfl (if_pos (linkShown hready hfits (.inr hclock)))
    · exact does_next rfl (if_neg (not_linkShown hfits))
    · intro v r w hrate hsender htarget
      exact does_next rfl ((if_pos (up_of hready hlink)).trans (doArp_answers hrequest hrate hsender htarget))
    · intro w hwait
      exact ⟨fun hfew hdue => does_next rfl (doArpRetry_due hwait hfew hdue), fun hdue => does_next rfl (doArpUnresolved_due hwait hdue)⟩
    · intro e hentry hold
      exact does_next rfl (doArpAge_old hentry hold)
    · exact does_next rfl (doSharedArp_due hleft hdue hrole)
  · intro u
    refine ⟨fun hready hlink => ?_, fun hlink => ?_, fun hreaches hlength => ?_, ?_⟩
    · have up := up_of hready hlink
      exact ⟨fun h => does_next rfl ((if_pos up).trans (doFiltered_badFcs h)), fun h => does_next rfl ((if_pos up).trans (doFiltered_short h)),
        fun h => does_next rfl ((if_pos up).trans (doFiltered_long h))⟩
    · exact does_next rfl (if_neg (not_up_of hlink))
    · intro v r w hrate
      exact does_next rfl ((if_pos hreaches).trans (doEcho_answers hlength hrate))
    · intro f rest t hqueue htimed
      exact ⟨fun hlink hdue hslack hfirst => does_next rfl (doFrameLaunch_due hqueue htimed hlink hdue hslack hfirst),
        fun hlate => does_next rfl (doLaunchDropped_late hqueue htimed hlate)⟩

end Sys2Proof.Machine
end

section
/-! The session protocol (R305-R315). -/

namespace Sys2Proof.Machine

set_option Elab.async false -- one proof at a time: the checks of many at once take more memory than the check of this file allows

/-! What a datagram to the protocol's port comes to -/

/-- A datagram that reaches its port draws a token of its source, and is handed on unless the source is locked out. -/
theorem withToken_hands {src : NetSrc} {f : State → State} {s : State} {x : Source}
    (hx : x = (s.source (s.sourceKey src.ip.toNat)).refill s.clk.core) (htokens : 600000 ≤ x.tokens) (hfree : x.lockedAt = none) :
    withToken src f s = f (setSource { x with tokens := x.tokens - 600000 } s) := by
  subst hx
  have hisNone : (((s.source (s.sourceKey src.ip.toNat)).refill s.clk.core).lockedAt).isSome = false := by rw [hfree]; rfl
  simp only [withToken, if_neg (Nat.not_lt.mpr htokens), hisNone]
  rfl

/-- A datagram that found its token, in the state `v` that the token leaves: dropped for its form or for a full queue, else
handed on where it is of the kind. -/
def takeMessage (kind : Nat) (src : NetSrc) (bs : Bytes) (f : Msg → State → State) (v : State) : State :=
  if !wellFormed bs then netCount src.port.val 7 32 v
  else if 64 ≤ v.queued src.port.val then netCount src.port.val 10 32 v
  else if (msgOf bs).kind = kind then f (msgOf bs) v else v

theorem onMessage_hands {kind : Nat} {src : NetSrc} {bs : Bytes} {f : Msg → State → State} {s : State} {x : Source}
    (hx : x = (s.source (s.sourceKey src.ip.toNat)).refill s.clk.core) (hreaches : s.reaches src = true)
    (htokens : 600000 ≤ x.tokens) (hfree : x.lockedAt = none) :
    onMessage kind src bs f s =
      takeMessage kind src bs f (setSource { x with tokens := x.tokens - 600000 } (netCount src.port.val 2 64 s)) := by
  unfold onMessage onDatagram
  rw [if_pos hreaches]
  exact withToken_hands (s := netCount src.port.val 2 64 s) hx htokens hfree

section
variable {kind : Nat} {src : NetSrc} {bs : Bytes} {f : Msg → State → State} {v : State}

theorem takeMessage_malformed (h : wellFormed bs = false) : takeMessage kind src bs f v = netCount src.port.val 7 32 v := by
  simp [takeMessage, h]

theorem takeMessage_full (h : wellFormed bs = true) (hfull : 64 ≤ v.queued src.port.val) :
    takeMessage kind src bs f v = netCount src.port.val 10 32 v := by
  simp [takeMessage, h, hfull]

theorem takeMessage_taken (h : wellFormed bs = true) (hroom : v.queued src.port.val < 64) (hkind : (msgOf bs).kind = kind) :
    takeMessage kind src bs f v = f (msgOf bs) v := by
  simp [takeMessage, h, Nat.not_le.mpr hroom, hkind]

end

/-! The kinds of message -/

theorem doOpen_opens {src : NetSrc} {msg : Bytes} {m : Msg} {n : Nonce} {k : Nat} {s : State} (hfirst : s.repeated src msg = none)
    (hkey : s.net.keySet = true) (hgen : m.gen = s.net.keyGen) (hnonce : s.nonceOf src (ofLe (m.body.take 16)) = some n)
    (htag : m.tag = (hmac s.net.key (msg.take (32 + m.body.length))).take 16)
    (hslot : sessionIds.find? (fun k => !thas s.net.sessions k) = some k) : doOpen src msg m s = openIn k src msg m n s := by
  simp [doOpen, hfirst, hkey, hgen, hnonce, htag, hslot]

theorem onSession_hands {kind : Nat} {src : NetSrc} {msg : Bytes} {m : Msg} {f : Nat → Session → State → State} {k : Nat} {x : Session}
    {s : State} (hbound : s.boundSession src m.session = some (k, x))
    (htag : m.tag = (hmac x.key (msg.take (32 + m.body.length))).take 16) (hgen : m.gen = s.net.keyGen) :
    onSession kind src msg m f s = f k x s := by
  simp [onSession, hbound, htag, hgen]

theorem doLockoutEnd_due {ip t : Nat} {s : State} (hlocked : (s.source (s.sourceKey ip)).lockedAt = some t) (hdue : t + sCk 10 ≤ s.clk.core) :
    doLockoutEnd ip s = setSource { s.source (s.sourceKey ip) with lockedAt := none, fails := [] } s := by
  simp only [doLockoutEnd, hlocked, if_pos hdue]

theorem doAuthExpiry_due {ip t : Nat} {s : State} (hfailed : (s.source (s.sourceKey ip)).fails.head? = some t)
    (hdue : t + sCk 60 ≤ s.clk.core) : doAuthExpiry ip s = setSource { s.source (s.sourceKey ip) with fails := [] } s := by
  simp only [doAuthExpiry, hfailed, if_pos hdue]

/-- Settles O49: a message that reaches its port and finds its token and room is handed to its kind; the rest are waits that end. -/
theorem protocol : Obligations.Protocol := by
  refine ⟨fun dt src msg s => ?_, fun dt p k ip s => ?_⟩
  · intro u m key x v signed hreaches htokens hfree
    have hands (kind : Nat) (f : Msg → State → State) : onMessage kind src msg f u = takeMessage kind src msg f v :=
      onMessage_hands rfl hreaches htokens hfree
    refine ⟨fun hform => ⟨?_, ?_⟩, fun hform hfull => ⟨?_, ?_⟩, fun hform hroom hkind => ?_, fun hform hroom hkind hfirst hset hgen n hnonce
      htag k hslot => ?_, fun k y hbound htag hgen hform hroom => ⟨fun hkind hnext hfew => ?_, fun hkind => ?_⟩,
      fun hform hroom hkind hsession => ?_⟩
    · exact does_next rfl ((if_neg (by simp [hform])).trans ((hands 0 _).trans (takeMessage_malformed hform)))
    · exact does_next rfl ((hands 1 _).trans (takeMessage_malformed hform))
    · exact does_next rfl ((hands 1 _).trans (takeMessage_full hform hfull))
    · exact does_next rfl ((hands 3 _).trans (takeMessage_full hform hfull))
    · exact does_next rfl ((hands 1 _).trans (takeMessage_taken hform hroom hkind))
    · exact does_next rfl ((hands 2 _).trans ((takeMessage_taken hform hroom hkind).trans
        (doOpen_opens hfirst hset hgen hnonce htag hslot)))
    · exact does_next rfl ((hands 3 _).trans ((takeMessage_taken hform hroom hkind).trans
        ((onSession_hands hbound htag hgen).trans ((if_pos hnext).trans (if_neg (Nat.not_le.mpr hfew))))))
    · exact does_next rfl ((hands 4 _).trans ((takeMessage_taken hform hroom hkind).trans (onSession_hands hbound htag hgen)))
    · exact does_next rfl ((hands 6 _).trans ((takeMessage_taken hform hroom hkind).trans (if_neg (not_not_intro hsession))))
  · intro u x
    exact ⟨fun h => does_next rfl (if_pos h), fun h => does_next rfl (if_neg (ne_true_of_eq_false h)), does_next rfl rfl,
      fun t hlocked hdue => does_next rfl (doLockoutEnd_due hlocked hdue), fun t hfailed hdue => does_next rfl (doAuthExpiry_due hfailed hdue)⟩

end Sys2Proof.Machine
end

section
/-! The PTP port and the steps of device time (R326-R331). -/

namespace Sys2Proof.Machine

set_option Elab.async false -- one proof at a time: the checks of many at once take more memory than the check of this file allows

theorem doDeferredStep_due {s : State} (hpending : s.clk.stepPending = true) (hfree : s.stepHeld = false) (hfour : 4 ≤ s.ptp.recent.length) :
    doDeferredStep s = stepTime (counterOf (-(meanOffset s.ptp.recent))) s := by
  simp [doDeferredStep, hpending, hfree, hfour]

theorem doDeferredStep_held {s : State} (h : s.stepHeld = true) : doDeferredStep s = s := by
  simp [doDeferredStep, h]

/-- A message is heard while PTP runs, and counted; otherwise it is as if it had not come. -/
theorem onPtp_up {f : State → State} {s : State} (h : s.ptpUp = true) : onPtp f s = f (netCount s.ptpPort 2 64 s) := if_pos h

theorem onPtp_down {f : State → State} {s : State} (h : s.ptpUp = false) : onPtp f s = s := if_neg (ne_true_of_eq_false h)

/-- A unit in control follows a Sync as SLAVE or UNCALIBRATED only. -/
theorem doSync_follows {master : Int} {s : State}
    (h : s.inControl = false ∨ s.ptp.state = .slave ∨ s.ptp.state = .uncalibrated) :
    let x := s.ptp
    let t21 := psOf ((s.ptpNow : Int) - master)
    let o := t21 - x.pathDelay - s.ival 0x1B10 13 4
    doSync master s = useOffset o (if x.recent.isEmpty then none else some x.offset)
      (match x.syncAt with | some v => psOf ((s.ptpNow : Int) - v) | none => 0)
      { s with ptp := { x with
          offset := o, offsetAt := some s.clk.core, recent := (o :: x.recent).take 4
          syncReceived := wrapAdd 32 x.syncReceived 1, syncAt := some s.ptpNow, t21 := t21 } } := by
  have hfollows : ¬ (s.inControl && s.ptp.state != .slave && s.ptp.state != .uncalibrated) = true := by
    rcases h with h | h | h <;> simp [h]
  exact if_neg hfollows

/-- The first measurement of the path delay is the delay. -/
theorem doPtpDelayResp_first {received : Int} {t3 : Nat} {s : State} (hasked : s.ptp.delayReqAt = some t3) (hsync : s.ptp.syncAt ≠ none)
    (hfirst : s.ptp.delays = []) :
    let d := rneDiv (s.ptp.t21 + psOf (received - t3)) 2
    doPtpDelayResp received s = { s with ptp := { s.ptp with delayReqAt := none, delays := [d], pathDelay := rneDiv (0 + d) 1 } } := by
  simp [doPtpDelayResp, hasked, hsync, hfirst]

theorem doDelayReq_master {requester seq : Nat} {s : State} (h : s.mastering = true) :
    doDelayReq requester seq s = sendPtp none 3 seq s.ptpNow requester s := if_pos h

theorem doDelayReq_other {requester seq : Nat} {s : State} (h : s.mastering = false) : doDelayReq requester seq s = s :=
  if_neg (ne_true_of_eq_false h)

theorem doAnnounceSend_due {s : State} (hmaster : s.mastering = true) (hdue : s.ptp.lastAnnounceSent + s.ptpInterval 10 ≤ s.clk.core) :
    doAnnounceSend s = sendCounted none 4 s.now { s with ptp := { s.ptp with lastAnnounceSent := s.clk.core } } := by
  simp [doAnnounceSend, hmaster, hdue]

theorem doAnnounceSend_other {s : State} (h : s.mastering = false) : doAnnounceSend s = s := by
  simp [doAnnounceSend, h]

theorem doSyncSend_next {s : State} (hmaster : s.mastering = true) :
    let n := s.ival 0x1B10 9 1
    let launch := (s.now / (if n < 0 then sT / 2 ^ n.natAbs else sT * 2 ^ n.natAbs) + 1) *
      (if n < 0 then sT / 2 ^ n.natAbs else sT * 2 ^ n.natAbs)
    s.ptp.lastSyncSent ≠ launch →
    doSyncSend s = sendCounted (some launch) 0 0 { s with ptp := { s.ptp with lastSyncSent := launch } } := by
  intro n launch hnew
  have hnew' : (s.mastering && s.ptp.lastSyncSent != launch) = true := by rw [hmaster, Bool.true_and]; exact bne_iff_ne.mpr hnew
  exact if_pos hnew'

theorem doSyncSend_other {s : State} (h : s.mastering = false) : doSyncSend s = s := by
  simp [doSyncSend, h]

theorem doDelayReqSend_due {s : State} (hup : s.ptpUp = true) (hcontrol : s.inControl = true) (hslave : s.ptp.state = .slave)
    (hdue : s.ptp.lastDelaySent + s.ptpInterval 11 ≤ s.clk.core) :
    doDelayReqSend s = sendCounted none 2 0 { s with ptp := { s.ptp with lastDelaySent := s.clk.core } } := by
  simp [doDelayReqSend, hup, hcontrol, hslave, hdue]

theorem doAnnounce_parent {a : Announce} {s : State} (hother : a.sender.toNat ≠ s.clockId) (hnear : a.stepsRemoved.toNat < 255)
    (hparent : s.ptp.parent = some a.sender.toNat) :
    doAnnounce a s = decideState { s with ptp := { s.ptp with
      foreign := heardFrom a s.clk.core s.ptp.foreign, announceAt := s.clk.core } } := by
  simp [doAnnounce, hother, Nat.not_le.mpr hnear, hparent]

theorem doAnnounceTimeout_slave {s : State} (hup : s.ptpUp = true) (hcontrol : s.inControl = true) (hslave : s.ptp.state = .slave)
    (hdue : s.ptp.announceAt + 3 * s.ptpInterval 10 ≤ s.clk.core) :
    doAnnounceTimeout s = decideState { s with ptp := { s.ptp with
      foreign := s.ptp.foreign.filter (fun f => some f.ann.sender.toNat != s.ptp.parent), parent := none, announceAt := s.clk.core } } := by
  simp [doAnnounceTimeout, hup, hcontrol, hslave, Nat.not_lt.mpr hdue]

/-- Settles O51: each message and each time of the port by its equation. -/
theorem ptpPort : Obligations.PtpPort := by
  intro dt master received requester seq a s u x w t2
  refine ⟨fun hup hfollows => ?_, fun hdown => ⟨?_, ?_⟩, fun hpending hfree hfour => ?_, fun hheld => ?_,
    fun t3 hasked hup hsync hfirst => ?_, fun hup hmaster => ?_, fun hup hother => ?_, fun hmaster => ⟨fun hdue => ?_, fun hnew => ?_⟩,
    fun hother => ⟨?_, ?_⟩, fun hup hcontrol hslave hdue => ?_, fun hup hother hnear hparent => ?_,
    fun hup hcontrol hslave hdue => ?_, ?_⟩
  · exact does_next rfl ((onPtp_up hup).trans (doSync_follows (s := w) hfollows))
  · exact does_next rfl (onPtp_down hdown)
  · exact does_next rfl (onPtp_down hdown)
  · exact does_next rfl (doDeferredStep_due hpending hfree hfour)
  · exact does_next rfl (doDeferredStep_held hheld)
  · exact does_next rfl ((onPtp_up hup).trans (doPtpDelayResp_first (s := w) hasked hsync hfirst))
  · exact does_next rfl ((onPtp_up hup).trans (doDelayReq_master (s := w) hmaster))
  · exact does_next rfl ((onPtp_up hup).trans (doDelayReq_other (s := w) hother))
  · exact does_next rfl (doAnnounceSend_due hmaster hdue)
  · exact does_next rfl (doSyncSend_next hmaster hnew)
  · exact does_next rfl (doAnnounceSend_other hother)
  · exact does_next rfl (doSyncSend_other hother)
  · exact does_next rfl (doDelayReqSend_due hup hcontrol hslave hdue)
  · exact does_next rfl ((onPtp_up hup).trans (doAnnounce_parent (s := w) hother hnear hparent))
  · exact does_next rfl (doAnnounceTimeout_slave hup hcontrol hslave hdue)
  · exact does_next rfl rfl

end Sys2Proof.Machine
end

section
/-! The memories' errors, migration and upkeep (R371, R375, R377-R384). -/

namespace Sys2Proof.Machine

set_option Elab.async false -- one proof at a time: the checks of many at once take more memory than the check of this file allows

/-! Errors, retirement and migration -/

section
variable {c r offset : Nat} {user : DramUser} {s : State}

theorem doReadError_served (device : Option (Fin 20)) (hmode : s.sys.mode ≠ .boot) (hchan : chanOf offset = c)
    (hserver : s.serverOf c offset = some r) :
    doReadError c r offset device user s = match device with
      | some d => correct c r d.val offset s
      | none => setChan c { s.chan c with reread := some (offset, r, user) } s := by
  refine if_neg ?_
  simp [hmode, hchan, hserver]

theorem doReadError_otherChan (device : Option (Fin 20)) (h : chanOf offset ≠ c) : doReadError c r offset device user s = s := by
  refine if_pos ?_
  simp [h]

theorem doReread_decodes (h : (s.chan c).reread = some (offset, r, user)) :
    doReread c true s = retire c r 0 (setChan c { s.chan c with reread := none } s) := by
  simp [doReread, h]

theorem doReread_fails (h : (s.chan c).reread = some (offset, r, user)) :
    doReread c false s = staleOnLoss c offset (offset + 128)
      (retire c r 0 (uncorrectable c r offset user (setChan c { s.chan c with reread := none } s))) := by
  simp [doReread, h]

theorem doMigrationStart_due {m : Migration} {k : Nat} (hmigration : (s.chan c).migration = some m) (hslot : m.slot = none)
    (hfree : s.freeSlot = some k) :
    doMigrationStart c s = setChan c { s.chan c with migration := some { m with slot := some k } }
      (startOp k 0x9000 0x0B (2 ^ (1 + c)) (le 1 (4 * c + m.rank)) s) := by
  simp [doMigrationStart, hmigration, hslot, hfree]

theorem doRankMigrated_done {m : Migration} {k : Nat} (hmigration : (s.chan c).migration = some m) (hslot : m.slot = some k)
    (hrunning : (s.slot k).state = .running) (hsliced : (s.slot k).sliced = true) :
    let p := (s.rank c m.rank).pair
    let v := setRank c m.spare { s.rank c m.spare with state := .inService, pair := p, copied := s.rankWords }
      (setRankState c m.rank .retired s)
    let w := writeExclude (setBit s.dram.exclude (4 * c + m.rank) true) (setChan c { v.chan c with migration := none } v)
    doRankMigrated c s = endOp k .done 0 (raise 0x1002 (0x0500 + c)
      ([BitVec.ofNat 8 c, BitVec.ofNat 8 m.rank, BitVec.ofNat 8 m.spare, 0] ++ le 4 (s.poisonedIn c p)) w) := by
  simp [doRankMigrated, hmigration, hslot, hrunning, hsliced]

end

/-- Settles O52: each error and each step of a migration by its equation. -/
theorem memoryErrors : Obligations.MemoryErrors := by
  intro dt c r offset d user writeCrc s u
  refine ⟨fun hmode hchan hserver => ⟨?_, ?_⟩, fun hother => ?_, fun hreread => ⟨?_, ?_⟩, fun hmode => ?_, fun hboot => ?_,
    fun m k hmigration hslot hfree => ?_, fun m k hmigration hslot hrunning hsliced => ?_⟩
  · exact does_next rfl (doReadError_served (some d) hmode hchan hserver)
  · exact does_next rfl (doReadError_served none hmode hchan hserver)
  · exact does_next rfl (doReadError_otherChan none hother)
  · exact does_next rfl (doReread_decodes hreread)
  · exact does_next rfl (doReread_fails hreread)
  · exact does_next rfl (if_neg fun h => hmode (eq_of_beq h))
  · exact does_next rfl (if_pos (beq_iff_eq.mpr hboot))
  · exact does_next rfl (doMigrationStart_due hmigration hslot hfree)
  · exact does_next rfl (doRankMigrated_done hmigration hslot hrunning hsliced)

/-! Upkeep -/

/-- Upkeep of a channel in service that is due. -/
theorem serviceDue {c t : Nat} {s : State} (hservice : s.chanInService c = true) (hdue : t ≤ s.clk.core) :
    (s.chanInService c && decide (t ≤ s.clk.core)) = true := by
  simp [hservice, hdue]

theorem not_serviceDue {c t : Nat} {s : State} (hearly : s.clk.core < t) :
    ¬ (s.chanInService c && decide (t ≤ s.clk.core)) = true := by
  simp [Nat.not_le.mpr hearly]

section
variable {c : Nat} {s : State}

theorem doTempPoll_sameBand {reports : List (Option Int)} {t : Int} (hservice : s.chanInService c = true) (hmode : s.sys.mode ≠ .boot)
    (hreport : s.hottestRank c reports = some t) (hband : bandOf t = (s.chan c).band) :
    doTempPoll c reports s = sampleSensor (0x1000 + c) t (setChan c { s.chan c with temp := t, below := none } s) := by
  simp [doTempPoll, hservice, hmode, hreport, hband]

theorem doTempPoll_hotter {reports : List (Option Int)} {t : Int} (hservice : s.chanInService c = true) (hmode : s.sys.mode ≠ .boot)
    (hreport : s.hottestRank c reports = some t) (hband : (s.chan c).band < bandOf t) :
    doTempPoll c reports s = sampleSensor (0x1000 + c) t
      (setBand c (bandOf t) (setChan c { s.chan c with temp := t, below := none } s)) := by
  simp [doTempPoll, hservice, hmode, hreport, hband, Nat.not_lt_of_gt hband]

theorem doPatrol_clean (hservice : s.chanInService c = true) (hband : (s.chan c).band ≠ 2) (hmigration : (s.chan c).migration = none)
    (hdie : s.therm.fDie ≠ 0) (hmid : (s.chan c).patrol ≠ 0) :
    let n := s.skipGone c (nextWord (s.chan c).patrol)
    doPatrol c none s = if s.resEnd ≤ 128 * n then setChan c { s.chan c with patrol := 0, passes := wrapAdd 32 (s.chan c).passes 1 } s
      else setChan c { s.chan c with patrol := n } s := by
  simp [doPatrol, hservice, hband, hmigration, hdie, hmid]

theorem doBandFall_due {t : Nat} (hbelow : (s.chan c).below = some t) (hdue : t + sCk 1 ≤ s.clk.core) (hband : 0 < (s.chan c).band) :
    doBandFall c s = setBand c ((s.chan c).band - 1) (setChan c { s.chan c with
      below := if bandOf (s.chan c).temp < (s.chan c).band - 1 then some s.clk.core else none } s) := by
  simp only [doBandFall, hbelow, if_pos (And.intro hdue hband)]

theorem doHammer_near {bank row : Nat} (hmode : s.sys.mode ≠ .boot) (hradius : s.val 0x9000 4 ≠ 2) (hrow : row ≠ 0) :
    let v := emit (.dram 3 c bank (row - 1)) (emit (.dram 3 c bank (row + 1)) s)
    let y := v.chan c
    let count := countRows (s.val 0x9000 3) (Config.activations s.free)
    doHammer c bank row s = raiseLimited (sCk 1) 0x1003 c (0x0500 + c) (le 1 c ++ zeros 3 ++ le 4 (wrapAdd 32 y.hammer 1))
      (setChan c { y with hammer := wrapAdd 32 y.hammer 1, tables := tmod [] y.tables bank (fun t => zeroRow row (count t)) } (draw v)) := by
  have hbelow : 1 ≤ row := Nat.pos_of_ne_zero hrow
  intro v y count
  simp only [doHammer, forEach, List.foldl, if_neg hradius, if_pos hbelow, beq_eq_false_iff_ne.mpr hmode]
  rfl

end

/-- Settles O53: each period of the memories' upkeep by its equation. -/
theorem memoryUpkeep : Obligations.MemoryUpkeep := by
  intro dt c bank row reports s u x
  refine ⟨fun hservice => ⟨fun hdue => ?_, fun hearly => ?_, fun hdue => ?_, fun hdue => ?_, fun t hmode hreport hband => ?_,
    fun t hmode hreport hband => ?_, fun hband hmigration hdie hmid => ?_⟩, fun t hbelow hdue hband => ?_, fun hdue => ?_,
    fun hmode hradius hrow => ?_⟩
  · exact does_next rfl (if_pos (serviceDue hservice hdue))
  · exact does_next rfl (if_neg (not_serviceDue hearly))
  · exact does_next rfl (if_pos (serviceDue hservice hdue))
  · exact does_next rfl (if_pos (serviceDue hservice hdue))
  · exact does_next rfl (doTempPoll_sameBand hservice hmode hreport hband)
  · exact does_next rfl (doTempPoll_hotter hservice hmode hreport hband)
  · exact does_next rfl (doPatrol_clean hservice hband hmigration hdie hmid)
  · exact does_next rfl (doBandFall_due hbelow hdue hband)
  · exact does_next rfl (if_pos hdue)
  · exact does_next rfl (doHammer_near hmode hradius hrow)

end Sys2Proof.Machine
end

section
/-! Sensors and power (R388-R404), resets and fatal causes (R408-R435), and the test access port (R452, R453). -/

namespace Sys2Proof.Machine

set_option Elab.async false -- one proof at a time: the checks of many at once take more memory than the check of this file allows

/-! Sensors and power -/

section
variable {s : State}

theorem doDieSample_served {readings : List (Option Int)} (hmode : s.sys.mode ≠ .boot) :
    doDieSample readings s = setFactor (forEach (List.range 12) (fun d s =>
      match readings.getD d none with
      | some t => convertDie d t s
      | none => s) s) :=
  if_neg fun h => hmode (eq_of_beq h)

theorem doDieSample_boot {readings : List (Option Int)} (hboot : s.sys.mode = .boot) : doDieSample readings s = s :=
  if_pos (beq_iff_eq.mpr hboot)

theorem doDieSilent_due {d : Nat} (hmode : s.sys.mode ≠ .boot) (hdue : (s.sensor d).at_ + msCk 10 ≤ s.clk.core) :
    doDieSilent d s = setFactor (failDie d (s.sensor d).reading s) := by
  refine if_neg ?_
  simp [hmode, hdue]

theorem doDieSilent_boot {d : Nat} (hboot : s.sys.mode = .boot) : doDieSilent d s = s := by
  refine if_pos ?_
  simp [hboot]

theorem doSensorStale_stopped {id : Nat} (hsampled : thas s.therm.sensors id = true) (hstopped : s.sensorStopped id = true) :
    doSensorStale id s = if id / 4096 = 1 then holdBand (id % 4096) (forgetSensor id s) else forgetSensor id s := by
  simp [doSensorStale, hsampled, hstopped]

theorem doSensorStale_unknown {id : Nat} (h : thas s.therm.sensors id = false) : doSensorStale id s = s := by
  simp [doSensorStale, h]

theorem doPhotoTimeout_due {p : PhotoCal} (hphoto : s.cal.photo = some p) (hdue : p.sinceAt + sCk 10 ≤ s.clk.core) :
    doPhotoTimeout s = endOp p.slot .failed 0xAB110005 (dropPhoto s) := by
  simp only [doPhotoTimeout, hphoto, if_pos hdue]

theorem doPhotoTimeout_none (h : s.cal.photo = none) : doPhotoTimeout s = s := by
  simp only [doPhotoTimeout, h]

theorem doPfailAssert_idle (hgood : s.arc.pfail = false) (hnone : s.committing = none) :
    doPfailAssert s = raise 0x1104 0 [1, 0] { s with arc := { s.arc with pfail := true } } := by
  simp [doPfailAssert, hgood, hnone, b2n]

theorem doPfailAssert_cuts {k : Nat} (hgood : s.arc.pfail = false) (hcommit : s.committing = some k) :
    doPfailAssert s = raise 0x1104 0 [1, 1] (endOp k .failed 0xAB110008 (dropCommit { s with arc := { s.arc with pfail := true } })) := by
  simp [doPfailAssert, hgood, hcommit, b2n]

end

/-- Settles O54: each sample, wait and level by its equation. -/
theorem sensorsAndPower : Obligations.SensorsAndPower := by
  intro dt readings d id s u v
  refine ⟨fun hmode => ⟨?_, fun hdue => ?_⟩, fun hboot => ⟨?_, ?_⟩, fun hsampled hstopped => ?_, fun hnone => ?_, fun p hphoto hdue => ?_,
    fun hnone => ?_, fun hgood hnone => ?_, fun hgood k hcommit => ?_, fun hfail => ⟨?_, ?_⟩, fun hgood => ?_⟩
  · exact does_next rfl (doDieSample_served hmode)
  · exact does_next rfl (doDieSilent_due hmode hdue)
  · exact does_next rfl (doDieSample_boot hboot)
  · exact does_next rfl (doDieSilent_boot hboot)
  · exact does_next rfl (doSensorStale_stopped hsampled hstopped)
  · exact does_next rfl (doSensorStale_unknown hnone)
  · exact does_next rfl (doPhotoTimeout_due hphoto hdue)
  · exact does_next rfl (doPhotoTimeout_none hnone)
  · exact does_next rfl (doPfailAssert_idle hgood hnone)
  · exact does_next rfl (doPfailAssert_cuts hgood hcommit)
  · exact does_next rfl (if_pos hfail)
  · exact does_next rfl (if_pos hfail)
  · exact does_next rfl (if_neg (ne_true_of_eq_false hgood))

/-! Resets and fatal causes -/

section
variable {s : State}

/-- With no self-test running a fault or RESET_N has its own effect. -/
theorem orStop_none {stop cause : Nat} {f : State → State} (h : s.test.run = none) : orStop stop cause f s = f s := by
  simp only [orStop, h]

theorem doSupplyFault_running {rail mv : Nat} :
    let v := noteRail rail mv { s with sys := { s.sys with railsBad := setBit s.sys.railsBad rail true } }
    v.sys.mode ≠ .boot → v.test.run = none → doSupplyFault rail mv s = safeSet 5 (giveUp 4 v) :=
  fun hmode hrun => (if_neg fun h => hmode (eq_of_beq h)).trans (orStop_none hrun)

theorem doSupplyFault_boot {rail mv : Nat} :
    let v := noteRail rail mv { s with sys := { s.sys with railsBad := setBit s.sys.railsBad rail true } }
    v.sys.mode = .boot → doSupplyFault rail mv s = v :=
  fun hboot => if_pos (beq_iff_eq.mpr hboot)

theorem doClockFault_pll (hmode : s.sys.mode ≠ .boot) (hrun : s.test.run = none) :
    doClockFault .pll s = safeSet 6 (giveUp 3 { s with sys := { s.sys with clocksBad := setBit s.sys.clocksBad 1 true } }) :=
  (if_neg fun h => hmode (eq_of_beq h)).trans (orStop_none hrun)

theorem doResetTakes_due {t : Nat} (hat : s.sys.resetAt = some t) (hdue : t ≤ s.clk.core) : doResetTakes s = warmReset 2 s := by
  simp only [doResetTakes, hat, if_pos hdue]

theorem doResetTakes_early {t : Nat} (hat : s.sys.resetAt = some t) (hearly : s.clk.core < t) : doResetTakes s = s := by
  simp only [doResetTakes, hat, if_neg (Nat.not_le.mpr hearly)]

theorem doFatalReset_due {t cause : Nat} (hat : s.sys.fatalAt = some (t, cause)) (hdue : t ≤ s.clk.core) :
    doFatalReset s = warmReset cause s := by
  simp only [doFatalReset, hat, if_pos hdue]

theorem doFatalReset_early {t cause : Nat} (hat : s.sys.fatalAt = some (t, cause)) (hearly : s.clk.core < t) : doFatalReset s = s := by
  simp only [doFatalReset, hat, if_neg (Nat.not_le.mpr hearly)]

theorem fatal_test {bit cause reset : Nat} (h : s.sys.mode = .test) : fatal bit cause reset s = safeSet bit s :=
  if_pos (beq_iff_eq.mpr h)

theorem fatal_first {bit cause reset : Nat} (hmode : s.sys.mode ≠ .test) :
    let v := safeSet bit (giveUp cause s)
    v.sys.fatalAt = none →
    fatal bit cause reset s = { v with sys := { v.sys with fatalAt := some (v.clk.core + msCk 1, reset) } } := by
  intro v hfirst
  have hnone : v.sys.fatalAt.isSome = false := Option.isSome_eq_false_iff.mpr (Option.isNone_iff_eq_none.mpr hfirst)
  exact (if_neg fun h => hmode (eq_of_beq h)).trans (if_neg (ne_true_of_eq_false hnone))

end

/-- Settles O55: each reset, fault and restored supply by its equation. -/
theorem resets : Obligations.Resets := by
  refine ⟨fun dt straps rail mv s => ?_, fun dt rail mv which s => ?_⟩
  · intro u base bad railBad
    refine ⟨?_, fun hrun => ⟨?_, fun hmode hrailRun => ?_, fun hmode => ?_⟩, fun hboot => ?_, ?_, ?_,
      fun t hat => ⟨fun hdue => ?_, fun hearly => ?_⟩, fun t cause hat => ⟨fun hdue => ?_, fun hearly => ?_⟩,
      fun htest => ⟨?_, ?_⟩, fun hmode => ⟨fun hfirst => ?_, fun hfirst => ?_⟩⟩
    · exact does_next rfl rfl
    · exact does_next rfl (orStop_none hrun)
    · exact does_next rfl (doSupplyFault_running hmode hrailRun)
    · exact does_next rfl (doClockFault_pll hmode hrun)
    · exact does_next rfl (doSupplyFault_boot hboot)
    · exact does_next rfl rfl
    · exact does_next rfl rfl
    · exact does_next rfl (doResetTakes_due hat hdue)
    · exact does_next rfl (doResetTakes_early hat hearly)
    · exact does_next rfl (doFatalReset_due hat hdue)
    · exact does_next rfl (doFatalReset_early hat hearly)
    · exact does_next rfl (fatal_test htest)
    · exact does_next rfl (fatal_test htest)
    · exact does_next rfl (fatal_first hmode hfirst)
    · exact does_next rfl (fatal_first hmode hfirst)
  · intro u
    exact ⟨does_next rfl rfl, does_next rfl rfl⟩

/-! The test access port -/

section
variable {s : State}

theorem tapTake_low {ir : TapIr} {pins : PinOwner} {shiftOut : Bytes} (h : s.porstLow = true) :
    tapTake ir pins shiftOut s = { s with tap := { s.tap with ir := ir, shiftOut := shiftOut, pins := pins } } := if_pos h

/-- An instruction that takes the pins is BYPASS while PORST_N is high. -/
theorem tapTake_high {ir : TapIr} {pins : PinOwner} {shiftOut : Bytes} (h : s.porstLow = false) :
    tapTake ir pins shiftOut s = { s with tap := { s.tap with ir := .bypass, shiftOut := [0], pins := .engine } } :=
  if_neg (ne_true_of_eq_false h)

theorem resetTap_rise (h : s.porstLow = true) :
    resetTap true s = { s with tap := {}, porstLow := false, sys := { s.sys with bootStart := s.clk.core } } := if_pos h

theorem resetTap_high (h : s.porstLow = false) : resetTap true s = { s with tap := {} } := if_neg (ne_true_of_eq_false h)

theorem idcode_bytes : le 4 0x18512D37 = [0x37, 0x2D, 0x51, 0x18] := by decide

end

/-- Settles O57: each instruction by its equation, PORST_N low and high. -/
theorem testAccessPort : Obligations.TestAccessPort := by
  intro dt bits opcode s u passed
  refine ⟨fun hlow => ⟨?_, ?_, ?_, ?_, ?_, ?_⟩, fun hhigh => ⟨?_, ?_, ?_, ?_, ?_, ?_⟩, ?_, ?_, ?_, fun hother => ?_, fun hlisted => ?_⟩
  · exact does_next rfl (congrArg draw (tapTake_low hlow))
  · exact does_next rfl (congrArg draw (tapTake_low hlow))
  · exact does_next rfl (congrArg draw (tapTake_low hlow))
  · exact does_next rfl (tapTake_low hlow)
  · exact does_next rfl (tapTake_low hlow)
  · exact does_next rfl (resetTap_rise hlow)
  · exact does_next rfl (congrArg draw (tapTake_high hhigh))
  · exact does_next rfl (congrArg draw (tapTake_high hhigh))
  · exact does_next rfl (congrArg draw (tapTake_high hhigh))
  · exact does_next rfl (tapTake_high hhigh)
  · exact does_next rfl (tapTake_high hhigh)
  · exact does_next rfl (resetTap_high hhigh)
  · exact does_next rfl rfl
  · exact does_next rfl (idcode_bytes ▸ rfl)
  · exact does_next rfl rfl
  · exact does_next rfl (if_neg (Nat.not_le.mpr hother))
  · exact does_next rfl (if_pos hlisted)

end Sys2Proof.Machine
end
